-- ==== Sys2Proof/Word.lean ====
section
/-! DEFINITION. The plain number types of the PG144 manual: bytes, compartment numbers, columns, ring slots,
charge slots, and the unit in which the model counts time. -/

set_option Elab.async false

namespace Sys2Proof

/-- One byte of a frame. -/
abbrev Byte := BitVec 8

/-- Characters carried in a frame, one byte each, in order. -/
abbrev Text := List Byte

/-- A compartment number, column × 16 + position (00_scope section 5.3). -/
abbrev Comp := Fin 144

/-- A column of the bank, 0 to 8. -/
abbrev Column := Fin 9

/-- A slot of the manifest ring, 0 to 31; 31 is followed by 0 (R66). -/
abbrev RingSlot := Fin 32

/-- A charge slot, 0 to 7 (R125). -/
abbrev ChargeSlot := Fin 8

/-- A consignment record number, 0 to 143 (R9). -/
abbrev RecordNo := Fin 144

/-- The column of a compartment (00_scope section 5.3). -/
def Comp.column (c : Comp) : Column := ⟨c.val / 16, by omega⟩

/-- The position of a compartment inside its column (00_scope section 5.3). -/
def Comp.position (c : Comp) : Fin 16 := ⟨c.val % 16, by omega⟩

/-- The compartment at a column and position. -/
def Comp.at (col : Column) (p : Fin 16) : Comp := ⟨col.val * 16 + p.val, by omega⟩

/-- Every compartment, in compartment number order. -/
def Comp.all : List Comp := List.finRange 144

/-- The largest amount of money (00_scope section 5.2). -/
def maxAmount : Nat := 999999

/-- The largest 32-bit count: a custody minute, a carrier ID, a carried amount (00_scope section 5.2). -/
def maxWord : Nat := 4294967295

/-- The model's unit of time is 1/32,768,000 s: one cycle of the 32,768 Hz crystal (R189) is 1,000 of them. -/
def unitsPerCycle : Nat := 1000

/-- Milliseconds in the model's unit of time. -/
def msUnits (n : Nat) : Nat := 32768 * n

/-- Seconds in the model's unit of time. -/
def secUnits (n : Nat) : Nat := 32768000 * n

/-- Whole seconds remaining, rounded up (R35, R132, R144, R186). -/
def secondsUp (t : Nat) : Nat := (t + 32767999) / 32768000

end Sys2Proof
end

