-- ==== Sys2Proof/Syntax.lean ====
section
/-! DEFINITION. The commands of the PG144 (spec/opcode_table.json, one constructor a row) and the operands they
carry. A request carries the fields of its frame (R201, R212); an operand whose frame byte lies outside the value's
stated set is none. An event carries what it names. -/

namespace Sys2Proof

/-- Size classes, ordered S < M < L < XL (R1). -/
inductive SizeClass where | s | m | l | xl
  deriving DecidableEq, Repr

/-- Which deposit kinds the allocator may place in a compartment (R1). -/
inductive UseClass where | any | deliveryOnly | returnOnly
  deriving DecidableEq, Repr

/-- The state a holding returns to when a claim or review ends without removal (R5). -/
inductive RestState where | held | overstayed | returnHeld
  deriving DecidableEq, Repr

/-- How a return fee is divided between lane O and lane K (R49, R105). -/
inductive ReturnMode where | prepaid | split | carrierFull
  deriving DecidableEq, Repr

/-- The rounding mode of stage 7 (R93, R103). -/
inductive RoundingMode where | nearestEven | down | up
  deriving DecidableEq, Repr

/-- Kinds of descriptor (R66). -/
inductive DescKind where | drop | recall | pickup
  deriving DecidableEq, Repr

/-- The outcome a Payment Result reports (R133). -/
inductive CardOutcome where | approved | declined
  deriving DecidableEq, Repr

/-- The outcome of a pulse (R157). -/
inductive PulseOutcome where | good | openCoil | short
  deriving DecidableEq, Repr

/-- The role a port's straps give it (R200). -/
inductive Role where | console | courier | payment | operations
  deriving DecidableEq, Repr

/-- The transmission rate a port's straps give it, in kbit/s (R200). -/
inductive Rate where | k57 | k115 | k230 | k460
  deriving DecidableEq, Repr

/-- One value for each size class. -/
structure PerSize (α : Type) where
  s : α
  m : α
  l : α
  xl : α
  deriving DecidableEq, Repr

/-- What every request frame carries beside its payload fields: the port it completed on, its sequence byte, and
the length of its payload (R201). -/
structure Head where
  port : Fin 4
  seq : Byte
  len : Nat
  deriving DecidableEq, Repr

/-- The level of the sense lines, compartment by compartment, as the multiplexer would present it: bit c of doors is
set when the door switch of compartment c reads open, bit c of occupied when its presence sensor reads OCCUPIED
(R172, R213). -/
structure Sense where
  doors : BitVec 144
  occupied : BitVec 144
  deriving DecidableEq, Repr

/-- The role and rate straps of one port (R200). -/
structure Strap where
  role : Role
  rate : Rate
  deriving DecidableEq, Repr

/-- The straps of ports 0 to 3 (R200). -/
abbrev Straps := Vector Strap 4

/-- The courier's part of a descriptor slot, as Slot Write carries it (R66, R68). An empty parcel reference is
absent. -/
structure SlotFields where
  kind : Option DescKind
  first : Bool
  last : Bool
  notify : Bool
  carrierId : Nat
  parcelRef : Text
  size : Option SizeClass
  cod : Option Nat
  code : Option Text
  deriving DecidableEq, Repr

/-- The seven fields of a tariff class (R92). -/
structure ClassValues where
  f : Nat
  u : Nat
  b : Nat
  r1 : Nat
  r2 : Nat
  c : Nat
  l : Nat
  deriving DecidableEq, Repr

/-- The bank-wide tariff fields as Set Tariff carries them for target BANK (R93, R212). -/
structure BankValues where
  mult : PerSize Nat
  fee : PerSize Nat
  rounding : Option RoundingMode
  grace : Nat
  deriving DecidableEq, Repr

/-- The fields Amend Holding carries after its field-select set (R29, R212). -/
structure AmendFields where
  parcelRef : Text
  tariffClass : Nat
  depositMinute : Nat
  rest : Option RestState
  cod : Nat
  deriving DecidableEq, Repr

/-- The fields Set Carrier carries after its field-select set (R51, R212). -/
structure CarrierFields where
  id : Nat
  enabled : Option Bool
  rights : Byte
  sizes : Byte
  tariffClass : Nat
  mode : Option ReturnMode
  quota : Nat
  deriving DecidableEq, Repr

/-- The fields Set Timing carries after its field-select set (R166, R183, R212). -/
structure TimingFields where
  pulseLength : Nat
  budget : Nat
  openWindow : Nat
  ajarTime : Nat
  deriving DecidableEq, Repr

/-- The commands of the PG144, one constructor for each row of spec/opcode_table.json. -/
inductive Instr where
  -- every port (chapter 11)
  | readNotice (h : Head)
  | portReset (h : Head) (sense : Sense)
  -- console (chapters 2 and 7)
  | lookup (h : Head) (code : Text)
  | quote (h : Head) (code : Text)
  | voidQuote (h : Head) (slot gen : Nat)
  | collect (h : Head) (code : Text)
  | returnBegin (h : Head) (carrierId : Nat) (size : Option SizeClass) (parcelRef : Text)
  | returnCancel (h : Head) (record : Nat) (sense : Sense)
  | releaseCharge (h : Head) (slot gen : Nat)
  -- courier (chapter 4)
  | slotWrite (h : Head) (slot : Nat) (fields : SlotFields)
  | slotRead (h : Head) (slot : Nat)
  | handOver (h : Head) (first count : Nat)
  | start (h : Head) (slot : Nat)
  | resume (h : Head)
  | stop (h : Head) (sense : Sense)
  -- payment (chapter 7)
  | fetchCharge (h : Head) (ref : Option (Nat × Nat))
  | paymentResult (h : Head) (slot gen : Nat) (outcome : Option CardOutcome) (amountO amountK : Nat)
  -- operations on custody (chapter 1)
  | setCompartment (h : Head) (comp : Nat) (fitted : Option Bool) (size : Option SizeClass) (use : Option UseClass)
  | withholdToReview (h : Head) (targetOk : Bool) (comp : Nat)
  | withholdToOutOfService (h : Head) (targetOk : Bool) (comp : Nat)
  | resolveReviewRestore (h : Head) (actionOk : Bool) (comp : Nat)
  | resolveReviewWaive (h : Head) (actionOk : Bool) (comp : Nat)
  | resolveReviewRetire (h : Head) (actionOk : Bool) (comp : Nat)
  | resolveReviewWithdraw (h : Head) (actionOk : Bool) (comp : Nat)
  | returnToService (h : Head) (comp : Nat)
  | amendHolding (h : Head) (comp : Nat) (sel : BitVec 16) (v : AmendFields)
  -- operations on settings (chapters 3, 5, 6, 8)
  | setCarrier (h : Head) (index : Nat) (sel : BitVec 16) (v : CarrierFields)
  | readCarrier (h : Head) (index : Nat)
  | setTariff (h : Head) (target : Nat) (sel : BitVec 16) (cls : ClassValues) (bank : BankValues)
  | readTariff (h : Head) (target : Nat)
  | setMasks (h : Head) (set : Byte)
  | clearConditions (h : Head) (set : Byte)
  | readConditions (h : Head)
  -- operations on releases (chapter 8)
  | serviceRelease (h : Head) (comp : Nat) (clearance : Option Bool)
  | withdrawService (h : Head) (comp : Nat)
  | testPulse (h : Head) (comp : Nat)
  | columnRestore (h : Head) (column : Nat)
  | setTiming (h : Head) (sel : BitVec 16) (v : TimingFields)
  -- operations reads (chapters 7 and 11)
  | readCompartment (h : Head) (comp : Nat)
  | readConsignment (h : Head) (record : Nat)
  | readCharge (h : Head) (slot : Nat)
  | readQueueQueue (h : Head) (partOk : Bool)
  | readQueueEngine (h : Head) (partOk : Bool)
  | readQueuePickup (h : Head) (partOk : Bool) (slot : Nat)
  | readQueueLists (h : Head) (partOk : Bool)
  | readClock (h : Head)
  -- the port units (chapter 11)
  | unknownRequestCode (h : Head) (code : Byte)
  | frameDiscarded (port : Fin 4)
  | frameGapTimeout (port : Fin 4)
  | responseSent (port : Fin 4)
  -- the sequencer (chapter 8)
  | armingEnd (column : Column)
  | pulseGood (column : Column) (sense : Sense)
  | pulseOpenCoil (column : Column) (sense : Sense)
  | pulseShort (column : Column) (sense : Sense)
  | testPulseEnd (column : Column) (outcome : PulseOutcome) (sense : Sense)
  | runWindowEnd (column : Column) (sense : Sense)
  | recoveringEnd (column : Column)
  | svcKeyOn
  | svcKeyOff
  -- power (chapter 10)
  | pfailAssert
  | pfailNegate (straps : Straps)
  | mainsFall
  | mainsReturn (straps : Straps)
  | resetAssert
  | resetRelease (straps : Straps)
  | retentionLoss
  | custodyTick
  -- timers and the scanner (chapters 2, 7, 9)
  | chargeExpiry (slot : ChargeSlot)
  | lockoutEnd
  | sweepStart
  | sweepColumnStep (sense : Sense)
  | openWindowEnd (comp : Comp)
  | ajarTimerEnd (comp : Comp)
  deriving DecidableEq, Repr

end Sys2Proof
end

