-- ==== Sys2Proof/Decode.lean ====
section
/-! DEFINITION. The opcode table of this block gives no row any bits, so no word spells a command. (The frames that
carry requests are read in Machine/Frames.lean.) -/

namespace Sys2Proof

/-- The command that a word spells by the table's bits: none, since the table gives bits to no row. -/
def decodeTableWord (_nbits _w : Nat) : Option Instr := none

end Sys2Proof
end

