-- ==== Sys2Proof/Config.lean ====
section
/-! DEFINITION. What one PG144 fixes, and the values its manual leaves open. The free values are opaque: nothing
in Lean can evaluate them, so whatever is proved holds for every value of them. -/

namespace Sys2Proof.Config

/-- Free value: the n-th value taken from the part's internal random source as the code generator's seed (R63).
Log 7. -/
opaque randomSeed : Nat → Nat

/-- Free value: the fixed pseudo-random sequence of candidates that a seed determines. It runs through every value
from 00000000 to 99999999 once in each period (R63), so it is a permutation of them. Log 7. -/
opaque codeSequence : Nat → Equiv.Perm (Fin 100000000)

/-- Free value: the order in which the engine, the paid return list and the pending service set reach the sequencer
at the n-th departure at which more than one of them asks for the freed entry (R84, R146, R163). Log 8. -/
opaque askOrder : Nat → Fin 6

/-- Entries the release queue holds (R145). -/
def queueCap : Nat := 16
/-- Entries of the release queue that the manifest engine may hold (R77). -/
def engineShare : Nat := 12
/-- Descriptors the in-progress window holds (R78). -/
def windowCap : Nat := 8
/-- Entries the pending service set holds (R163). -/
def pendingCap : Nat := 8
/-- Notices a port's queue holds (R205). -/
def noticeCap : Nat := 16
/-- The pass-over count at which an entry is taken ahead of all others (R155). -/
def passOverLimit : Nat := 4
/-- Sub-minute counts in a custody minute (R189). -/
def subMinutes : Nat := 1966080
/-- Candidates in one period of the code sequence (R63). -/
def codePeriod : Nat := 100000000

end Sys2Proof.Config
end

