-- ==== Sys2Proof/Machine/State.lean ====
section
/-! DEFINITION. Every piece of state the manual gives the PG144, block by block, and its value right after reset.
A record that has optional fields "present in" some of its states is an inductive with those fields as arguments. -/

namespace Sys2Proof.Machine

/-! ### The custody table (chapter 1) -/

/-- The eleven custody states (R3). -/
inductive CustodyState where
  | notFitted | free | reserved | loading | held | overstayed | returnHeld | releasing | emptying | review
  | outOfService
  deriving DecidableEq, Repr

/-- Why a compartment is OUT_OF_SERVICE (R4). -/
inductive OosCause where | lockFault | forced | foreignObject | operator
  deriving DecidableEq, Repr

/-- The party that made a claim (R5). -/
inductive Claimant where | customer | carrier | service
  deriving DecidableEq, Repr

/-- Where the deposit outcomes of a holding are reported (R5). -/
inductive Origin where
  | slot (n : RingSlot)
  | console
  deriving DecidableEq, Repr

/-- Review causes (R6). -/
inductive ReviewCause where | forced | feeCondition | missing | interrupted | operator
  deriving DecidableEq, Repr

/-- The custody record of one parcel in one compartment (R5). -/
structure Holding where
  record : RecordNo
  parcelRef : Option Text
  size : SizeClass
  tariffClass : Fin 4
  depositMinute : Option Nat
  rest : Option RestState
  claimant : Option Claimant
  origin : Origin
  causes : List ReviewCause
  releaseInterrupted : Bool
  collectIncomplete : Bool
  deriving DecidableEq, Repr

/-- A compartment entry (R1). -/
structure CompartmentEntry where
  fitted : Bool
  size : SizeClass
  use : UseClass
  state : CustodyState
  cause : Option OosCause
  holding : Option Holding
  deriving DecidableEq, Repr

/-- Which deposit path created a consignment (R9). -/
inductive ConsKind where | delivery | returnDrop
  deriving DecidableEq, Repr

/-- A charge reference, slot/generation (R126). -/
structure ChargeRef where
  slot : ChargeSlot
  gen : Nat
  deriving DecidableEq, Repr

/-- A consignment record (R9). Its record number is its place in the table. -/
structure Consignment where
  code : Option Nat
  kind : ConsKind
  carrier : Fin 8
  pieces : List Comp
  cod : Nat
  laneO : Nat
  laneK : Nat
  paidO : Nat
  paidK : Nat
  paidThrough : Option Nat
  waived : Bool
  openRef : Option ChargeRef
  deriving DecidableEq, Repr

/-- The custody table: compartment entries, the consignment table, and the code map in ascending code order
(R1, R9, R10). -/
structure Custody where
  entries : Vector CompartmentEntry 144
  records : Vector (Option Consignment) 144
  codeMap : List (Nat × RecordNo)
  deriving DecidableEq, Repr

/-! ### Carriers and the code generator (chapter 3) -/

/-- A carrier's rights (R49). -/
structure Rights where
  deliver : Bool
  pickupReturns : Bool
  cod : Bool
  acceptReturns : Bool
  deriving DecidableEq, Repr

/-- A carrier entry (R49). -/
structure CarrierEntry where
  id : Nat
  enabled : Bool
  rights : Rights
  sizes : PerSize Bool
  tariffClass : Fin 4
  mode : ReturnMode
  quota : Nat
  live : Nat
  deriving DecidableEq, Repr

/-- The code generator: seed and position (R63). `drawn` is the model's own count of the seeds taken from the random
source (log 7). -/
structure CodeGen where
  seed : Nat
  position : Nat
  drawn : Nat
  deriving DecidableEq, Repr

/-! ### The tariff unit (chapters 5 and 6) -/

/-- The six conditions (R113). -/
inductive Condition where | clock | tariff | sat | capped | round | overpaid
  deriving DecidableEq, Repr

/-- One value for each of the six conditions. -/
structure PerCond (α : Type) where
  clock : α
  tariff : α
  sat : α
  capped : α
  round : α
  overpaid : α
  deriving DecidableEq, Repr

/-- A set of conditions. -/
abbrev CondSet := PerCond Bool

/-- The bank-wide settings (R93). -/
structure BankSettings where
  mult : PerSize Nat
  fee : PerSize Nat
  rounding : RoundingMode
  grace : Nat
  deriving DecidableEq, Repr

/-- The tariff unit: tariff table, bank-wide settings, masks (true is masked), sticky set with its first-raised
minutes (R92, R93, R115, R116). -/
structure TariffUnit where
  classes : Vector ClassValues 4
  bank : BankSettings
  masks : CondSet
  sticky : PerCond (Option Nat)
  deriving DecidableEq, Repr

/-! ### The charge table (chapter 7) -/

/-- The states of a charge (R127); `opened` is OPEN. -/
inductive ChargeState where | free | opened | presented | paid | declined | expired | void
  deriving DecidableEq, Repr

/-- Why a DECLINED or VOID charge ended (R127); `byModule` is MODULE. -/
inductive EndCause where | mismatch | byModule | voidQuote | requote | collect | returnCancel | portReset | retired
  deriving DecidableEq, Repr

/-- A charge record (R125), but for its generation, which lies in the backup domain. `expiry` is the time left on the
expiry timer; `code` is the collection code of the consignment the charge was opened for, kept to tell whether the
consignment "still has one" (R139, log 14). -/
structure ChargeRecord where
  state : ChargeState
  record : Option RecordNo
  laneO : Nat
  laneK : Nat
  creation : Nat
  expiry : Nat
  paymentMinute : Option Nat
  cause : Option EndCause
  code : Option Nat
  deriving DecidableEq, Repr

/-- The charge table (R125, R128). `subSecond` counts the crystal cycles of the second in progress. -/
structure ChargeTable where
  gens : Vector Nat 8
  recs : Vector ChargeRecord 8
  second : Nat
  subSecond : Nat
  ended : List ChargeSlot
  deriving DecidableEq, Repr

/-! ### The actuation sequencer (chapter 8) -/

/-- Classes of a release entry (R145). -/
inductive EntryClass where | custody | service | test
  deriving DecidableEq, Repr

/-- Purposes of a release entry (R145). -/
inductive Purpose where | deposit | collect | recall | pickup | service | test
  deriving DecidableEq, Repr

/-- A release queue entry (R145). `origin` is the port whose request led to the entry. -/
structure Entry where
  comp : Comp
  cls : EntryClass
  purpose : Purpose
  origin : Role
  attempt : Nat
  passOver : Nat
  restore : Bool
  inFlight : Bool
  deriving DecidableEq, Repr

/-- A column driver's state (R149). `left` is the time left of ARMING, of the pulse or of RECOVERING; `run` is the
time left of the run window, 0 once it has ended (R151, R152). -/
inductive ColumnState where
  | idle
  | arming (left : Nat)
  | armed (run : Nat)
  | pulsing (run left : Nat)
  | recovering (left : Nat)
  | disabled
  deriving DecidableEq, Repr

/-- A flight record entry (R168), with the restore mark that R194 reads (log 13). -/
structure FlightEntry where
  comp : Comp
  purpose : Purpose
  restore : Bool
  deriving DecidableEq, Repr

/-- The actuation sequencer (R145, R149, R163, R166, R168). The in-flight set is the queue's entries marked in
flight (R153). Pulse length in ms. -/
structure Sequencer where
  queue : List Entry
  columns : Vector ColumnState 9
  pendingService : List Comp
  budget : Nat
  pulseLength : Nat
  flight : List FlightEntry
  svcKey : Bool
  deriving DecidableEq, Repr

/-! ### The door scanner (chapter 9) -/

/-- Classes of release that the scanner hears of, and kinds of legitimate opening (R171). -/
inductive ReleaseClass where | custody | service
  deriving DecidableEq, Repr

/-- A presence sample (R172). -/
inductive Presence where | occupied | empty
  deriving DecidableEq, Repr

/-- The kind of opening a closure closes (R12). -/
inductive OpeningKind where | custody | service | forced
  deriving DecidableEq, Repr

/-- A door record (R171); `opened` is OPEN. The opening kind of an OPEN door is absent only between the baseline read
and the reconciliation (R184). Times are those left. -/
inductive Door where
  | shut
  | released (cls : ReleaseClass) (window : Nat)
  | opened (kind : Option ReleaseClass) (ajar : Nat) (closing : Option Presence)
  | ajar (kind : Option ReleaseClass) (closing : Option Presence)
  | forced (closing : Option Presence)
  deriving DecidableEq, Repr

/-- Which sweep since the start of the mains domain is in progress or next (R184). -/
inductive SweepPhase where | baseline | second | normal
  deriving DecidableEq, Repr

/-- A baseline sample of a door found shut: its presence, and the time left on an ajar timer that runs from the baseline
read (R184, R196; log 35). -/
structure BaselineSample where
  presence : Presence
  ajar : Nat
  deriving DecidableEq, Repr

/-- The door scanner (R171, R172, R173, R183, R184). Open window and ajar time in seconds. -/
structure Scanner where
  doors : Vector (Option Door) 144
  baseline : Vector (Option BaselineSample) 144
  pointer : Column
  sweeping : Bool
  phase : SweepPhase
  sweepLeft : Nat
  stepLeft : Nat
  owed : Vector Bool 9
  openWindow : Nat
  ajarTime : Nat
  deriving DecidableEq, Repr

/-! ### The manifest engine (chapter 4) -/

/-- Who owns a ring slot (R66). -/
inductive Owner where | courier | engine
  deriving DecidableEq, Repr

/-- Descriptor statuses, in the order of R87. -/
inductive Status where
  | none | deposited | retrieved | done | format | groupSize | unknownCarrier | notPermitted | noSpace | quota
  | codeClash | notFound | claimed | review | outOfService | notReady | occupied | notOpened | emptyClose | forced
  | collectIncomplete | lockFault | columnDown | cancelled
  deriving DecidableEq, Repr

/-- Error summaries (R87). -/
inductive ErrorSummary where | request | carrier | placement | claim | door | lock | stop
  deriving DecidableEq, Repr

/-- The request fields and flags of a descriptor slot (R66). -/
structure Descriptor where
  kind : DescKind
  first : Bool
  last : Bool
  notify : Bool
  carrierId : Nat
  parcelRef : Option Text
  size : SizeClass
  cod : Option Nat
  code : Option Nat
  deriving DecidableEq, Repr

/-- The write-back fields of a descriptor slot (R66). -/
structure WriteBack where
  status : Status
  summary : Option ErrorSummary
  codClamped : Bool
  comp : Option Comp
  code : Option Nat
  depositMinute : Option Nat
  claimed : Nat
  retrieved : Nat
  notOpened : Nat
  deriving DecidableEq, Repr

/-- A descriptor slot of the manifest ring (R66). -/
structure Slot where
  owner : Owner
  desc : Descriptor
  back : WriteBack
  deriving DecidableEq, Repr

/-- Engine states (R71). -/
inductive EngineState where | stopped | running | suspended | stopping
  deriving DecidableEq, Repr

/-- A record of the in-progress window (R78). Its progress is COMPLETE when the outcome is present, STARTED when it is
absent. -/
structure WindowRecord where
  slot : RingSlot
  kind : DescKind
  outcome : Option Status
  carrier : Option (Fin 8)
  comp : Option Comp
  code : Option Nat
  depositMinute : Option Nat
  codClamped : Bool
  outstanding : List Comp
  waiting : List Comp
  claimed : Nat
  retrieved : Nat
  notOpened : Nat
  deriving DecidableEq, Repr

/-- The manifest engine (R66, R71, R78). -/
structure Engine where
  ring : Vector Slot 32
  state : EngineState
  pointer : RingSlot
  window : List WindowRecord
  deriving DecidableEq, Repr

/-! ### The port units (chapter 11) -/

/-- Notice kinds, in the order of the routing table (section 11.4). -/
inductive NoticeKind where
  | descriptorDone | ringSuspended | collected | collectIncomplete | notOpened | releaseFailed | returnDone | forced
  | ajar | missing | foreignObject | review | condition | overstayed | serviceDone | testResult | chargePaid
  | chargeDeclined | chargeExpired | latePayment | interrupted | backupLost | restartDone
  deriving DecidableEq, Repr

/-- Notice details and qualifiers, in the order of R211; `opened` is OPEN and `byModule` MODULE. -/
inductive Detail where
  | notOpened | interrupted | forced | lockFault | columnDown | deposit | collect | recall | pickup | service | test
  | deposited | emptyClose | declined | expired | custody | foreignObject | feeCondition | missing | operator | quote
  | empty | occupied | cleared | collectIncomplete | good | openCoil | short | restored | notRestored | mismatch
  | byModule | opened | presented | approved | void | cut | reverted | mainsReturn | resetLine | cold
  deriving DecidableEq, Repr

/-- How a notice names a consignment (R211). -/
inductive ConsForm where
  | code (n : Nat)
  | record (r : RecordNo)
  deriving DecidableEq, Repr

/-- The detail of a notice: one of the list of R211, or a descriptor status. -/
inductive NoticeDetail where
  | word (d : Detail)
  | status (s : Status)
  deriving DecidableEq, Repr

/-- A notice (R211). -/
structure Notice where
  kind : NoticeKind
  minute : Nat
  comp : Option Comp
  cons : Option ConsForm
  slot : Option RingSlot
  ref : Option ChargeRef
  detail : Option NoticeDetail
  qualifier : Option Detail
  set : CondSet
  amount : Nat
  deriving DecidableEq, Repr

/-- Refusal reasons (section 11.3). -/
inductive Reason where
  | role | busy | format | unknown | locked | notReady | claimed | due | paying | qfull | owned | duplicate | noSpace
  | quota | review | outOfService | occupied | uncommissioned | nothingDue | late
  deriving DecidableEq, Repr

/-- The result byte of a response (R204). -/
inductive Result where | done | accepted | refused
  deriving DecidableEq, Repr

/-- A piece as the consignment summary gives it (R37). -/
structure SummaryPiece where
  comp : Comp
  size : SizeClass
  state : CustodyState
  depositMinute : Option Nat
  collectIncomplete : Bool
  releaseInterrupted : Bool
  deriving DecidableEq, Repr

/-- The consignment summary (R37). -/
structure Summary where
  record : RecordNo
  carrierId : Nat
  collectable : Bool
  pieces : List SummaryPiece
  laneO : Nat
  laneK : Nat
  paidO : Nat
  paidK : Nat
  dueO : Nat
  dueK : Nat
  total : Nat
  waived : Bool
  paidThrough : Option Nat
  openRef : Option (ChargeRef × ChargeState)
  minute : Nat
  raised : CondSet
  unmasked : CondSet
  deriving DecidableEq, Repr

/-- The progress Slot Read gives for a slot (R69, R211). -/
inductive Progress where
  | none
  | handed
  | started (comp : Option Comp) (code : Option Nat) (claimed waiting : Nat)
  | complete (status : Status)
  deriving DecidableEq, Repr

/-- One result field of a response, by the way R211 carries it. -/
inductive Field where
  | u8 (n : Nat)
  | u16 (n : Nat)
  | u32 (n : Nat)
  | mark (b : Bool)
  | presence (b : Bool)
  | blank (width : Nat)
  | opt8 (n : Option Nat)
  | opt16 (n : Option Nat)
  | opt32 (n : Option Nat)
  | optCode (n : Option Nat)
  | optRef (r : Option ChargeRef)
  | parcel (t : Option Text)
  | conds (c : CondSet)
  | comps (l : List Comp)
  | compMap (l : List Comp)
  | code (n : Nat)
  | notice (n : Notice)
  | summary (s : Summary)
  | slot (i : RingSlot) (s : Slot) (p : Progress)
  deriving DecidableEq, Repr

/-- A response (R204). -/
structure Response where
  seq : Byte
  code : Byte
  result : Result
  reason : Option Reason
  notices : Nat
  overflow : Bool
  fields : List Field
  deriving DecidableEq, Repr

/-- A response on the line or waiting for it: whether sending its last byte clears the busy mark, and whether it is a
BUSY refusal (R203). -/
structure Transmission where
  response : Response
  clearsBusy : Bool
  busyRefusal : Bool
  deriving DecidableEq, Repr

/-- A port unit (R200, R201, R203, R205): its role and rate as sampled, the bytes of the frame it is receiving (none
in its hunt state; log 27), the busy mark, the response in transmission with those after it, the notice queue and the
overflow mark. -/
structure PortUnit where
  role : Option Role
  rate : Rate
  receiving : List Byte
  busy : Bool
  sending : List Transmission
  queue : List Notice
  overflow : Bool
  deriving DecidableEq, Repr

/-- The console attempt limiter (R33): the count, and the time left on the lockout timer while it runs. -/
structure Limiter where
  count : Nat
  lockout : Option Nat
  deriving DecidableEq, Repr

/-! ### Power (chapter 10) -/

/-- Kinds of start (R197). -/
inductive StartKind where | mainsReturn | resetLine | cold
  deriving DecidableEq, Repr

/-- The custody clock (R189). -/
structure Clock where
  minute : Nat
  subMinute : Nat
  deriving DecidableEq, Repr

/-- Supplies, power inputs and the marks of the backup domain (R188, R190 to R193). `checkOk` says that the check value
matches the retained state (log 6); `opener` is the event that last opened the way to a start (log 19). -/
structure Power where
  mains : Bool
  pfail : Bool
  resetLine : Bool
  running : Bool
  restoring : Bool
  retentionMark : Bool
  checkOk : Bool
  lastStart : StartKind
  opener : StartKind
  deriving DecidableEq, Repr

/-! ### Inside a step -/

/-- A consequence still to be worked inside the step in hand (log 10). -/
inductive Signal where
  | departed | feed | look | retire | offerPaid | movePending
  | owedRead (c : Column)
  | columnActs (c : Column)
  deriving DecidableEq, Repr

/-- The whole machine. `signals` and `arbiterDue` are empty between steps (log 10); `asks` counts the free departure
orders taken (log 8); `pending` holds the commands that wait, oldest first. -/
structure State where
  clock : Clock
  power : Power
  custody : Custody
  carriers : Vector CarrierEntry 8
  codeGen : CodeGen
  tariff : TariffUnit
  charges : ChargeTable
  seq : Sequencer
  scanner : Scanner
  engine : Engine
  ports : Vector PortUnit 4
  limiter : Limiter
  paidReturns : List RecordNo
  sense : Sense
  signals : List Signal
  arbiterDue : Bool
  asks : Nat
  pending : List Instr
  deriving DecidableEq, Repr

/-- Faults: the manual gives the PG144 none. What goes wrong is a refusal in a response, a failed release, a custody
state or a cold start, each a next state; so no meaning raises a fault, and there is nothing safe or unsafe to say of
one. -/
inductive Fault where
  deriving DecidableEq, Repr

/-- Refusals of the model. -/
inductive Refusal where
  /-- Raised by exec's arm for a command that has no meaning yet, under the command's name. Safe: the model stops. -/
  | notModelled (mnemonic : String)
  deriving DecidableEq, Repr

/-! ### Values after a start -/

/-- A compartment entry after a backup cold start (R1). -/
def CompartmentEntry.cold : CompartmentEntry :=
  { fitted := false, size := .s, use := .any, state := .notFitted, cause := none, holding := none }

/-- A carrier entry after a backup cold start (R49). -/
def CarrierEntry.cold : CarrierEntry :=
  { id := 0, enabled := false, rights := ⟨false, false, false, false⟩, sizes := ⟨false, false, false, false⟩,
    tariffClass := 0, mode := .prepaid, quota := 0, live := 0 }

/-- The tariff unit after a backup cold start (R92, R93, R115, R116). -/
def TariffUnit.cold : TariffUnit :=
  { classes := Vector.replicate 4 ⟨0, 0, 0, 0, 0, 0, 0⟩
    bank := { mult := ⟨8, 10, 12, 16⟩, fee := ⟨0, 0, 0, 0⟩, rounding := .nearestEven, grace := 15 }
    masks := { clock := false, tariff := false, sat := false, capped := true, round := true, overpaid := false }
    sticky := ⟨none, none, none, none, none, none⟩ }

/-- A charge record in FREE (R125). -/
def ChargeRecord.blank : ChargeRecord :=
  { state := .free, record := none, laneO := 0, laneK := 0, creation := 0, expiry := 0, paymentMinute := none,
    cause := none, code := none }

/-- The mains-domain part of the charge table after a start, over the retained generations (R125). -/
def ChargeTable.started (gens : Vector Nat 8) : ChargeTable :=
  { gens := gens, recs := Vector.replicate 8 ChargeRecord.blank, second := 0, subSecond := 0, ended := [] }

/-- The sequencer after a start, over the retained flight record (R145, R149, R163, R166, R168; SVC_KEY: log 22). -/
def Sequencer.started (flight : List FlightEntry) : Sequencer :=
  { queue := [], columns := Vector.replicate 9 .idle, pendingService := [], budget := 2, pulseLength := 150,
    flight := flight, svcKey := false }

/-- The scanner after a start: no door record holds a state, the owed marks are clear, and the baseline sweep begins at
column 0 (R171, R172, R183, R184, R192). -/
def Scanner.started : Scanner :=
  { doors := Vector.replicate 144 none, baseline := Vector.replicate 144 none, pointer := 0, sweeping := true,
    phase := .baseline, sweepLeft := msUnits 250, stepLeft := 0, owed := Vector.replicate 9 false,
    openWindow := 20, ajarTime := 120 }

/-- The write-back fields after a start and after Slot Write (R66, R68). -/
def WriteBack.blank : WriteBack :=
  { status := .none, summary := none, codClamped := false, comp := none, code := none, depositMinute := none,
    claimed := 0, retrieved := 0, notOpened := 0 }

/-- A ring slot after a start (R66). -/
def Slot.blank : Slot :=
  { owner := .courier
    desc := { kind := .drop, first := false, last := false, notify := false, carrierId := 0, parcelRef := none,
              size := .s, cod := none, code := none }
    back := WriteBack.blank }

/-- The manifest engine after a start (R66, R71). -/
def Engine.started : Engine :=
  { ring := Vector.replicate 32 Slot.blank, state := .stopped, pointer := 0, window := [] }

/-- A port unit after a start, with the role and rate it has sampled (R200, R205). -/
def PortUnit.started (role : Option Role) (rate : Rate) : PortUnit :=
  { role := role, rate := rate, receiving := [], busy := false, sending := [], queue := [], overflow := false }

/-- The notice BACKUP_LOST of a backup cold start, with custody minute 0 (R198). -/
def Notice.backupLost : Notice :=
  { kind := .backupLost, minute := 0, comp := none, cons := none, slot := none, ref := none, detail := none,
    qualifier := none, set := ⟨false, false, false, false, false, false⟩, amount := 0 }

/-- The machine right after reset: the part's first start, a backup cold start made through step 5 of R192, so in
RESTORING with the baseline sweep begun and BACKUP_LOST at the operations port (R198; log 1; straps: log 2). -/
def State.reset : State :=
  { clock := { minute := 0, subMinute := 0 }
    power := { mains := true, pfail := false, resetLine := false, running := true, restoring := true,
               retentionMark := true, checkOk := true, lastStart := .cold, opener := .mainsReturn }
    custody := { entries := Vector.replicate 144 CompartmentEntry.cold, records := Vector.replicate 144 none,
                 codeMap := [] }
    carriers := Vector.replicate 8 CarrierEntry.cold
    codeGen := { seed := Config.randomSeed 0, position := 0, drawn := 1 }
    tariff := TariffUnit.cold
    charges := ChargeTable.started (Vector.replicate 8 0)
    seq := Sequencer.started []
    scanner := Scanner.started
    engine := Engine.started
    ports := #v[PortUnit.started (some .console) .k115, PortUnit.started (some .courier) .k115,
                PortUnit.started (some .payment) .k115,
                { PortUnit.started (some .operations) .k115 with queue := [Notice.backupLost] }]
    limiter := { count := 0, lockout := none }
    paidReturns := []
    sense := { doors := 0, occupied := 0 }
    signals := []
    arbiterDue := false
    asks := 0
    pending := [] }

end Sys2Proof.Machine
end

