-- ==== Sys2Proof/Machine/Ops.lean ====
section
/-! DEFINITION. The named operations over the state that every block uses: table access, custody entries, consignment
records, column states, door records, notices (R205), and the consequences a step still has to work (log 10). -/

namespace Sys2Proof.Machine

/-! ### Tables -/

/-- The table with entry i replaced. -/
def put {α : Type} {n : Nat} (v : Vector α n) (i : Fin n) (x : α) : Vector α n := v.set i.val x i.isLt

/-- The lowest-numbered entry of a table that satisfies p. -/
def firstIndex {α : Type} {n : Nat} (v : Vector α n) (p : α → Bool) : Option (Fin n) :=
  (List.finRange n).find? fun i => p (v.get i)

/-! ### Consequences inside a step -/

/-- Notes a consequence that the step in hand still has to work. -/
def State.emit (s : State) (g : Signal) : State := { s with signals := s.signals ++ [g] }

/-- Notes a change that can make a release entry eligible (R155, log 9). -/
def State.markArbiter (s : State) : State := { s with arbiterDue := true }

/-! ### Custody entries and consignments -/

/-- A compartment entry (R1). -/
def State.entry (s : State) (c : Comp) : CompartmentEntry := s.custody.entries.get c

/-- A compartment's custody state (R3). -/
def State.custodyState (s : State) (c : Comp) : CustodyState := (s.entry c).state

/-- A compartment's holding (R5). -/
def State.holding (s : State) (c : Comp) : Option Holding := (s.entry c).holding

/-- Replaces a compartment entry. -/
def State.putEntry (s : State) (c : Comp) (e : CompartmentEntry) : State :=
  { s with custody := { s.custody with entries := put s.custody.entries c e } }

/-- Replaces a compartment entry, and tells the sequencer when the custody state of a compartment with a pending
service entry changes while SVC_KEY is on (R163). -/
def State.setEntry (s : State) (c : Comp) (e : CompartmentEntry) : State :=
  if s.custodyState c ≠ e.state ∧ s.seq.pendingService.contains c ∧ s.seq.svcKey then
    (s.putEntry c e).emit .movePending
  else s.putEntry c e

/-- Changes a compartment's custody state alone. -/
def State.setCustody (s : State) (c : Comp) (st : CustodyState) : State :=
  s.setEntry c { s.entry c with state := st }

/-- Changes a compartment's holding, when it has one. -/
def State.updHolding (s : State) (c : Comp) (f : Holding → Holding) : State :=
  s.putEntry c { s.entry c with holding := (s.holding c).map f }

/-- A consignment record (R9). -/
def State.record (s : State) (r : RecordNo) : Option Consignment := s.custody.records.get r

/-- Replaces a consignment record; none takes it out of use. -/
def State.putRecord (s : State) (r : RecordNo) (k : Option Consignment) : State :=
  { s with custody := { s.custody with records := put s.custody.records r k } }

/-- Changes a consignment record, when it is in use. -/
def State.updRecord (s : State) (r : RecordNo) (f : Consignment → Consignment) : State :=
  s.putRecord r ((s.record r).map f)

/-- The consignment of a compartment's holding (R5). -/
def State.consignment (s : State) (c : Comp) : Option Consignment :=
  (s.holding c).bind fun h => s.record h.record

/-- Enters a code in the code map, kept in ascending code order (R10). -/
def mapInsert (code : Nat) (r : RecordNo) : List (Nat × RecordNo) → List (Nat × RecordNo)
  | [] => [(code, r)]
  | p :: rest => if code < p.1 then (code, r) :: p :: rest else p :: mapInsert code r rest

/-- The record number a code leads to (R10). -/
def State.findCode (s : State) (code : Nat) : Option RecordNo :=
  (s.custody.codeMap.find? fun p => p.1 == code).map (·.2)

/-- The custody state of a rest state (R5). -/
def RestState.custody : RestState → CustodyState
  | .held => .held
  | .overstayed => .overstayed
  | .returnHeld => .returnHeld

/-- HELD, OVERSTAYED and RETURN_HELD are the rest states. -/
def CustodyState.isRest : CustodyState → Bool
  | .held | .overstayed | .returnHeld => true
  | .notFitted | .free | .reserved | .loading | .releasing | .emptying | .review | .outOfService => false

/-- At least one compartment is fitted (R30). -/
def State.anyFitted (s : State) : Bool := Comp.all.any fun c => (s.entry c).fitted

/-- None of a consignment's pieces is RESERVED or LOADING, and it has a piece (R11). -/
def State.collectable (s : State) (k : Consignment) : Bool :=
  !k.pieces.isEmpty && k.pieces.all fun c => s.custodyState c != .reserved && s.custodyState c != .loading

/-! ### Columns, doors, entries -/

/-- The state of a column driver (R149). -/
def State.column (s : State) (c : Column) : ColumnState := s.seq.columns.get c

/-- A busy column is ARMING, ARMED or PULSING (R173). -/
def ColumnState.busy : ColumnState → Bool
  | .arming _ | .armed _ | .pulsing _ _ => true
  | .idle | .recovering _ | .disabled => false

/-- Replaces a column's state alone. -/
def State.putColumn (s : State) (c : Column) (st : ColumnState) : State :=
  { s with seq := { s.seq with columns := put s.seq.columns c st } }

/-- Tells the scanner of a column's state: a column that is owed a read and is not busy is read (R149, R173). -/
def State.tellScanner (s : State) (c : Column) : State :=
  if !(s.column c).busy && s.scanner.owed.get c then s.emit (.owedRead c) else s

/-- Changes a column's state. The arbiter has a change to look at (R155), and the scanner is told in the same step
(R149). -/
def State.setColumn (s : State) (c : Column) (st : ColumnState) : State :=
  ((s.putColumn c st).markArbiter).tellScanner c

/-- A disarm: the column enters RECOVERING for 50 ms (R152). -/
def State.disarm (s : State) (c : Column) : State := s.setColumn c (.recovering (msUnits 50))

/-- A compartment's door record (R171). -/
def State.door (s : State) (c : Comp) : Option Door := s.scanner.doors.get c

/-- Replaces a compartment's door record. -/
def State.setDoor (s : State) (c : Comp) (d : Option Door) : State :=
  { s with scanner := { s.scanner with doors := put s.scanner.doors c d } }

/-- The present entry of a compartment (R145, R147). -/
def State.entryOf (s : State) (c : Comp) : Option Entry := s.seq.queue.find? fun e => e.comp == c

/-- A compartment has a present release entry, queued or in flight (R145). -/
def State.hasEntry (s : State) (c : Comp) : Bool := s.seq.queue.any fun e => e.comp == c

/-- A compartment's pulse is in progress: its entry is in flight (R153). -/
def State.entryInFlight (s : State) (c : Comp) : Bool := s.seq.queue.any fun e => e.comp == c && e.inFlight

/-- A compartment has an entry in the pending service set (R163). -/
def State.pendingFor (s : State) (c : Comp) : Bool := s.seq.pendingService.contains c

/-- The entries in flight (R153). -/
def State.flying (s : State) : List Entry := s.seq.queue.filter (·.inFlight)

/-- The free entries of the release queue (R41). -/
def State.queueFree (s : State) : Nat := Config.queueCap - s.seq.queue.length

/-! ### The drive outputs (R149, R150, R213) -/

/-- The two strengths of a drive current (R150). -/
inductive DriveCurrent where | full | reduced
  deriving DecidableEq, Repr

/-- CUSTODY and SERVICE pulses are driven at full current, and TEST pulses, those of a Column Restore among them, at
reduced current (R150, R161, R165). -/
def EntryClass.current : EntryClass → DriveCurrent
  | .custody | .service => .full
  | .test => .reduced

/-- The current that drives a compartment's lock, or none: the lock of the entry in flight on a PULSING column (R149,
R150). -/
def State.lockDrive (s : State) (c : Comp) : Option DriveCurrent :=
  match s.column c.column with
  | .pulsing _ _ => (s.flying.find? fun e => e.comp == c).map fun e => e.cls.current
  | .idle | .arming _ | .armed _ | .recovering _ | .disabled => none

/-- The column line carries the drive: from the start of its stage's charging to the disarm (R149, R213, chapter 9). -/
def State.columnDrive (s : State) (c : Column) : Bool := (s.column c).busy

/-- The column line selects the sensors of its column: the column at the pointer of a sweep in progress, when it is not
busy (R172, R173, R213; log 46). -/
def State.senseSelect (s : State) (c : Column) : Bool :=
  s.power.running && s.scanner.sweeping && decide (s.scanner.pointer = c) && !(s.columnDrive c)

/-- The output CDRV of a column: column drive enable, also sense column select (R213). -/
def State.columnLine (s : State) (c : Column) : Bool := s.columnDrive c || s.senseSelect c

/-- The output PDRV of a position: a lock at it is driven (R149, R150, R213). -/
def State.positionDrive (s : State) (p : Fin 16) : Bool :=
  (List.finRange 9).any fun col => (s.lockDrive (Comp.at col p)).isSome

/-! ### Notices -/

/-- The empty set of conditions. -/
def CondSet.none : CondSet := ⟨false, false, false, false, false, false⟩

/-- A notice of a kind at the present custody minute, with no optional field. -/
def State.note (s : State) (k : NoticeKind) : Notice :=
  { kind := k, minute := s.clock.minute, comp := none, cons := none, slot := none, ref := none, detail := none,
    qualifier := none, set := CondSet.none, amount := 0 }

/-- The same notice with a detail of the list of R211. -/
def Notice.withDetail (n : Notice) (d : Detail) : Notice := { n with detail := some (.word d) }

/-- The port unit takes a posted notice, or drops it and sets the overflow mark (R205). -/
def PortUnit.post (p : PortUnit) (n : Notice) : PortUnit :=
  if p.queue.length < Config.noticeCap then { p with queue := p.queue ++ [n] } else { p with overflow := true }

/-- Posts a notice to the port that has the role; a role that no port takes discards it (R200, R205). -/
def State.post (s : State) (r : Role) (n : Notice) : State :=
  { s with ports := s.ports.map fun p => if p.role = some r then p.post n else p }

/-- Posts a notice to two ports, once where they are the same (R205). -/
def State.postBoth (s : State) (a b : Role) (n : Notice) : State :=
  if a = b then s.post a n else (s.post a n).post b n

/-- The attention line of a port: asserted while its queue holds a notice (R205). -/
def PortUnit.attention (p : PortUnit) : Bool := !p.queue.isEmpty

/-- How a notice names a compartment's consignment: by code for a delivery, by record number for a return. -/
def State.form (s : State) (c : Comp) : Option ConsForm :=
  match s.holding c with
  | none => none
  | some h =>
    match s.record h.record with
    | none => none
    | some k =>
      match k.kind with
      | .delivery => k.code.map .code
      | .returnDrop => some (.record h.record)

/-- A compartment's consignment code, where its holding belongs to a delivery. -/
def State.codeForm (s : State) (c : Comp) : Option ConsForm :=
  match s.form c with
  | some (.code n) => some (.code n)
  | some (.record _) | none => none

/-- The paid lane total of a compartment's consignment, where it is a return; 0 otherwise (R47). -/
def State.paidTotal (s : State) (c : Comp) : Nat :=
  match s.consignment c with
  | some k => if k.kind = .returnDrop then k.paidO + k.paidK else 0
  | none => 0

/-- A notice about a compartment that names its consignment either way, with the paid lane total of a return. -/
def State.noteFull (s : State) (k : NoticeKind) (c : Comp) : Notice :=
  { s.note k with comp := some c, cons := s.form c, amount := s.paidTotal c }

/-- A notice about a compartment that carries the code of a delivery. -/
def State.noteCode (s : State) (k : NoticeKind) (c : Comp) : Notice :=
  { s.note k with comp := some c, cons := s.codeForm c }

/-- The port of a holding's origin (R194). -/
def Origin.role : Origin → Role
  | .slot _ => .courier
  | .console => .console

/-- The port of a claimant (R194). -/
def Claimant.role : Claimant → Role
  | .customer => .console
  | .carrier => .courier
  | .service => .operations

/-- The port of a RESERVED holding's origin or of a RELEASING holding's claimant (R194). -/
def Holding.originRole (h : Holding) : Role :=
  match h.claimant with
  | some k => k.role
  | none => h.origin.role

end Sys2Proof.Machine
end

