-- ==== Sys2Proof/Machine/Operands.lean ====
section
/-! DEFINITION. The forms of the operands a request carries: what lies inside a field's stated set, and what a value
becomes when it is stored. A value outside its set is refused FORMAT (section 11.3). -/

namespace Sys2Proof.Machine

/-- The decimal digit of an ASCII character (R211). -/
def digit (b : Byte) : Option Nat :=
  if 48 ≤ b.toNat ∧ b.toNat ≤ 57 then some (b.toNat - 48) else none

/-- The number that decimal digits spell, after a start value. -/
def digitsFrom : Nat → Text → Option Nat
  | acc, [] => some acc
  | acc, b :: t =>
    match digit b with
    | some d => digitsFrom (acc * 10 + d) t
    | none => none

/-- A collection code: 8 decimal digits (R32, R62). -/
def parseCode (t : Text) : Option Nat := if t.length = 8 then digitsFrom 0 t else none

/-- A printable character: the manual names no set, and the model takes the bytes 20h to 7Eh, the space among them (R5,
R29, R43, R68, R211; log 38). -/
def printable (b : Byte) : Bool := decide (32 ≤ b.toNat ∧ b.toNat ≤ 126)

/-- A parcel reference field that a slot or holding can hold: at most 20 printable characters, none meaning absent
(R68, R211). -/
def parcelOk (t : Text) : Bool := decide (t.length ≤ 20) && t.all printable

/-- The parcel reference that a field gives: absent when it is empty (R211). -/
def parcelOf (t : Text) : Option Text := if t.isEmpty then none else some t

/-- A compartment number (R30). -/
def compOf (n : Nat) : Option Comp := if h : n < 144 then some ⟨n, h⟩ else none

/-- A consignment record number (R48, R209). -/
def recordOf (n : Nat) : Option RecordNo := if h : n < 144 then some ⟨n, h⟩ else none

/-- A ring slot number (R68 to R72). -/
def ringSlotOf (n : Nat) : Option RingSlot := if h : n < 32 then some ⟨n, h⟩ else none

/-- A charge slot number (R126). -/
def chargeSlotOf (n : Nat) : Option ChargeSlot := if h : n < 8 then some ⟨n, h⟩ else none

/-- A carrier index (R51). -/
def carrierOf (n : Nat) : Option (Fin 8) := if h : n < 8 then some ⟨n, h⟩ else none

/-- A tariff class number (R29, R51, R94). -/
def classOf (n : Nat) : Option (Fin 4) := if h : n < 4 then some ⟨n, h⟩ else none

/-- A column number (R161). -/
def columnOf (n : Nat) : Option Column := if h : n < 9 then some ⟨n, h⟩ else none

/-- A set of rights: one byte, in the order of R49; a bit beyond them lies outside the set (R211, log 23). -/
def rightsOf (b : Byte) : Option Rights :=
  if b.toNat < 16 then some ⟨b.getLsbD 0, b.getLsbD 1, b.getLsbD 2, b.getLsbD 3⟩ else none

/-- A set of size classes: one byte, S to XL in bits 0 to 3 (R211, log 23). -/
def sizesOf (b : Byte) : Option (PerSize Bool) :=
  if b.toNat < 16 then some ⟨b.getLsbD 0, b.getLsbD 1, b.getLsbD 2, b.getLsbD 3⟩ else none

/-- A set of conditions: one byte, CLOCK, TARIFF, SAT, CAPPED, ROUND, OVERPAID in bits 0 to 5 (R117, R122, R211). -/
def condsOf (b : Byte) : Option CondSet :=
  if b.toNat < 64 then
    some ⟨b.getLsbD 0, b.getLsbD 1, b.getLsbD 2, b.getLsbD 3, b.getLsbD 4, b.getLsbD 5⟩
  else none

/-- A field-select set names only the first n fields (R208). -/
def selectsOnly (sel : BitVec 16) (n : Nat) : Bool := decide (sel.toNat < 2 ^ n)

/-- A value clamped to the top of its stored range (R94, R165). -/
def clampTop (top n : Nat) : Nat := min n top

/-- A value clamped to both ends of its range (R166, R183). -/
def clampRange (lo hi n : Nat) : Nat := max lo (min n hi)

/-- The value of a selected field, or the old value (R208). -/
def pick {α : Type} (sel : BitVec 16) (bit : Nat) (new old : α) : α := if sel.getLsbD bit then new else old

/-- The value of a size class. -/
def sizeAt {α : Type} (p : PerSize α) : SizeClass → α
  | .s => p.s
  | .m => p.m
  | .l => p.l
  | .xl => p.xl

/-- The size classes not below one, smallest first (R58). -/
def SizeClass.upwards : SizeClass → List SizeClass
  | .s => [.s, .m, .l, .xl]
  | .m => [.m, .l, .xl]
  | .l => [.l, .xl]
  | .xl => [.xl]

/-- The charge that a reference names, when it is not stale (R126). -/
def State.chargeNamed (s : State) (i : ChargeSlot) (gen : Nat) : Option ChargeRecord :=
  let r := s.charges.recs.get i
  if r.state ≠ .free ∧ s.charges.gens.get i = gen then some r else none

end Sys2Proof.Machine
end

