-- ==== Sys2Proof/Machine/Charges.lean ====
section
/-! DEFINITION. The charge table: taking a slot, opening a charge, ending one, and freeing a slot (R125 to R128). -/

namespace Sys2Proof.Machine

/-- A charge record (R125). -/
def State.charge (s : State) (i : ChargeSlot) : ChargeRecord := s.charges.recs.get i

/-- Replaces a charge record. -/
def State.putCharge (s : State) (i : ChargeSlot) (r : ChargeRecord) : State :=
  { s with charges := { s.charges with recs := put s.charges.recs i r } }

/-- Replaces the ended list. -/
def State.setEnded (s : State) (l : List ChargeSlot) : State := { s with charges := { s.charges with ended := l } }

/-- The present reference of a slot (R126). -/
def State.refOf (s : State) (i : ChargeSlot) : ChargeRef := { slot := i, gen := s.charges.gens.get i }

/-- OPEN and PRESENTED are the live states (R127). -/
def ChargeState.isLive : ChargeState → Bool
  | .opened | .presented => true
  | .free | .paid | .declined | .expired | .void => false

/-- PAID, DECLINED, EXPIRED and VOID are the ended states (R127). -/
def ChargeState.isEnded : ChargeState → Bool
  | .paid | .declined | .expired | .void => true
  | .free | .opened | .presented => false

/-- Clears a consignment's open charge reference when it names this charge (R127). -/
def Consignment.forget (ref : ChargeRef) (k : Consignment) : Consignment :=
  { k with openRef := if k.openRef = some ref then none else k.openRef }

/-- A charge enters an ended state: its timer stops, its consignment forgets it, and its slot joins the end of the
ended list (R127). -/
def State.endCharge (s : State) (i : ChargeSlot) (st : ChargeState) (cause : Option EndCause) (paidAt : Option Nat) :
    State :=
  let r := s.charge i
  let s1 := (s.putCharge i { r with state := st, cause := cause, paymentMinute := paidAt, expiry := 0 }).setEnded
    (s.charges.ended ++ [i])
  match r.record with
  | some n => s1.updRecord n (Consignment.forget (s.refOf i))
  | none => s1

/-- The slot the next opening takes: the lowest-numbered FREE one, or else the head of the ended list (R128). -/
def State.slotToTake (s : State) : Option ChargeSlot :=
  match firstIndex s.charges.recs (fun r => r.state == .free) with
  | some i => some i
  | none => s.charges.ended.head?

/-- The next generation of a slot, from 255 to 0 (R126). -/
def nextGen (g : Nat) : Nat := (g + 1) % 256

/-- Opens a charge for a consignment in a slot: the generation is increased, the record written, the expiry timer
started at 120 s, and the reference stored in the consignment (R129 steps 2 to 4, R141). -/
def State.openIn (s : State) (i : ChargeSlot) (n : RecordNo) (laneO laneK : Nat) : State :=
  let code := (s.record n).bind fun k => k.code
  let gen := nextGen (s.charges.gens.get i)
  let s1 := { s with charges :=
    { s.charges with gens := put s.charges.gens i gen, ended := s.charges.ended.filter (· != i) } }
  let s2 := s1.putCharge i
    { state := .opened, record := some n, laneO := laneO, laneK := laneK, creation := s.charges.second,
      expiry := secUnits 120, paymentMinute := none, cause := none, code := code }
  s2.updRecord n fun k => { k with openRef := some { slot := i, gen := gen } }

/-- The slot becomes FREE: its record is cleared and it leaves the ended list; its generation is kept (R128, R131). -/
def State.freeSlot (s : State) (i : ChargeSlot) : State :=
  (s.putCharge i ChargeRecord.blank).setEnded (s.charges.ended.filter (· != i))

/-- The live charge that a consignment's open charge reference names, with its state. -/
def State.openCharge (s : State) (k : Consignment) : Option (ChargeRef × ChargeState) :=
  match k.openRef with
  | none => none
  | some ref => (s.chargeNamed ref.slot ref.gen).map fun r => (ref, r.state)

/-- The consignment's open charge reference names a charge in the given state. -/
def State.openChargeIs (s : State) (k : Consignment) (st : ChargeState) : Bool :=
  match s.openCharge k with
  | some p => p.2 == st
  | none => false

/-- Voids the charge that a consignment's open charge reference names, when it is OPEN (R127). -/
def State.voidOpen (s : State) (k : Consignment) (cause : EndCause) : State :=
  match k.openRef with
  | some ref => if s.openChargeIs k .opened then s.endCharge ref.slot .void (some cause) none else s
  | none => s

/-- Voids the live charge of a consignment that is being removed (R140). -/
def State.voidRetired (s : State) (k : Consignment) : State :=
  match k.openRef with
  | some ref =>
    if s.openChargeIs k .opened || s.openChargeIs k .presented then
      s.endCharge ref.slot .void (some .retired) none
    else s
  | none => s

/-- The code of the consignment a charge was opened for, where the consignment still has one (R139, log 14). -/
def State.chargeCode (s : State) (r : ChargeRecord) : Option ConsForm :=
  match r.record.bind s.record with
  | some k => if k.code = r.code then k.code.map ConsForm.code else none
  | none => none

/-- A reservation waits on this consignment: a return whose holding is RESERVED (R45). Its one piece. -/
def State.waitingReturn (s : State) (n : RecordNo) : Option Comp :=
  match s.record n with
  | some k =>
    match k.kind with
    | .returnDrop => k.pieces.head?.filter fun c => s.custodyState c == .reserved
    | .delivery => none
  | none => none

end Sys2Proof.Machine
end

