-- ==== Sys2Proof/Machine/Queue.lean ====
section
/-! DEFINITION. The release queue: joining it, leaving it, withdrawal, and what a column does when the entries that
target it have gone (R145 to R148, R151, R152). -/

namespace Sys2Proof.Machine

/-- Replaces the release queue. -/
def State.setQueue (s : State) (q : List Entry) : State := { s with seq := { s.seq with queue := q } }

/-- Replaces the pending service set. -/
def State.setPending (s : State) (l : List Comp) : State := { s with seq := { s.seq with pendingService := l } }

/-- A new entry: attempt 1, pass-over count 0, not in flight (R146). -/
def Entry.fresh (c : Comp) (cls : EntryClass) (purpose : Purpose) (origin : Role) : Entry :=
  { comp := c, cls := cls, purpose := purpose, origin := origin, attempt := 1, passOver := 0, restore := false,
    inFlight := false }

/-- An entry joins the end of the queue as its youngest (R146). -/
def State.join (s : State) (e : Entry) : State := (s.setQueue (s.seq.queue ++ [e])).markArbiter

/-- Takes a compartment's entry out of the queue. -/
def State.dropEntry (s : State) (c : Comp) : State := s.setQueue (s.seq.queue.filter fun e => e.comp != c)

/-- A queued entry targets the column: one present and not in flight (R145). -/
def State.targeted (s : State) (col : Column) : Bool :=
  s.seq.queue.any fun e => decide (e.comp.column = col) && !e.inFlight

/-- An entry has departed: the engine, the paid return list and the pending service set are told (R147), and the
arbiter has a change to look at. -/
def State.departed (s : State) : State := (s.emit .departed).markArbiter

/-- A column that is ARMED disarms at the departure of the last queued entry that targets it (R152). -/
def State.disarmIfLast (s : State) (col : Column) : State :=
  match s.column col with
  | .armed _ => if s.targeted col then s else s.disarm col
  | .idle | .arming _ | .pulsing _ _ | .recovering _ | .disabled => s

/-- What a withdrawal found (R148). -/
inductive Withdrawal where | removed | inFlight | none
  deriving DecidableEq, Repr

/-- What a withdrawal of a compartment's entry finds (R148). -/
def State.withdrawalFinds (s : State) (c : Comp) : Withdrawal :=
  match s.entryOf c with
  | none => .none
  | some e => if e.inFlight then .inFlight else .removed

/-- A withdrawal: a queued entry is removed and departs; an entry in flight, or none, is left (R148). An ARMED column
that loses its last queued entry disarms before the departure is told (R147, R152; the model's choice, log 43). -/
def State.withdraw (s : State) (c : Comp) : State :=
  match s.withdrawalFinds c with
  | .removed => ((s.dropEntry c).departed).disarmIfLast c.column
  | .inFlight | .none => s

/-- What a column does at the end of a pulse whose outcome is GOOD or OPEN_COIL (R151). -/
def State.columnAfterPulse (s : State) (col : Column) : State :=
  match s.column col with
  | .pulsing run _ =>
    if !(s.targeted col) || run == 0 then s.disarm col else s.setColumn col (.armed run)
  | .idle | .arming _ | .armed _ | .recovering _ | .disabled => s

end Sys2Proof.Machine
end

