-- ==== Sys2Proof/Machine/Window.lean ====
section
/-! DEFINITION. The manifest engine's in-progress window and the reports it takes: outcomes of DROP holdings against
their slot (R80) and ends of CARRIER claims against their compartment (R82, R85, R90). -/

namespace Sys2Proof.Machine

/-- Changes the first element of a list that satisfies p. -/
def updFirst {α : Type} (p : α → Bool) (f : α → α) : List α → List α
  | [] => []
  | x :: t => if p x then f x :: t else x :: updFirst p f t

/-- Replaces the in-progress window. -/
def State.setWindow (s : State) (w : List WindowRecord) : State := { s with engine := { s.engine with window := w } }

/-- A record that is STARTED has no outcome yet (R78). -/
def WindowRecord.isStarted (r : WindowRecord) : Bool := r.outcome.isNone

/-- The STARTED DROP record of a slot, with the same compartment (R90). -/
def WindowRecord.takesDrop (slot : RingSlot) (c : Comp) (r : WindowRecord) : Bool :=
  r.isStarted && r.kind == .drop && r.slot == slot && r.comp == some c

/-- The engine applies the outcome of a DROP holding to the record of its slot; a report that matches no record is
discarded (R80, R90). The record may now be retired (R86). -/
def State.reportDrop (s : State) (slot : RingSlot) (c : Comp) (outcome : Status) (minute : Option Nat) : State :=
  (s.setWindow (updFirst (WindowRecord.takesDrop slot c)
    (fun r => { r with outcome := some outcome, depositMinute := minute }) s.engine.window)).emit .retire

/-- The outcome of a dropped or completed deposit goes to the holding's origin when that is a manifest slot (R5). -/
def State.reportOrigin (s : State) (o : Origin) (c : Comp) (outcome : Status) (minute : Option Nat) : State :=
  match o with
  | .slot n => s.reportDrop n c outcome minute
  | .console => s

/-- How a CARRIER claim ended (R82, R85). -/
inductive ClaimEnd where | retrieved | collectIncomplete | notOpened | forced | lockFault | columnDown
  deriving DecidableEq, Repr

/-- The status a RECALL takes from the end of its claim (R82). -/
def ClaimEnd.status : ClaimEnd → Status
  | .retrieved => .retrieved
  | .collectIncomplete => .collectIncomplete
  | .notOpened => .notOpened
  | .forced => .forced
  | .lockFault => .lockFault
  | .columnDown => .columnDown

/-- The STARTED RECALL record with a compartment, or the STARTED PICKUP record with it in its outstanding set (R90). -/
def WindowRecord.takesClaim (c : Comp) (r : WindowRecord) : Bool :=
  r.isStarted && ((r.kind == .recall && r.comp == some c) || (r.kind == .pickup && r.outstanding.contains c))

/-- A PICKUP record counts the end of one of its claims, and is COMPLETE when its outstanding set becomes empty
(R85). -/
def WindowRecord.countEnd (c : Comp) (e : ClaimEnd) (r : WindowRecord) : WindowRecord :=
  let left := r.outstanding.filter (· != c)
  { r with
    outstanding := left
    waiting := r.waiting.filter (· != c)
    retrieved := if e = .retrieved then r.retrieved + 1 else r.retrieved
    notOpened := if e = .notOpened ∨ e = .forced then r.notOpened + 1 else r.notOpened
    outcome := if left.isEmpty then some .done else none }

/-- A record takes the end of the claim on a compartment (R82, R85). -/
def WindowRecord.endClaim (c : Comp) (e : ClaimEnd) (r : WindowRecord) : WindowRecord :=
  match r.kind with
  | .pickup => r.countEnd c e
  | .drop | .recall => { r with outcome := some e.status }

/-- The engine applies the end of a CARRIER claim to the record it matches; a report that matches none is discarded
(R82, R85, R90). The record may now be retired (R86). -/
def State.reportClaim (s : State) (c : Comp) (e : ClaimEnd) : State :=
  (s.setWindow (updFirst (WindowRecord.takesClaim c) (WindowRecord.endClaim c e) s.engine.window)).emit .retire

end Sys2Proof.Machine
end

