-- ==== Sys2Proof/Machine/Custody.lean ====
section
/-! DEFINITION. The custody table's own operations: removal of a holding (R8, R11), review causes (R6), the four door
events (R12 to R17), release outcomes (R18, R19), claims and their lapse (R20 to R24), and the fee condition (R119). -/

namespace Sys2Proof.Machine

/-! ### Removal (R8, R11) -/

/-- A carrier's live count falls by one (R50). -/
def State.lowerLive (s : State) (i : Fin 8) : State :=
  let e := s.carriers.get i
  { s with carriers := put s.carriers i { e with live := e.live - 1 } }

/-- A record that is removed leaves the code map and the paid return list (R11, R46). -/
def State.unlist (s : State) (n : RecordNo) : State :=
  { s with
    custody := { s.custody with codeMap := s.custody.codeMap.filter fun p => p.2 != n }
    paidReturns := s.paidReturns.filter (· != n) }

/-- A compartment leaves its consignment: the carrier's live count falls by one, the piece leaves the list, and with
the last piece the record, its code and its live charge go (R8, R11, R46, R50, R140). -/
def State.leaveRecord (s : State) (n : RecordNo) (c : Comp) : State :=
  match s.record n with
  | none => s
  | some k =>
    let s1 := s.lowerLive k.carrier
    let left := k.pieces.filter (· != c)
    if left.isEmpty then ((s1.voidRetired k).putRecord n none).unlist n
    else s1.putRecord n (some { k with pieces := left })

/-- A holding leaves the custody table, by retirement, dropping or reversion, and the compartment takes the state and
cause that the causing rule gives (R8). -/
def State.removeHolding (s : State) (c : Comp) (st : CustodyState) (cause : Option OosCause) : State :=
  match s.holding c with
  | none => s
  | some h =>
    (s.setEntry c { s.entry c with state := st, cause := cause, holding := none }).leaveRecord h.record c

/-- The compartment goes OUT_OF_SERVICE, with its holding as it stands (R4). -/
def State.outOfService (s : State) (c : Comp) (cause : OosCause) : State :=
  s.setEntry c { s.entry c with state := .outOfService, cause := some cause }

/-! ### Review causes and rest -/

/-- Appends a review cause: not when it stands in the list, nor when the list holds four (R6). -/
def Holding.addCause (h : Holding) (k : ReviewCause) : Holding :=
  if h.causes.contains k || decide (4 ≤ h.causes.length) then h else { h with causes := h.causes ++ [k] }

/-- The notice detail of a review cause (R26, R211). -/
def ReviewCause.detail : ReviewCause → Detail
  | .forced => .forced
  | .feeCondition => .feeCondition
  | .missing => .missing
  | .interrupted => .interrupted
  | .operator => .operator

/-- A cause is appended to the holding of a compartment (R6). -/
def State.addCause (s : State) (c : Comp) (k : ReviewCause) : State := s.updHolding c fun h => h.addCause k

/-- A holding enters REVIEW: the cause is appended, the rest state kept, the claimant cleared, and a REVIEW notice goes
to operations (R17, R26). -/
def State.enterReview (s : State) (c : Comp) (k : ReviewCause) : State :=
  let s1 := (s.updHolding c fun h => { h.addCause k with claimant := none }).setCustody c .review
  s1.post .operations ((s1.noteCode .review c).withDetail k.detail)

/-- A holding returns to its rest state with its claimant cleared (R5, R24). -/
def State.toRest (s : State) (c : Comp) : State :=
  match (s.holding c).bind fun h => h.rest with
  | some r => (s.updHolding c fun h => { h with claimant := none }).setCustody c (RestState.custody r)
  | none => s

/-! ### Claims (R21 to R24) -/

/-- The kinds of claim (R21). -/
inductive ClaimKind where | collect | recall | pickup | clearance
  deriving DecidableEq, Repr

/-- The states a claim admits (R21). -/
def ClaimKind.admits : ClaimKind → CustodyState → Bool
  | .collect, .held | .collect, .overstayed => true
  | .recall, .held | .recall, .overstayed => true
  | .pickup, .returnHeld | .pickup, .overstayed => true
  | .clearance, .held | .clearance, .overstayed | .clearance, .returnHeld => true
  | _, _ => false

/-- Why a claim fails on a holding in a state that its kind does not admit (R21). A rest state is not among them; it
gives none. -/
def claimRefusal : CustodyState → Option Reason
  | .releasing | .emptying => some .claimed
  | .review => some .review
  | .outOfService => some .outOfService
  | .reserved | .loading => some .notReady
  | .notFitted | .free | .held | .overstayed | .returnHeld => none

/-- A successful claim: RELEASING, the claimant set, COLLECT_INCOMPLETE cleared (R21). -/
def State.claim (s : State) (c : Comp) (who : Claimant) : State :=
  (s.updHolding c fun h => { h with claimant := some who, collectIncomplete := false }).setCustody c .releasing

/-- A SERVICE_DONE notice goes to operations. It carries the code where the compartment held a delivery before the
step's change (R12, R14 to R16, R24; log 36). -/
def State.serviceDone (s before : State) (c : Comp) (d : Detail) : State :=
  s.post .operations ((before.noteCode .serviceDone c).withDetail d)

/-- A claim lapses: the holding returns to rest and the claim's origin is told NOT_OPENED (R24). -/
def State.lapse (s : State) (c : Comp) : State :=
  match (s.holding c).bind fun h => h.claimant with
  | some .customer => (s.toRest c).post .console (s.noteFull .notOpened c)
  | some .carrier => (s.toRest c).reportClaim c .notOpened
  | some .service => (s.toRest c).serviceDone s c .notOpened
  | none => s.toRest c

/-! ### Door events (R12 to R17) -/

/-- A release of this class serves the compartment's reservation or claim: one of class CUSTODY whichever it is, one of
class SERVICE a claim of the service release alone (R13, R181; log 12). -/
def State.servedBy (s : State) (c : Comp) (cls : ReleaseClass) : Bool :=
  match cls with
  | .custody => true
  | .service => (s.holding c).any fun h => h.claimant == some .service

/-- An OPENED event with the class of its release (R13, R181). -/
def State.custodyOpened (s : State) (c : Comp) (cls : ReleaseClass) : State :=
  match s.custodyState c, s.servedBy c cls with
  | .reserved, true => s.setCustody c .loading
  | .releasing, true => (s.updHolding c fun h => { h with releaseInterrupted := false }).setCustody c .emptying
  | _, _ => s

/-- The release that a compartment's reservation or claim asked for is still to come: an entry of the compartment is
in the release queue or the pending service set, or a STARTED PICKUP has it pending (R84, R147, R163). -/
def State.releaseWaits (s : State) (c : Comp) : Bool :=
  s.hasEntry c || s.pendingFor c || s.engine.window.any fun r => r.isStarted && r.waiting.contains c

/-- The end of a release of this class ends the compartment's reservation or claim: one that it serves, and any whose
own release does not wait still (R14, R24, R147; log 12). -/
def State.endsWith (s : State) (c : Comp) (cls : ReleaseClass) : Bool := s.servedBy c cls || !(s.releaseWaits c)

/-- A WINDOW_SHUT event on a RELEASING holding, or its INTERRUPTED form (R20, R24). -/
def State.shutReleasing (s : State) (c : Comp) (interrupted : Bool) : State :=
  if interrupted then
    if (s.holding c).any fun h => h.releaseInterrupted then s.enterReview c .interrupted
    else (s.lapse c).updHolding c fun h => { h with releaseInterrupted := true }
  else s.lapse c

/-- A WINDOW_SHUT event on a RESERVED holding: it is dropped, and its origin is told NOT_OPENED (R14, R20). -/
def State.shutReserved (s : State) (c : Comp) (interrupted : Bool) : State :=
  match s.holding c with
  | none => s
  | some h =>
    let n := s.noteFull .notOpened c
    let n := if interrupted then n.withDetail .interrupted else n
    ((s.removeHolding c .free none).post h.origin.role n).reportOrigin h.origin c .notOpened none

/-- A WINDOW_SHUT event with the class of its release (R14, R20, R181). -/
def State.custodyWindowShut (s : State) (c : Comp) (cls : ReleaseClass) (interrupted : Bool) : State :=
  match s.custodyState c, s.endsWith c cls with
  | .notFitted, _ => s
  | .reserved, true => s.shutReserved c interrupted
  | .releasing, true => s.shutReleasing c interrupted
  | _, _ =>
    match cls with
    | .service => s.serviceDone s c .notOpened
    | .custody => s

/-- The detail a closure's inspection reports for a presence. -/
def Presence.detail : Presence → Detail
  | .occupied => .occupied
  | .empty => .empty

/-- An object found in a compartment without a holding: OUT_OF_SERVICE, FOREIGN_OBJECT, and the notice (R16). -/
def State.foreignObject (s : State) (c : Comp) : State :=
  (s.outOfService c .foreignObject).post .operations
    ({ s.note .foreignObject with comp := some c }.withDetail .foreignObject)

/-- A parcel not found: MISSING is appended and a MISSING notice goes to operations; a holding at rest enters REVIEW
(R16). -/
def State.missing (s : State) (c : Comp) : State :=
  let s1 := s.post .operations (s.noteCode .missing c)
  if (s.custodyState c).isRest then s1.enterReview c .missing else s1.addCause c .missing

/-- What an inspection finds, and the change it makes (R16). -/
def State.inspect (s : State) (c : Comp) (p : Presence) : State × Detail :=
  match s.custodyState c, p with
  | .free, .occupied => (s.foreignObject c, .foreignObject)
  | .outOfService, .occupied =>
    if (s.holding c).isNone then (s.foreignObject c, .foreignObject) else (s, .occupied)
  | .outOfService, .empty => if (s.holding c).isNone then (s, .empty) else (s.missing c, .missing)
  | .held, .empty | .overstayed, .empty | .returnHeld, .empty | .review, .empty => (s.missing c, .missing)
  | _, .occupied => (s, .occupied)
  | _, .empty => (s, .empty)

/-- A closure taken as an inspection. After one of kind SERVICE, a SERVICE_DONE notice with the finding goes to
operations (R16). -/
def State.custodyInspection (s : State) (c : Comp) (p : Presence) (service : Bool) : State :=
  let r := s.inspect c p
  if service then r.1.serviceDone s c r.2 else r.1

/-- A deposit's closure finds the parcel: HELD for a delivery, RETURN_HELD for a return, with the deposit minute and
the rest state (R15, R47, R80). -/
def State.depositDone (s : State) (c : Comp) (h : Holding) : State :=
  let rest : RestState := match s.consignment c with
    | some k => if k.kind = .returnDrop then .returnHeld else .held
    | none => .held
  let s1 := (s.updHolding c fun x => { x with depositMinute := some s.clock.minute, rest := some rest }).setCustody c
    (RestState.custody rest)
  match h.origin with
  | .slot n => s1.reportDrop n c .deposited (some s.clock.minute)
  | .console => s1.post .console ((s1.noteFull .returnDone c).withDetail .deposited)

/-- A deposit's closure finds nothing: the holding is dropped and the compartment goes FREE (R15, R47, R80). -/
def State.depositEmpty (s : State) (c : Comp) (h : Holding) : State :=
  match h.origin with
  | .slot n => (s.removeHolding c .free none).reportDrop n c .emptyClose none
  | .console => (s.removeHolding c .free none).post .console ((s.noteFull .returnDone c).withDetail .emptyClose)

/-- A removal's closure finds the compartment empty: the holding is retired and the compartment goes FREE (R15). -/
def State.removalDone (s : State) (c : Comp) (h : Holding) : State :=
  let s1 := s.removeHolding c .free none
  match h.claimant with
  | some .customer => s1.postBoth .console .operations (s.noteCode .collected c)
  | some .carrier => s1.reportClaim c .retrieved
  | some .service => s1.serviceDone s c .cleared
  | none => s1

/-- A removal's closure finds the parcel still there: the rest state, COLLECT_INCOMPLETE set (R7, R15). -/
def State.removalIncomplete (s : State) (c : Comp) (h : Holding) : State :=
  let s1 := (s.toRest c).updHolding c fun x => { x with collectIncomplete := true }
  match h.claimant with
  | some .customer => s1.postBoth .console .operations (s.noteCode .collectIncomplete c)
  | some .carrier => s1.reportClaim c .collectIncomplete
  | some .service => s1.serviceDone s c .collectIncomplete
  | none => s1

/-- A CLOSURE event (R15, R16). One of kind CUSTODY completes a deposit or a removal, and one of kind SERVICE completes
a removal claimed by the service release (R23, R181; log 11); every other is an inspection. -/
def State.custodyClosure (s : State) (c : Comp) (p : Presence) (kind : OpeningKind) : State :=
  match s.custodyState c, s.holding c with
  | .notFitted, _ => s
  | .loading, some h =>
    match kind, p with
    | .custody, .occupied => s.depositDone c h
    | .custody, .empty => s.depositEmpty c h
    | .service, _ => s.custodyInspection c p true
    | .forced, _ => s.custodyInspection c p false
  | .emptying, some h =>
    if kind = .custody ∨ (kind = .service ∧ h.claimant = some .service) then
      match p with
      | .empty => s.removalDone c h
      | .occupied => s.removalIncomplete c h
    else s.custodyInspection c p (kind != .forced)
  | _, _ => s.custodyInspection c p (kind != .forced)

/-- A FORCED notice to operations, with the detail FORCED where the compartment enters OUT_OF_SERVICE (R17,
section 11.4). -/
def State.noteForced (s : State) (c : Comp) (entersOos : Bool) : State :=
  let n := s.noteCode .forced c
  s.post .operations (if entersOos then n.withDetail .forced else n)

/-- A FORCED event on a RESERVED compartment: a queued entry is withdrawn, the holding dropped, and its origin told
(R17, R47, R80). -/
def State.forcedReserved (s : State) (c : Comp) (h : Holding) : State :=
  let s1 := ((s.noteForced c true).withdraw c).removeHolding c .outOfService (some .forced)
  match h.origin with
  | .slot n => s1.reportDrop n c .forced none
  | .console => s1.post .console ((s.noteFull .returnDone c).withDetail .forced)

/-- A FORCED event on a RELEASING compartment: a queued or pending entry is withdrawn, the holding enters REVIEW, and
the claim's origin is told NOT_OPENED with detail FORCED (R17, R164, R194; SERVICE: log 20). -/
def State.forcedReleasing (s : State) (c : Comp) (h : Holding) : State :=
  let s1 := (s.noteForced c false).withdraw c
  let s2 := (s1.setPending (s1.seq.pendingService.filter (· != c))).enterReview c .forced
  match h.claimant with
  | some .customer => s2.post .console ((s.noteFull .notOpened c).withDetail .forced)
  | some .carrier => s2.reportClaim c .forced
  | some .service => s2.post .operations ((s.noteFull .notOpened c).withDetail .forced)
  | none => s2

/-- A FORCED event (R17). -/
def State.custodyForced (s : State) (c : Comp) : State :=
  match s.custodyState c, s.holding c with
  | .notFitted, _ => s
  | .free, _ => (s.noteForced c true).outOfService c .forced
  | .held, _ | .overstayed, _ | .returnHeld, _ => (s.noteForced c false).enterReview c .forced
  | .review, _ => (s.noteForced c false).addCause c .forced
  | .outOfService, _ => (s.noteForced c false).addCause c .forced
  | .reserved, some h => s.forcedReserved c h
  | .releasing, some h => s.forcedReleasing c h
  | .reserved, none | .releasing, none | .loading, _ | .emptying, _ => s.noteForced c false

/-! ### Release outcomes (R18, R19) -/

/-- The two failures of a release (R18). -/
inductive Failure where | lockFault | columnDown
  deriving DecidableEq, Repr

/-- The notice detail of a failure. -/
def Failure.detail : Failure → Detail
  | .lockFault => .lockFault
  | .columnDown => .columnDown

/-- The descriptor status of a failure (R80). -/
def Failure.status : Failure → Status
  | .lockFault => .lockFault
  | .columnDown => .columnDown

/-- The end a failure gives a CARRIER claim (R82, R85). -/
def Failure.claimEnd : Failure → ClaimEnd
  | .lockFault => .lockFault
  | .columnDown => .columnDown

/-- A RESERVED compartment's release fails: the holding is dropped, and the compartment goes OUT_OF_SERVICE at a lock
fault, FREE at a column down (R18). -/
def State.failReserved (s : State) (c : Comp) (f : Failure) (h : Holding) : State :=
  let s1 := match f with
    | .lockFault => s.removeHolding c .outOfService (some .lockFault)
    | .columnDown => s.removeHolding c .free none
  s1.reportOrigin h.origin c f.status none

/-- A RELEASING compartment's release fails: OUT_OF_SERVICE with the holding at a lock fault, the rest state at a
column down; the claimant is cleared (R18). -/
def State.failReleasing (s : State) (c : Comp) (f : Failure) (h : Holding) : State :=
  let s1 := match f with
    | .lockFault => (s.updHolding c fun x => { x with claimant := none }).outOfService c .lockFault
    | .columnDown => s.toRest c
  match h.claimant with
  | some .carrier => s1.reportClaim c f.claimEnd
  | some .customer | some .service | none => s1

/-- A release FAILED by the sequencer (R18). -/
def State.custodyFailed (s : State) (c : Comp) (f : Failure) : State :=
  match s.custodyState c, s.holding c with
  | .reserved, some h => s.failReserved c f h
  | .releasing, some h => s.failReleasing c f h
  | .free, _ | .held, _ | .overstayed, _ | .returnHeld, _ | .review, _ =>
    match f with
    | .lockFault => s.outOfService c .lockFault
    | .columnDown => s
  | .reserved, none | .releasing, none | .notFitted, _ | .loading, _ | .emptying, _ | .outOfService, _ => s

/-- A RESERVED holding is dropped and the compartment goes FREE, with the outcome CANCELLED to its origin (R19). -/
def State.dropReserved (s : State) (c : Comp) : State :=
  match s.custodyState c, s.holding c with
  | .reserved, some h => (s.removeHolding c .free none).reportOrigin h.origin c .cancelled none
  | _, _ => s

/-! ### Conditions and the overstay scan -/

/-- What an unmasked condition does to one piece (R119). -/
def State.feeConditionPiece (s : State) (c : Comp) : State :=
  match s.custodyState c with
  | .held | .overstayed | .returnHeld => s.enterReview c .feeCondition
  | .review => s.addCause c .feeCondition
  | .notFitted | .free | .reserved | .loading | .releasing | .emptying | .outOfService => s

/-- The consequences of an unmasked condition at a Quote or a Collect: the pieces in list order, then the CONDITION
notice (R119, R120). -/
def State.feeCondition (s : State) (k : Consignment) (comp : Option Comp) (set : CondSet) (by_ : Detail) : State :=
  (k.pieces.foldl State.feeConditionPiece s).post .operations
    { s.note .condition with comp := comp, cons := k.code.map ConsForm.code, qualifier := some by_, set := set }

/-- The overstay scan on one compartment (R25). -/
def State.scanOne (s : State) (c : Comp) : State :=
  match s.holding c with
  | none => s
  | some h =>
    match h.rest, h.depositMinute with
    | some .held, some td =>
      let limit := (s.tariff.classes.get h.tariffClass).l
      if limit ≠ 0 ∧ s.clock.minute - td > limit then
        let s1 := s.updHolding c fun x => { x with rest := some .overstayed }
        if s.custodyState c = .held then
          (s1.setCustody c .overstayed).postBoth .courier .operations (s1.noteCode .overstayed c)
        else s1
      else s
    | _, _ => s

/-- The overstay scan over every holding, at a tick. R25 gives the holdings no order; the model takes them, and so posts
the OVERSTAYED notices, in compartment number order (log 39). -/
def State.overstayScan (s : State) : State := Comp.all.foldl State.scanOne s

end Sys2Proof.Machine
end

