-- ==== Sys2Proof/Machine/Sequencer.lean ====
section
/-! DEFINITION. The actuation sequencer: release requests (R146), failures (R160), the arbiter (R153 to R156), and the
ends of pulses (R157 to R159, R161, R165). -/

namespace Sys2Proof.Machine

/-! ### Requests and failures -/

/-- The notice qualifier of a purpose (R160, R211). -/
def Purpose.detail : Purpose → Detail
  | .deposit => .deposit
  | .collect => .collect
  | .recall => .recall
  | .pickup => .pickup
  | .service => .service
  | .test => .test

/-- A release that failed is reported: the custody table applies R18, RELEASE_FAILED goes to the origin port and to
operations with the consignment as it stood before the failure, and the entry departs (R160). -/
def State.failEntry (s : State) (e : Entry) (f : Failure) : State :=
  let n := { (s.noteFull .releaseFailed e.comp).withDetail f.detail with qualifier := some e.purpose.detail }
  ((s.custodyFailed e.comp f).postBoth e.origin .operations n).departed

/-- How the sequencer answers a release request (R146). -/
inductive RequestAnswer where | duplicate | qfull | taken
  deriving DecidableEq, Repr

/-- The answer to a request for a compartment (R146). -/
def State.requestAnswer (s : State) (c : Comp) : RequestAnswer :=
  if s.hasEntry c then .duplicate
  else if s.seq.queue.length ≥ Config.queueCap then .qfull
  else .taken

/-- A release request: refused, or taken, when the entry joins the queue, or fails at once when it is CUSTODY and its
column is DISABLED (R146). -/
def State.request (s : State) (e : Entry) : State :=
  match s.requestAnswer e.comp with
  | .duplicate | .qfull => s
  | .taken =>
    if e.cls = .custody ∧ s.column e.comp.column = .disabled then s.failEntry e .columnDown else s.join e

/-! ### The arbiter (R153 to R156) -/

/-- The column state admits the entry (R154). -/
def State.columnAdmits (s : State) (e : Entry) : Bool :=
  match s.column e.comp.column with
  | .idle | .armed _ => !(e.cls == .test && e.restore)
  | .disabled => e.cls == .test && e.restore
  | .arming _ | .pulsing _ _ | .recovering _ => false

/-- A column that is ARMING or ARMED. -/
def ColumnState.armingOrArmed : ColumnState → Bool
  | .arming _ | .armed _ => true
  | .idle | .pulsing _ _ | .recovering _ | .disabled => false

/-- The pairing condition of an entry's class (R154). -/
def State.pairingHolds (s : State) (e : Entry) : Bool :=
  match e.cls with
  | .custody => s.flying.all fun f => f.cls == .custody
  | .service | .test =>
    s.flying.isEmpty && (List.finRange 9).all fun c =>
      decide (c = e.comp.column) || !(s.column c).armingOrArmed

/-- The in-flight set is smaller than the coil budget, and PFAIL is not asserted (R154). -/
def State.budgetOpen (s : State) : Bool := decide (s.flying.length < s.seq.budget) && !s.power.pfail

/-- A queued entry is eligible at a choice (R154). -/
def State.eligible (s : State) (e : Entry) : Bool :=
  !e.inFlight && s.budgetOpen && s.columnAdmits e && s.pairingHolds e

/-- A SERVICE or TEST entry held back only by its pairing condition (R156). -/
def State.heldByPairing (s : State) (e : Entry) : Bool :=
  !e.inFlight && s.budgetOpen && s.columnAdmits e && e.cls != .custody && !(s.pairingHolds e)

/-- The oldest queued entry whose count has reached 4 is held back by its pairing condition alone: the arbiter takes no
entry at all (R156, log 21). -/
def State.arbiterHeld (s : State) : Bool :=
  match s.seq.queue.find? fun e => decide (e.passOver = Config.passOverLimit) && !e.inFlight with
  | some e => s.heldByPairing e
  | none => false

/-- A column that is ARMED. -/
def ColumnState.isArmed : ColumnState → Bool
  | .armed _ => true
  | .idle | .arming _ | .pulsing _ _ | .recovering _ | .disabled => false

/-- The arbiter's choice among the eligible entries, by its three tests (R155), or none (R156). -/
def State.choice (s : State) : Option Entry :=
  if s.arbiterHeld then none
  else
    let q := s.seq.queue.filter s.eligible
    match q.find? fun e => decide (e.passOver = Config.passOverLimit) with
    | some e => some e
    | none =>
      match q.find? fun e => (s.column e.comp.column).isArmed with
      | some e => some e
      | none => q.head?

/-- The queue after the entry of a compartment is taken: it is in flight, and the count of every older entry that
counts as eligible at the choice rises by one, up to 4 (R155, R156). -/
def passOver (counts : Entry → Bool) (taken : Comp) : List Entry → List Entry
  | [] => []
  | e :: t =>
    if e.comp = taken then { e with inFlight := true } :: t
    else
      (if counts e then { e with passOver := min Config.passOverLimit (e.passOver + 1) } else e : Entry) ::
        passOver counts taken t

/-- The pulse of a column starts, with the pulse length in force (R150). -/
def State.pulseStarts (s : State) (col : Column) (run : Nat) : State :=
  s.setColumn col (.pulsing run (msUnits s.seq.pulseLength))

/-- The arbiter takes an entry: its flight record entry is written, and its column arms, or pulses at once when it is
ARMED (R150, R155, R168). R168 gives the flight record no order; its entries are kept in the order in which they were
taken (the model's choice, log 56). -/
def State.take (s : State) (e : Entry) : State :=
  let counts := fun x => s.eligible x || s.heldByPairing x
  let s1 := { s with seq := { s.seq with
    queue := passOver counts e.comp s.seq.queue
    flight := s.seq.flight ++ [FlightEntry.mk e.comp e.purpose e.restore] } }
  match s.column e.comp.column with
  | .armed run => s1.pulseStarts e.comp.column run
  | .idle | .disabled | .arming _ | .pulsing _ _ | .recovering _ =>
    s1.setColumn e.comp.column (.arming (msUnits 30))

/-- The arbiter makes choices while one can be made; the coil budget bounds them by 3 (R153, R155). -/
def State.arbitrate : Nat → State → State
  | 0, s => s
  | fuel + 1, s =>
    match s.choice with
    | none => s
    | some e => State.arbitrate fuel (s.take e)

/-! ### Pulse ends -/

/-- The entry in flight on a column; there is at most one (R153). -/
def State.flyingOn (s : State) (col : Column) : Option Entry :=
  s.seq.queue.find? fun e => e.inFlight && decide (e.comp.column = col)

/-- A column is PULSING. -/
def State.isPulsing (s : State) (col : Column) : Bool :=
  match s.column col with
  | .pulsing _ _ => true
  | .idle | .arming _ | .armed _ | .recovering _ | .disabled => false

/-- The entry whose pulse is in progress on a PULSING column. -/
def State.pulsingEntry (s : State) (col : Column) : Option Entry :=
  if s.isPulsing col then s.flyingOn col else none

/-- The flight record entry of a compartment is cleared (R168). -/
def State.landed (s : State) (c : Comp) : State :=
  { s with seq := { s.seq with flight := s.seq.flight.filter fun f => f.comp != c } }

/-- The entry of a compartment leaves the in-flight set and the queue, and its flight record entry is cleared. -/
def State.leavesQueue (s : State) (c : Comp) : State := ((s.dropEntry c).landed c).markArbiter

/-- The class in which the scanner hears of a release (R175). -/
def EntryClass.release : EntryClass → ReleaseClass
  | .custody => .custody
  | .service | .test => .service

/-- The scanner is told of a GOOD pulse end: a SHUT door becomes RELEASED and its open window starts (R175). -/
def State.doorReleased (s : State) (c : Comp) (cls : ReleaseClass) : State :=
  match s.door c with
  | some .shut => s.setDoor c (some (.released cls (secUnits s.scanner.openWindow)))
  | some (.released _ _) | some (.opened _ _ _) | some (.ajar _ _) | some (.forced _) | none => s

/-- A GOOD end of a CUSTODY or SERVICE pulse: the entry departs, the scanner is told, and the column acts after the
departure has been told (R151, R157; log 32). -/
def State.pulseGoodEnd (s : State) (e : Entry) : State :=
  (((s.leavesQueue e.comp).doorReleased e.comp e.cls.release).departed).emit (.columnActs e.comp.column)

/-- An OPEN_COIL end of a CUSTODY or SERVICE pulse: a second attempt at the head of the queue, or LOCK_FAULT (R158). -/
def State.pulseOpenEnd (s : State) (e : Entry) : State :=
  let s1 := s.leavesQueue e.comp
  if e.attempt = 1 then
    (s1.setQueue ({ e with attempt := 2, inFlight := false } :: s1.seq.queue)).emit (.columnActs e.comp.column)
  else (s1.failEntry e .lockFault).emit (.columnActs e.comp.column)

/-- Every queued entry that targets a column fails with COLUMN_DOWN, in queue order (R159, R161). -/
def State.failColumn (s : State) (col : Column) : State :=
  (s.seq.queue.filter fun e => decide (e.comp.column = col) && !e.inFlight).foldl
    (fun t e => (t.dropEntry e.comp).failEntry e .columnDown) s

/-- A TEST_RESULT notice to operations (R161, R165, R194). -/
def State.testResult (s : State) (c : Comp) (d : Detail) (q : Option Detail) : State :=
  s.post .operations { { s.note .testResult with comp := some c }.withDetail d with qualifier := q }

/-- A SHORT end of a CUSTODY or SERVICE pulse: the column is DISABLED, the shorted entry fails, and then every queued
entry of the column (R159). -/
def State.pulseShortEnd (s : State) (e : Entry) : State :=
  let col := e.comp.column
  let s1 := ((s.putColumn col .disabled).leavesQueue e.comp).failEntry e .columnDown
  (s1.failColumn col).tellScanner col

/-- The notice detail of a pulse outcome (R161, R165). -/
def PulseOutcome.detail : PulseOutcome → Detail
  | .good => .good
  | .openCoil => .openCoil
  | .short => .short

/-- What TEST_RESULT adds for a Column Restore (R161). -/
def restoreDetail (o : PulseOutcome) : Detail :=
  match o with
  | .good => .restored
  | .openCoil | .short => .notRestored

/-- A TEST pulse ends: TEST_RESULT is posted and the entry departs; a column that is shorted, or whose restore fails,
is DISABLED and its queued entries fail; a restored column disarms; any other column acts as R151 gives (R159, R161,
R165). -/
def State.testPulseEnd (s : State) (e : Entry) (o : PulseOutcome) : State :=
  let col := e.comp.column
  let q := if e.restore then some (restoreDetail o) else none
  let s1 := ((s.leavesQueue e.comp).testResult e.comp (PulseOutcome.detail o) q).departed
  match o, e.restore with
  | .short, _ | .openCoil, true => ((s1.putColumn col .disabled).failColumn col).tellScanner col
  | .good, true => s1.disarm col
  | .good, false | .openCoil, false => s1.emit (.columnActs col)

end Sys2Proof.Machine
end

