-- ==== Sys2Proof/Machine/Flags.lean ====
section
/-! DEFINITION. The condition flags: sets of conditions, the masks, and the sticky set with its first-raised minutes
(chapter 6). -/

namespace Sys2Proof.Machine

/-- The value of one condition. -/
def condAt {α : Type} (p : PerCond α) : Condition → α
  | .clock => p.clock
  | .tariff => p.tariff
  | .sat => p.sat
  | .capped => p.capped
  | .round => p.round
  | .overpaid => p.overpaid

/-- Combines two values for each condition. -/
def condZip {α β γ : Type} (f : α → β → γ) (a : PerCond α) (b : PerCond β) : PerCond γ :=
  ⟨f a.clock b.clock, f a.tariff b.tariff, f a.sat b.sat, f a.capped b.capped, f a.round b.round,
    f a.overpaid b.overpaid⟩

/-- The union of two sets (R114). -/
def CondSet.union (a b : CondSet) : CondSet := condZip (· || ·) a b

/-- The conditions of the first set that are not in the second. -/
def CondSet.minus (a b : CondSet) : CondSet := condZip (fun x y => x && !y) a b

/-- The set holds a condition. -/
def CondSet.any (a : CondSet) : Bool := a.clock || a.tariff || a.sat || a.capped || a.round || a.overpaid

/-- The set of CLOCK alone, when raised. -/
def CondSet.ofClock (b : Bool) : CondSet := { CondSet.none with clock := b }
/-- The set of TARIFF alone, when raised. -/
def CondSet.ofTariff (b : Bool) : CondSet := { CondSet.none with tariff := b }
/-- The set of SAT alone, when raised. -/
def CondSet.ofSat (b : Bool) : CondSet := { CondSet.none with sat := b }
/-- The set of CAPPED alone, when raised. -/
def CondSet.ofCapped (b : Bool) : CondSet := { CondSet.none with capped := b }
/-- The set of ROUND alone, when raised. -/
def CondSet.ofRound (b : Bool) : CondSet := { CondSet.none with round := b }
/-- The set of OVERPAID alone, when raised. -/
def CondSet.ofOverpaid (b : Bool) : CondSet := { CondSet.none with overpaid := b }

/-- The raised conditions that are unmasked at this step (R116). -/
def State.unmaskedOf (s : State) (raised : CondSet) : CondSet := raised.minus s.tariff.masks

/-- One condition of the sticky set after an evaluation at a minute: a condition not in it enters with that minute, one
already in it keeps its first-raised minute (R115). -/
def stickyOne (minute : Nat) (raised : Bool) (old : Option Nat) : Option Nat :=
  match old with
  | some m => some m
  | none => if raised then some minute else none

/-- Adds an evaluation's raised set to the sticky set (R115). -/
def State.addSticky (s : State) (raised : CondSet) : State :=
  { s with tariff := { s.tariff with sticky := condZip (stickyOne s.clock.minute) raised s.tariff.sticky } }

/-- Masks exactly the conditions of a set (R117). -/
def State.putMasks (s : State) (set : CondSet) : State := { s with tariff := { s.tariff with masks := set } }

/-- Removes the conditions of a set from the sticky set, with their first-raised minutes (R122). -/
def State.clearSticky (s : State) (set : CondSet) : State :=
  { s with tariff := { s.tariff with
      sticky := condZip (fun (out : Bool) m => if out then none else m) set s.tariff.sticky } }

/-- The sticky set as a set. -/
def State.stickySet (s : State) : CondSet := condZip (fun (m : Option Nat) (_ : Bool) => m.isSome) s.tariff.sticky CondSet.none

end Sys2Proof.Machine
end

