-- ==== Sys2Proof/Machine/Tariff.lean ====
section
/-! DEFINITION. The tariff unit's arithmetic: the seven stages of a piece's dwell fee (R98 to R103), the lanes (R104 to
R107), the dues (R108 to R110) and the evaluation (R97, R112). All of it is whole-number arithmetic, clamped where the
manual clamps. -/

namespace Sys2Proof.Machine

/-- Stage 1: the dwell, and whether CLOCK is raised (R98). -/
def stageDwell (td te : Nat) : Nat × Bool := if td ≤ te then (te - td, false) else (0, true)

/-- Stage 2: the chargeable minutes (R99). -/
def stageChargeable (dwell free : Nat) : Nat := if dwell > free then dwell - free else 0

/-- The valid set of the unit length (R92). -/
def unitValid (u : Nat) : Bool := u == 15 || u == 30 || u == 60

/-- The valid set of a size multiplier (R93). -/
def multValid (m : Nat) : Bool := decide (8 ≤ m ∧ m ≤ 31)

/-- Division rounded up. -/
def divUp (a b : Nat) : Nat := (a + b - 1) / b

/-- Stages 4 and 5: the exact base of n started units in two bands (R100). -/
def exactBase (n : Nat) (t : ClassValues) : Nat := min n t.b * t.r1 + (n - min n t.b) * t.r2

/-- An amount clamped at 999,999, and whether the clamp acted (R100, R103, R104, R110). -/
def saturate (n : Nat) : Nat × Bool := if n > maxAmount then (maxAmount, true) else (n, false)

/-- The started days of a dwell, at least 1 (R101). -/
def startedDays (dwell : Nat) : Nat := max 1 (divUp dwell 1440)

/-- Stage 6: the daily cap, and whether CAPPED is raised (R101). -/
def stageCap (base c dwell : Nat) : Nat × Bool :=
  if c = 0 then (base, false)
  else
    let capTotal := min (c * startedDays dwell) maxAmount
    if base < capTotal then (base, false) else (capTotal, true)

/-- The rounding of R103: whether q becomes q + 1. -/
def roundsUp (mode : RoundingMode) (q rem : Nat) : Bool :=
  match mode with
  | .nearestEven => decide (rem > 4) || (rem == 4 && q % 2 == 1)
  | .down => false
  | .up => decide (rem > 0)

/-- Stage 7 for a multiplier in its valid set: the rounded fee before its clamp, and whether ROUND is raised
(R102, R103). -/
def stageScale (mode : RoundingMode) (capped m : Nat) : Nat × Bool :=
  let q := capped * m / 8
  let rem := capped * m % 8
  (if roundsUp mode q rem then q + 1 else q, decide (rem ≠ 0))

/-- The dwell fee of one piece and the conditions its stages raise (R98 to R103, R112). -/
def pieceFee (t : ClassValues) (mult : Nat) (mode : RoundingMode) (td te : Nat) : Nat × CondSet :=
  let d := stageDwell td te
  let clock := CondSet.ofClock d.2
  if unitValid t.u = false then (0, clock.union (CondSet.ofTariff true))
  else
    let n := divUp (stageChargeable d.1 t.f) t.u
    let base := saturate (exactBase n t)
    let cap := stageCap base.1 t.c d.1
    let upTo6 := (clock.union (CondSet.ofSat base.2)).union (CondSet.ofCapped cap.2)
    if multValid mult = false then (0, upTo6.union (CondSet.ofTariff true))
    else
      let scaled := stageScale mode cap.1 mult
      let fee := saturate scaled.1
      (fee.1, (upTo6.union (CondSet.ofRound scaled.2)).union (CondSet.ofSat fee.2))

/-- One evaluated piece. -/
structure PieceResult where
  comp : Comp
  fee : Nat
  raised : CondSet
  deriving DecidableEq, Repr

/-- The result of an evaluation (R97). -/
structure Evaluation where
  pieces : List PieceResult
  laneO : Nat
  laneK : Nat
  dueO : Nat
  dueK : Nat
  total : Nat
  raised : CondSet
  deriving DecidableEq, Repr

/-- A lane less what was paid for it, and whether OVERPAID is raised (R108, R109). -/
def lessPaid (lane paid : Nat) : Nat × Bool := if paid ≤ lane then (lane - paid, false) else (0, true)

/-- Due O at a minute: 0 for a waived consignment or up to and including its paid-through minute (R108). -/
def dueLaneO (k : Consignment) (laneO te : Nat) : Nat × Bool :=
  if k.waived then (0, false)
  else
    match k.paidThrough with
    | some m => if te ≤ m then (0, false) else lessPaid laneO k.paidO
    | none => lessPaid laneO k.paidO

/-- The pieces of a delivery that have a deposit minute, each with its fee (R97). -/
def State.pieceResults (s : State) (k : Consignment) (te : Nat) : List PieceResult :=
  k.pieces.filterMap fun c =>
    match s.holding c with
    | none => none
    | some h =>
      match h.depositMinute with
      | none => none
      | some td =>
        let f := pieceFee (s.tariff.classes.get h.tariffClass) (sizeAt s.tariff.bank.mult h.size)
          s.tariff.bank.rounding td te
        some { comp := c, fee := f.1, raised := f.2 }

/-- The lanes of a consignment with what its pieces raise: a delivery's from its fees and COD amount (R104), a return's
fixed lanes (R107). -/
def State.evaluate (s : State) (k : Consignment) : Evaluation :=
  let te := s.clock.minute
  let pieces : List PieceResult := match k.kind with
    | .delivery => s.pieceResults k te
    | .returnDrop => []
  let laneO := match k.kind with
    | .delivery => saturate ((pieces.map fun (p : PieceResult) => p.fee).sum)
    | .returnDrop => (k.laneO, false)
  let laneK := match k.kind with
    | .delivery => k.cod
    | .returnDrop => k.laneK
  let dueO := dueLaneO k laneO.1 te
  let dueK := lessPaid laneK k.paidK
  let total := saturate (dueO.1 + dueK.1)
  { pieces := pieces, laneO := laneO.1, laneK := laneK, dueO := dueO.1, dueK := dueK.1, total := total.1
    raised := (((pieces.map fun (p : PieceResult) => p.raised).foldl CondSet.union CondSet.none).union
      (CondSet.ofSat (laneO.2 || total.2))).union (CondSet.ofOverpaid (dueO.2 || dueK.2)) }

/-- The carrier's half of a return fee under SPLIT, by halving to odd (R106). -/
def halfToOdd (r : Nat) : Nat := if r % 2 = 0 then r / 2 else if (r / 2) % 2 = 1 then r / 2 else r / 2 + 1

/-- The return fee lanes O and K (R105). -/
def returnLanes (mode : ReturnMode) (r : Nat) : Nat × Nat :=
  match mode with
  | .prepaid => (0, 0)
  | .carrierFull => (0, r)
  | .split => (r - halfToOdd r, halfToOdd r)

/-- The first piece whose evaluation raised an unmasked condition, or else the first piece of the list (R120). -/
def State.conditionComp (s : State) (k : Consignment) (ev : Evaluation) : Option Comp :=
  match ev.pieces.find? fun p => (s.unmaskedOf p.raised).any with
  | some p => some p.comp
  | none => k.pieces.head?

end Sys2Proof.Machine
end

