-- ==== Sys2Proof/Machine/Allocator.lean ====
section
/-! DEFINITION. The carrier table's matching and the allocator: eligible compartments, placement, the code generator,
and the two commits (R44, R54 to R64). -/

namespace Sys2Proof.Machine

/-! ### Matching (R54) -/

/-- What matching a carrier ID finds (R54). -/
inductive CarrierMatch where
  | found (i : Fin 8)
  | notPermitted
  | unknown
  deriving DecidableEq, Repr

/-- Matches a carrier ID against the carrier table (R54). -/
def State.matchCarrier (s : State) (id : Nat) : CarrierMatch :=
  match firstIndex s.carriers (fun e => e.enabled && e.id == id) with
  | some i => .found i
  | none => if (firstIndex s.carriers (fun e => e.id == id)).isSome then .notPermitted else .unknown

/-- The quota test for n holdings (R56). -/
def State.quotaAdmits (s : State) (i : Fin 8) (n : Nat) : Bool :=
  decide ((s.carriers.get i).live + n ≤ (s.carriers.get i).quota)

/-! ### Placement (R57, R58, R60) -/

/-- The use class admits a deposit kind (R57). -/
def useAdmits : UseClass → ConsKind → Bool
  | .any, _ => true
  | .deliveryOnly, .delivery => true
  | .returnOnly, .returnDrop => true
  | .deliveryOnly, .returnDrop => false
  | .returnOnly, .delivery => false

/-- A compartment is eligible for a deposit (R57). -/
def State.eligibleFor (s : State) (k : ConsKind) (c : Comp) : Bool :=
  s.custodyState c == .free && useAdmits (s.entry c).use k && s.column c.column != .disabled &&
    s.door c == some .shut && !(s.hasEntry c) && !(s.pendingFor c)

/-- The compartment for one piece: the smallest size class not below the requested one that has an eligible
compartment, and the lowest-numbered in it; those already taken by the group are not eligible (R58, R60). -/
def State.placeOne (s : State) (k : ConsKind) (size : SizeClass) (taken : List Comp) : Option Comp :=
  (SizeClass.upwards size).findSome? fun cl =>
    Comp.all.find? fun c => (s.entry c).size == cl && s.eligibleFor k c && !(taken.contains c)

/-- Places the pieces of a group in order, whole or not at all (R60). -/
def State.placeAll (s : State) : List SizeClass → List Comp → Option (List Comp)
  | [], taken => some taken
  | z :: t, taken =>
    match s.placeOne .delivery z taken with
    | some c => s.placeAll t (taken ++ [c])
    | none => none

/-! ### The code generator (R63, R64) -/

/-- The candidate at a position of the sequence that a seed determines (R63, log 7). -/
def candidateAt (seed position : Nat) : Nat :=
  (Config.codeSequence seed ⟨position % 100000000, Nat.mod_lt _ (by omega)⟩).val

/-- Advances the position and takes the candidate there, past every candidate that is 00000000 or in use (R64). The
fuel is one more than the number of candidates that can be skipped. -/
def drawCode (seed : Nat) (used : List Nat) : Nat → Nat → Nat × Nat
  | 0, position => (candidateAt seed position, position)
  | fuel + 1, position =>
    let next := (position + 1) % Config.codePeriod
    let code := candidateAt seed next
    if code = 0 ∨ used.contains code then drawCode seed used fuel next else (code, next)

/-- A draw against the present code map: the code, and the generator's new position (R64). -/
def State.draw (s : State) : Nat × Nat :=
  drawCode s.codeGen.seed (s.custody.codeMap.map fun p => p.1) (s.custody.codeMap.length + 2) s.codeGen.position

/-! ### Commits (R44, R61) -/

/-- The lowest record number not in use (R9). -/
def State.freeRecord (s : State) : Option RecordNo := firstIndex s.custody.records (fun k => k.isNone)

/-- A holding as it is created (R5). -/
def Holding.fresh (n : RecordNo) (ref : Option Text) (size : SizeClass) (cls : Fin 4) (origin : Origin) : Holding :=
  { record := n, parcelRef := ref, size := size, tariffClass := cls, depositMinute := none, rest := none,
    claimant := none, origin := origin, causes := [], releaseInterrupted := false, collectIncomplete := false }

/-- Creates a holding in RESERVED (R5). -/
def State.reserve (s : State) (c : Comp) (h : Holding) : State :=
  s.setEntry c { s.entry c with state := .reserved, cause := none, holding := some h }

/-- Raises a carrier's live count (R50). -/
def State.raiseLive (s : State) (i : Fin 8) (n : Nat) : State :=
  let e := s.carriers.get i
  { s with carriers := put s.carriers i { e with live := e.live + n } }

/-- One placed piece of a group: its slot, its descriptor and its compartment. -/
structure Placed where
  slot : RingSlot
  desc : Descriptor
  comp : Comp
  deriving DecidableEq, Repr

/-- Commits a DROP group with its code: the record, the code map, the holdings and the live count (R61 steps 2 to 5). -/
def State.commitGroup (s : State) (n : RecordNo) (i : Fin 8) (code cod : Nat) (pieces : List Placed) : State :=
  let k : Consignment :=
    { code := some code, kind := .delivery, carrier := i, pieces := pieces.map fun p => p.comp, cod := cod,
      laneO := 0, laneK := 0, paidO := 0, paidK := 0, paidThrough := none, waived := false, openRef := none }
  let s1 := s.putRecord n (some k)
  let s2 := { s1 with custody := { s1.custody with codeMap := mapInsert code n s1.custody.codeMap } }
  let cls := (s.carriers.get i).tariffClass
  (pieces.foldl (fun t p =>
    t.reserve p.comp (Holding.fresh n p.desc.parcelRef p.desc.size cls (.slot p.slot))) s2).raiseLive i pieces.length

/-- The result of the allocator's checks of a DROP group (R59). -/
inductive GroupCheck where
  | fails (st : Status)
  | passes (i : Fin 8) (comps : List Comp)
  deriving DecidableEq, Repr

/-- The COD amount of a FIRST descriptor as taken (R79). -/
def codTaken (d : Descriptor) : Nat := min (d.cod.getD 0) maxAmount

/-- The COD amount was above 999,999 (R79). -/
def codClamped (d : Descriptor) : Bool := decide (d.cod.getD 0 > maxAmount)

/-- The supplied code of a FIRST descriptor fails check 4 or check 5 (R59, R62). -/
def State.codeFails (s : State) (d : Descriptor) : Option Status :=
  match d.code with
  | none => none
  | some 0 => some .format
  | some n => if (s.findCode n).isSome then some .codeClash else none

/-- The allocator's checks of a DROP group, in order (R59). -/
def State.checkGroup (s : State) (first : Descriptor) (group : List Descriptor) : GroupCheck :=
  match s.matchCarrier first.carrierId with
  | .unknown => .fails .unknownCarrier
  | .notPermitted => .fails .notPermitted
  | .found i =>
    let e := s.carriers.get i
    if !e.rights.deliver || (codTaken first != 0 && !e.rights.cod) then .fails .notPermitted
    else if !(group.all fun d => sizeAt e.sizes d.size) then .fails .noSpace
    else
      match s.codeFails first with
      | some st => .fails st
      | none =>
        if !(s.quotaAdmits i group.length) then .fails .quota
        else
          match s.placeAll (group.map fun d => d.size) [] with
          | none => .fails .noSpace
          | some comps => .passes i comps

/-- The return fee lanes of a return drop (R105). -/
def State.returnFee (s : State) (i : Fin 8) (size : SizeClass) : Nat × Nat :=
  returnLanes (s.carriers.get i).mode (sizeAt s.tariff.bank.fee size)

/-- Commits a return drop: the record of kind RETURN, the holding and the live count (R44). -/
def State.commitReturn (s : State) (n : RecordNo) (i : Fin 8) (c : Comp) (size : SizeClass) (ref : Option Text) :
    State :=
  let lanes := s.returnFee i size
  let k : Consignment :=
    { code := none, kind := .returnDrop, carrier := i, pieces := [c], cod := 0, laneO := lanes.1, laneK := lanes.2,
      paidO := 0, paidK := 0, paidThrough := none, waived := false, openRef := none }
  ((s.putRecord n (some k)).reserve c
    (Holding.fresh n ref size (s.carriers.get i).tariffClass .console)).raiseLive i 1

/-- The custody table asks for the release of a return drop (R45, R141). -/
def returnEntry (c : Comp) : Entry := Entry.fresh c .custody .deposit .console

/-- A paid return asks for its release; one that finds the queue full joins the paid return list (R45, R46, R141). -/
def State.releasePaidReturn (s : State) (n : RecordNo) (c : Comp) : State :=
  match s.requestAnswer c with
  | .taken => s.request (returnEntry c)
  | .duplicate | .qfull => { s with paidReturns := s.paidReturns ++ [n] }

end Sys2Proof.Machine
end

