-- ==== Sys2Proof/Machine/Engine.lean ====
section
/-! DEFINITION. The manifest engine: looking at the pointer (R75, R76), release room (R77), the start of DROP groups,
RECALLs and PICKUPs (R79, R81, R83), feeding (R84), retirement (R86, R87), and Stop (R88). -/

namespace Sys2Proof.Machine

/-! ### The ring -/

/-- A ring slot (R66). -/
def State.slot (s : State) (i : RingSlot) : Slot := s.engine.ring.get i

/-- Replaces a ring slot. -/
def State.putSlot (s : State) (i : RingSlot) (x : Slot) : State :=
  { s with engine := { s.engine with ring := put s.engine.ring i x } }

/-- The slot n places on, 31 being followed by 0 (R66). -/
def slotAfter (i : RingSlot) (n : Nat) : RingSlot := ⟨(i.val + n) % 32, Nat.mod_lt _ (by omega)⟩

/-- The run of n slots from a first one (R70). -/
def slotRun (i : RingSlot) (n : Nat) : List RingSlot := (List.range n).map (slotAfter i)

/-- A slot is owned by the engine (R66). -/
def State.engineOwns (s : State) (i : RingSlot) : Bool := (s.slot i).owner == .engine

/-- Changes the engine's state. -/
def State.setEngine (s : State) (e : EngineState) : State := { s with engine := { s.engine with state := e } }

/-- Moves the engine's pointer. -/
def State.setPointer (s : State) (i : RingSlot) : State := { s with engine := { s.engine with pointer := i } }

/-! ### Release room and feeding (R77, R84) -/

/-- The engine holds an entry: one it asked for itself (R77). -/
def Entry.engineHeld (e : Entry) : Bool :=
  e.origin == .courier && (e.purpose == .deposit || e.purpose == .recall || e.purpose == .pickup)

/-- The entries the engine holds (R77). -/
def State.engineHolds (s : State) : Nat := (s.seq.queue.filter Entry.engineHeld).length

/-- Release room for n entries (R77). -/
def State.releaseRoom (s : State) (n : Nat) : Bool :=
  decide (s.engineHolds + n ≤ Config.engineShare) && decide (s.seq.queue.length + n ≤ Config.queueCap)

/-- The first feedable pending compartment: of the oldest PICKUP record that has one, in pending-list order (R84). -/
def State.feedable (s : State) : Option Comp :=
  s.engine.window.findSome? fun r =>
    if r.isStarted && r.kind == .pickup then r.waiting.find? fun c => !(s.hasEntry c) else none

/-- The compartment that the engine feeds now, when it has room for one (R84). -/
def State.feedNow (s : State) : Option Comp := if s.releaseRoom 1 then s.feedable else none

/-- Feeds one pending release, and looks again for the next (R84). -/
def State.feedOne (s : State) : State :=
  match s.feedNow with
  | none => s
  | some c =>
    ((s.setWindow (updFirst (fun r => r.isStarted && r.waiting.contains c)
      (fun r => { r with waiting := r.waiting.filter (· != c) }) s.engine.window)).request
        (Entry.fresh c .custody .pickup .courier)).emit .feed

/-! ### Reading a group (R76) -/

/-- What reading a group forward from its FIRST finds (R76). -/
inductive GroupScan where
  | incomplete (at_ : RingSlot)
  | bad (n : Nat)
  | good (n : Nat)
  deriving DecidableEq, Repr

/-- Reads a group forward: `left` slots may still be read, `n` have been taken (R76). -/
def State.scanGroup (s : State) : (left : Nat) → (i : RingSlot) → (n : Nat) → GroupScan
  | 0, _, n => .bad n
  | left + 1, i, n =>
    let d := (s.slot i).desc
    if !(s.engineOwns i) then .incomplete i
    else if decide (0 < n) && (d.kind != .drop || d.first) then .bad n
    else if d.last then .good (n + 1)
    else s.scanGroup left (slotAfter i 1) (n + 1)

/-! ### Starting (R79, R81, R83) -/

/-- A window record as it is entered. -/
def WindowRecord.fresh (slot : RingSlot) (kind : DescKind) (outcome : Option Status) : WindowRecord :=
  { slot := slot, kind := kind, outcome := outcome, carrier := none, comp := none, code := none,
    depositMinute := none, codClamped := false, outstanding := [], waiting := [], claimed := 0, retrieved := 0,
    notOpened := 0 }

/-- Enters records in the window, advances the pointer past them, and goes on to feed, to retire and to look again
(R71, R75, R86). -/
def State.started (s : State) (rs : List WindowRecord) : State :=
  (s.setWindow (s.engine.window ++ rs)).setPointer (slotAfter s.engine.pointer rs.length)

/-- After a start the engine feeds, retires what is COMPLETE at the oldest end, and looks at its pointer again (R75,
R84, R86). -/
def State.afterStart (s : State) : State := ((s.emit .feed).emit .retire).emit .look

/-- Marks COD_CLAMPED in the record of a group's FIRST descriptor (R79). -/
def clampFirst (clamped : Bool) : List WindowRecord → List WindowRecord
  | [] => []
  | r :: t => { r with codClamped := clamped } :: t

/-- The window record of a placed piece (R79). -/
def Placed.record (p : Placed) (code : Nat) (i : Fin 8) : WindowRecord :=
  { WindowRecord.fresh p.slot .drop none with carrier := some i, comp := some p.comp, code := some code }

/-- The descriptors of a run, each given the same status at its start (R75). COD_CLAMPED is clear in each: a failed
group takes it through clampFirst (R79), and a run that GROUP_SIZE ends has it clear, also where the COD amount of its
FIRST is above 999,999 (R76, R79; the model's choice, log 48). -/
def failedRun (slots : List RingSlot) (st : Status) : List WindowRecord :=
  slots.map fun i => WindowRecord.fresh i .drop (some st)

/-- Commits a group whose checks have passed: the code is fixed, the group committed, and one release asked for each
piece (R61, R79). -/
def State.startPlaced (s : State) (first : Descriptor) (i : Fin 8) (pieces : List Placed) (n : RecordNo) : State :=
  let drawn := s.draw
  let code := match first.code with
    | some x => x
    | none => drawn.1
  let s1 := match first.code with
    | some _ => s
    | none => { s with codeGen := { s.codeGen with position := drawn.2 } }
  let s2 := (s1.commitGroup n i code (codTaken first) pieces).started
    (clampFirst (codClamped first) (pieces.map fun p => p.record code i))
  pieces.foldl (fun t p => t.request (Entry.fresh p.comp .custody .deposit .courier)) s2

/-- Joins the slots of a group with their compartments. -/
def placedOf (s : State) (slots : List RingSlot) (comps : List Comp) : List Placed :=
  (slots.zip comps).map fun p => { slot := p.1, desc := (s.slot p.1).desc, comp := p.2 }

/-- Starts a DROP group of n descriptors at the pointer (R79). There is always a free record (R9); the last branch is
not reached (log 29). -/
def State.startGroup (s : State) (n : Nat) : State :=
  let slots := slotRun s.engine.pointer n
  let group := slots.map fun i => (s.slot i).desc
  let first := (s.slot s.engine.pointer).desc
  let fail := fun st => s.started (clampFirst (codClamped first) (failedRun slots st))
  (if group.any fun d => d.parcelRef.isNone then fail .format
  else
    match s.checkGroup first group, s.freeRecord with
    | .fails st, _ => fail st
    | .passes i comps, some r => s.startPlaced first i (placedOf s slots comps) r
    | .passes _ _, none => fail .noSpace).afterStart

/-- The status of a claim that fails, by the holding's state (R21). -/
def claimStatus : CustodyState → Status
  | .releasing | .emptying => .claimed
  | .review => .review
  | .outOfService => .outOfService
  | .reserved | .loading | .notFitted | .free | .held | .overstayed | .returnHeld => .notReady

/-- The compartment's holding belongs to a consignment of the carrier. -/
def State.ofCarrier (s : State) (i : Fin 8) (c : Comp) : Bool :=
  match s.consignment c with
  | some k => k.carrier == i
  | none => false

/-- The candidates of a RECALL, in compartment number order (R81). -/
def State.recallCandidates (s : State) (i : Fin 8) (ref : Text) : List Comp :=
  Comp.all.filter fun c =>
    s.ofCarrier i c && (s.consignment c).any (fun k => k.kind == .delivery) &&
      (s.holding c).any (fun h => h.parcelRef == some ref)

/-- The status of a RECALL that can claim none of its candidates, from the lowest-numbered one (R81). -/
def State.recallStatus (s : State) (c : Comp) : Status :=
  if (s.custodyState c).isRest && s.hasEntry c then .occupied else claimStatus (s.custodyState c)

/-- A RECALL that has matched its carrier finds its candidates and claims one (R81 steps 3 to 5). -/
def State.recallFrom (s : State) (d : Descriptor) (ref : Text) (i : Fin 8) : State :=
  let slot := s.engine.pointer
  let cs := s.recallCandidates i ref
  let rec_ := { WindowRecord.fresh slot d.kind none with carrier := some i }
  match cs.find? fun c => ClaimKind.admits .recall (s.custodyState c) && !(s.hasEntry c) with
  | some c =>
    ((s.started [{ rec_ with comp := some c }]).claim c .carrier).request
      (Entry.fresh c .custody .recall .courier)
  | none =>
    match cs.head? with
    | some c => s.started [{ rec_ with comp := some c, outcome := some (s.recallStatus c) }]
    | none => s.started [{ rec_ with outcome := some .notFound }]

/-- Enters one record that is COMPLETE at its start. It keeps no carrier index, also where the carrier was matched and
lacks the right (R55, R78; the model's choice, log 37). -/
def State.startFails (s : State) (kind : DescKind) (st : Status) : State :=
  s.started [WindowRecord.fresh s.engine.pointer kind (some st)]

/-- Starts the RECALL at the pointer (R81). -/
def State.startRecall (s : State) : State :=
  let d := (s.slot s.engine.pointer).desc
  (match d.parcelRef with
  | none => s.startFails .recall .format
  | some ref =>
    match s.matchCarrier d.carrierId with
    | .unknown => s.startFails .recall .unknownCarrier
    | .notPermitted => s.startFails .recall .notPermitted
    | .found i =>
      if (s.carriers.get i).rights.deliver then s.recallFrom d ref i else s.startFails .recall .notPermitted).afterStart

/-- The compartments a PICKUP claims, in compartment number order (R83). -/
def State.pickupClaims (s : State) (i : Fin 8) : List Comp :=
  Comp.all.filter fun c => s.ofCarrier i c && ClaimKind.admits .pickup (s.custodyState c) && !(s.hasEntry c)

/-- A PICKUP that has matched its carrier claims every eligible holding (R83 steps 2 and 3). -/
def State.pickupFrom (s : State) (i : Fin 8) : State :=
  let cs := s.pickupClaims i
  let outcome : Option Status := if cs.isEmpty then some .done else none
  cs.foldl (fun t c => t.claim c .carrier)
    (s.started [{ WindowRecord.fresh s.engine.pointer .pickup outcome with
      carrier := some i, outstanding := cs, waiting := cs, claimed := cs.length }])

/-- Starts the PICKUP at the pointer (R83). -/
def State.startPickup (s : State) : State :=
  let d := (s.slot s.engine.pointer).desc
  (match s.matchCarrier d.carrierId with
  | .unknown => s.startFails .pickup .unknownCarrier
  | .notPermitted => s.startFails .pickup .notPermitted
  | .found i =>
    if (s.carriers.get i).rights.pickupReturns then s.pickupFrom i else s.startFails .pickup .notPermitted).afterStart

/-! ### The look at the pointer (R75) -/

/-- The engine goes to SUSPENDED and posts RING_SUSPENDED with a slot (R75). -/
def State.suspend (s : State) (i : RingSlot) : State :=
  (s.setEngine .suspended).post .courier { s.note .ringSuspended with slot := some i }

/-- The window has room for n descriptors (R75, R78). -/
def State.windowRoom (s : State) (n : Nat) : Bool := decide (s.engine.window.length + n ≤ Config.windowCap)

/-- The engine may start a DROP group or RECALL of n entries: it has release room, and no pending PICKUP release could
be fed at once (R77). -/
def State.mayStart (s : State) (n : Nat) : Bool := s.releaseRoom n && s.feedNow.isNone

/-- The look at an ENGINE-owned DROP at the pointer (R75, R76). A run that is given GROUP_SIZE reads no COD amount and
sets no COD_CLAMPED (the model's choice, log 48). -/
def State.lookDrop (s : State) : State :=
  let p := s.engine.pointer
  if (s.slot p).desc.first then
    match s.scanGroup 4 p 0 with
    | .incomplete i => s.suspend i
    | .bad n =>
      if s.windowRoom n then (s.started (failedRun (slotRun p n) .groupSize)).afterStart else s
    | .good n => if s.windowRoom n && s.mayStart n then s.startGroup n else s
  else if s.windowRoom 1 then (s.started (failedRun [p] .groupSize)).afterStart
  else s

/-- In RUNNING, the engine looks at the slot at its pointer (R75). -/
def State.lookNow (s : State) : State :=
  let p := s.engine.pointer
  if s.engine.state ≠ .running then s
  else if !(s.engineOwns p) then s.suspend p
  else
    match (s.slot p).desc.kind with
    | .drop => s.lookDrop
    | .recall => if s.windowRoom 1 && s.mayStart 1 then s.startRecall else s
    | .pickup => if s.windowRoom 1 then s.startPickup else s

/-! ### Retirement (R86, R87) -/

/-- The error summary of a status (R87). -/
def Status.errorSummary : Status → Option ErrorSummary
  | .none | .deposited | .retrieved | .done => Option.none
  | .format | .groupSize => some .request
  | .unknownCarrier | .notPermitted => some .carrier
  | .noSpace | .quota | .codeClash => some .placement
  | .notFound | .claimed | .review | .outOfService | .notReady | .occupied => some .claim
  | .notOpened | .emptyClose | .forced | .collectIncomplete => some .door
  | .lockFault | .columnDown => some .lock
  | .cancelled => some .stop

/-- The write-back of a record (R86). -/
def WindowRecord.back (r : WindowRecord) (st : Status) : WriteBack :=
  { status := st, summary := Status.errorSummary st, codClamped := r.codClamped, comp := r.comp, code := r.code,
    depositMinute := r.depositMinute, claimed := r.claimed, retrieved := r.retrieved, notOpened := r.notOpened }

/-- Retires one descriptor: its slot is written back and becomes COURIER-owned, the record leaves the window, and
DESCRIPTOR_DONE is posted when NOTIFY is set (R86). -/
def State.retireOne (s : State) (r : WindowRecord) (rest : List WindowRecord) (st : Status) : State :=
  let x := s.slot r.slot
  let s1 := (s.putSlot r.slot { x with owner := .courier, back := r.back st }).setWindow rest
  if x.desc.notify then
    s1.post .courier { s.note .descriptorDone with
      slot := some r.slot, comp := r.comp, cons := r.code.map ConsForm.code, detail := some (.status st) }
  else s1

/-- Retires the oldest descriptor while it is COMPLETE (R86). -/
def State.retireAll : List WindowRecord → State → State
  | [], s => s
  | r :: rest, s =>
    match r.outcome with
    | some st => State.retireAll rest (s.retireOne r rest st)
    | none => s

/-- Every ENGINE-owned slot that was never started is returned to the courier (R67, R88). -/
def Slot.returned (x : Slot) : Slot := { x with owner := .courier }

/-- The engine enters STOPPED (R88). -/
def State.enterStopped (s : State) : State :=
  { s with engine := { s.engine with state := .stopped, ring := s.engine.ring.map Slot.returned } }

/-- Retirement, with what follows it: an engine STOPPING with an empty window enters STOPPED, and one RUNNING looks at
its pointer again (R75, R86, R88). -/
def State.retireNow (s : State) : State :=
  let s1 := State.retireAll s.engine.window s
  match s1.engine.state with
  | .stopping => if s1.engine.window.isEmpty then s1.enterStopped else s1
  | .running => if s1.engine.window.length < s.engine.window.length then s1.emit .look else s1
  | .stopped | .suspended => s1

/-! ### Stop (R88) -/

/-- Stop asks for the withdrawal of a STARTED DROP's queued entry, and its reservation is dropped (R19, R88). -/
def State.stopRecord (s : State) (r : WindowRecord) : State :=
  match r.isStarted && r.kind == .drop, r.comp with
  | true, some c =>
    match s.withdrawalFinds c with
    | .removed => (s.withdraw c).dropReserved c
    | .inFlight | .none => s
  | _, _ => s

/-- Stop (R74, R88): in RUNNING and SUSPENDED the queued DROP entries are withdrawn, and the engine goes to STOPPING,
and from there to STOPPED when its window empties. -/
def State.engineStop (s : State) : State :=
  match s.engine.state with
  | .running | .suspended => (s.engine.window.foldl State.stopRecord (s.setEngine .stopping)).emit .retire
  | .stopped | .stopping => s

end Sys2Proof.Machine
end

