-- ==== Sys2Proof/Machine/Scanner.lean ====
section
/-! DEFINITION. The door scanner: applying reads (R174 to R180, R182), the sweeps (R172, R173, R184), the reconciliation
that follows the baseline sweep (R194 to R197), and the ends of its timers (R176, R179). -/

namespace Sys2Proof.Machine

/-! ### Samples -/

/-- The door sample of a compartment (R172). -/
def State.doorOpen (s : State) (c : Comp) : Bool := s.sense.doors.getLsbD c.val

/-- The presence sample of a compartment (R172). -/
def State.presence (s : State) (c : Comp) : Presence := if s.sense.occupied.getLsbD c.val then .occupied else .empty

/-- The multiplexer presents these levels from now on (R213, log 3). -/
def State.latch (s : State) (sense : Sense) : State := { s with sense := sense }

/-- A full ajar time (R177, R183). -/
def State.ajarFull (s : State) : Nat := secUnits s.scanner.ajarTime

/-! ### Applying a read (R174) -/

/-- The kind of opening a closure closes (R12). The opening kind of an OPEN door is absent only between its baseline
read and the reconciliation, when no closure is confirmed (R184). -/
def openingKind : Option ReleaseClass → OpeningKind
  | some .service => .service
  | some .custody | none => .custody

/-- A closure is confirmed: the door is SHUT and the CLOSURE event carries this read's presence (R180). -/
def State.confirmClosure (s : State) (c : Comp) (kind : OpeningKind) : State :=
  (s.setDoor c (some .shut)).custodyClosure c (s.presence c) kind

/-- A first read of a compartment newly fitted (R182). -/
def State.fittingRead (s : State) (c : Comp) : State :=
  if !(s.entry c).fitted then s
  else if s.doorOpen c then s.setDoor c (some (.opened (some .service) s.ajarFull none))
  else s.setDoor c (some .shut)

/-- A read's sample is applied to a compartment's door record (R174). -/
def State.applySample (s : State) (c : Comp) : State :=
  match s.door c, s.doorOpen c with
  | none, _ => s.fittingRead c
  | some .shut, false => s
  | some .shut, true => (s.setDoor c (some (.forced none))).custodyForced c
  | some (.released _ _), false => s
  | some (.released cls _), true => (s.setDoor c (some (.opened (some cls) s.ajarFull none))).custodyOpened c cls
  | some (.opened k left none), false => s.setDoor c (some (.opened k left (some (s.presence c))))
  | some (.opened k _ (some _)), false => s.confirmClosure c (openingKind k)
  | some (.opened k left _), true => s.setDoor c (some (.opened k left none))
  | some (.ajar k none), false => s.setDoor c (some (.ajar k (some (s.presence c))))
  | some (.ajar k (some _)), false => s.confirmClosure c (openingKind k)
  | some (.ajar k _), true => s.setDoor c (some (.ajar k none))
  | some (.forced none), false => s.setDoor c (some (.forced (some (s.presence c))))
  | some (.forced (some _)), false => s.confirmClosure c .forced
  | some (.forced _), true => s.setDoor c (some (.forced none))

/-- Keeps a compartment's baseline sample (R184). -/
def State.setBaseline (s : State) (c : Comp) (p : Option BaselineSample) : State :=
  { s with scanner := { s.scanner with baseline := put s.scanner.baseline c p } }

/-- A sample of the baseline sweep sets the door record; no event is reported. An ajar timer runs from this read for a
door found shut too, since R196 may find it OPEN (R184, R196; log 35). -/
def State.baselineSample (s : State) (c : Comp) : State :=
  if !(s.entry c).fitted then s
  else if s.doorOpen c then s.setDoor c (some (.opened none s.ajarFull none))
  else (s.setDoor c (some .shut)).setBaseline c (some { presence := s.presence c, ajar := s.ajarFull })

/-- Sets or clears a column's owed mark (R173). -/
def State.setOwed (s : State) (col : Column) (b : Bool) : State :=
  { s with scanner := { s.scanner with owed := put s.scanner.owed col b } }

/-- A read of a column: all 16 positions, taken at once; its owed mark is cleared (R172, R173). The samples are
applied, and their events reported, in position order (the model's choice, log 44). -/
def State.readColumn (s : State) (col : Column) : State :=
  (List.finRange 16).foldl
    (fun t p =>
      if s.scanner.phase = .baseline then t.baselineSample (Comp.at col p) else t.applySample (Comp.at col p))
    (s.setOwed col false)

/-- The owed read of a column that has left the busy states (R173). -/
def State.owedRead (s : State) (col : Column) : State :=
  if s.scanner.owed.get col && !(s.column col).busy then s.readColumn col else s

/-! ### The reconciliation (R194 to R197) -/

/-- A door found open at the baseline sweep, with the ajar time left of its baseline read; none for one found shut. -/
def foundOpen : Option Door → Option Nat
  | some (.opened _ left _) => some left
  | some (.ajar _ _) | some (.forced _) => some 1
  | some .shut | some (.released _ _) | none => none

/-- The flight record entry of a compartment (R194). -/
def State.flightOf (s : State) (c : Comp) : Option FlightEntry := s.seq.flight.find? fun f => f.comp == c

/-- An INTERRUPTED notice to operations and the origin port, as the holding stood before the change. Its amount is the
sum of the paid lanes of a return, RESERVED or RELEASING, and 0 for a delivery (R194, R195, section 11.4; log 45). -/
def State.noteInterrupted (s before : State) (c : Comp) (d : Detail) : State :=
  match before.holding c with
  | some h => s.postBoth .operations h.originRole ((before.noteFull .interrupted c).withDetail d)
  | none => s

/-- The door record OPEN with opening kind CUSTODY and no pending closure (R184). -/
def openCustody (left : Nat) : Option Door := some (.opened (some .custody) left none)

/-- A release that was in flight (R194). -/
def State.reconcileCut (s : State) (c : Comp) : State :=
  match foundOpen (s.door c) with
  | some left => (s.setDoor c (openCustody left)).custodyOpened c .custody
  | none => (((s.setDoor c (some .shut)).custodyWindowShut c .custody true).noteInterrupted s c .cut)

/-- A reversion: the reservation is removed, or the claim's holding returns to rest (R195). -/
def State.revert (s : State) (c : Comp) : State :=
  match s.custodyState c with
  | .reserved => s.removeHolding c .free none
  | .notFitted | .free | .loading | .held | .overstayed | .returnHeld | .releasing | .emptying | .review
  | .outOfService => s.toRest c

/-- A release that was waiting (R195). -/
def State.reconcileWaiting (s : State) (c : Comp) : State :=
  match foundOpen (s.door c) with
  | some _ => (s.setDoor c (some (.forced none))).custodyForced c
  | none => ((s.setDoor c (some .shut)).revert c).noteInterrupted s c .reverted

/-- The door record of a LOADING or EMPTYING compartment found shut: OPEN, its closure pending with the baseline sample,
its ajar timer running on from the baseline read (R184, R196). -/
def State.openPending (s : State) (c : Comp) : Option Door :=
  match s.scanner.baseline.get c with
  | some b => some (.opened (some .custody) b.ajar (some b.presence))
  | none => some (.opened (some .custody) s.ajarFull none)

/-- Every other fitted compartment (R196). -/
def State.reconcileRest (s : State) (c : Comp) : State :=
  match s.custodyState c, foundOpen (s.door c) with
  | .loading, some left | .emptying, some left => s.setDoor c (openCustody left)
  | .loading, none | .emptying, none => s.setDoor c (s.openPending c)
  | _, some _ => (s.setDoor c (some (.forced none))).custodyForced c
  | _, none => s.setDoor c (some .shut)

/-- A flight record entry whose compartment is neither RESERVED nor RELEASING, by its purpose (R194). -/
def State.reconcileFlown (s : State) (c : Comp) (f : FlightEntry) : State :=
  match f.purpose with
  | .service =>
    match foundOpen (s.door c) with
    | some left => s.setDoor c (openCustody left)
    | none => (s.setDoor c (some .shut)).custodyWindowShut c .service true
  | .test => (s.reconcileRest c).testResult c .interrupted (if f.restore then some .notRestored else none)
  | .deposit | .collect | .recall | .pickup => s.reconcileRest c

/-- The reconciliation of one fitted compartment (R194 to R196). -/
def State.reconcileOne (s : State) (c : Comp) : State :=
  if !(s.entry c).fitted then s
  else
    match s.custodyState c, s.flightOf c with
    | .reserved, some _ | .releasing, some _ => s.reconcileCut c
    | .reserved, none | .releasing, none => s.reconcileWaiting c
    | _, some f => s.reconcileFlown c f
    | _, none => s.reconcileRest c

/-- The reconciliation: every compartment in number order, then the flight record and the baseline samples are cleared
(R184, R194, R197). -/
def State.reconcile (s : State) : State :=
  let t := Comp.all.foldl State.reconcileOne s
  { t with
    seq := { t.seq with flight := [] }
    scanner := { t.scanner with baseline := Vector.replicate 144 none } }

/-! ### Sweeps -/

/-- The notice detail of a kind of start (R197). -/
def StartKind.detail : StartKind → Detail
  | .mainsReturn => .mainsReturn
  | .resetLine => .resetLine
  | .cold => .cold

/-- The part leaves RESTORING, and RESTART_DONE goes to each of the four ports, one without a role too (R197). -/
def State.endRestoring (s : State) : State :=
  { s with
    power := { s.power with restoring := false }
    ports := s.ports.map fun u => u.post ((s.note .restartDone).withDetail (StartKind.detail s.power.lastStart)) }

/-- Changes which sweep it is. -/
def State.setPhase (s : State) (p : SweepPhase) : State := { s with scanner := { s.scanner with phase := p } }

/-- What follows a complete sweep: the reconciliation after the baseline sweep, the end of RESTORING after the second
(R184, R192, R197). -/
def State.sweepComplete (s : State) : State :=
  match s.scanner.phase with
  | .baseline => (s.reconcile).setPhase .second
  | .second => (s.endRestoring).setPhase .normal
  | .normal => s

/-- The sweep's pointer moves on, or rests at column 8 with the sweep complete (R172). -/
def State.advanceSweep (s : State) : State :=
  if h : s.scanner.pointer.val < 8 then
    { s with scanner := { s.scanner with pointer := ⟨s.scanner.pointer.val + 1, by omega⟩, stepLeft := msUnits 1 } }
  else { s with scanner := { s.scanner with sweeping := false, stepLeft := 0 } }

/-- The sweep takes the column at its pointer: it is skipped and owed when busy, and read otherwise (R173). -/
def State.takeColumn (s : State) : State :=
  let col := s.scanner.pointer
  if (s.column col).busy then s.setOwed col true else s.readColumn col

/-- A column step of a sweep in progress (R172, R173, R184). -/
def State.sweepStep (s : State) : State :=
  if !s.scanner.sweeping then s
  else
    let s1 := s.takeColumn
    if s.scanner.pointer.val < 8 then s1.advanceSweep else (s1.advanceSweep).sweepComplete

/-- The sweep timer starts a sweep (R172). -/
def State.sweepBegin (s : State) : State :=
  { s with scanner := { s.scanner with pointer := 0, sweeping := true, sweepLeft := msUnits 250, stepLeft := 0 } }

/-! ### Timer ends -/

/-- The open window of a RELEASED door ends (R176). -/
def State.windowEnds (s : State) (c : Comp) : State :=
  match s.door c with
  | some (.released cls _) => (s.setDoor c (some .shut)).custodyWindowShut c cls false
  | some .shut | some (.opened _ _ _) | some (.ajar _ _) | some (.forced _) | none => s

/-- The notice detail of an opening kind (R179). -/
def ReleaseClass.detail : ReleaseClass → Detail
  | .custody => .custody
  | .service => .service

/-- The ajar timer of an OPEN door ends: it becomes AJAR and an AJAR notice goes to operations (R179). -/
def State.ajarEnds (s : State) (c : Comp) : State :=
  match s.door c with
  | some (.opened k _ closing) =>
    (s.setDoor c (some (.ajar k closing))).post .operations
      { s.noteCode .ajar c with detail := k.map fun x => .word (ReleaseClass.detail x) }
  | some .shut | some (.released _ _) | some (.ajar _ _) | some (.forced _) | none => s

end Sys2Proof.Machine
end

