-- ==== Sys2Proof/Machine/Settle.lean ====
section
/-! DEFINITION. How a step ends: the consequences its command has noted are worked out one after another, each before
what it stands ahead of (log 10), and then the arbiter looks for its choices (R155, log 9). -/

namespace Sys2Proof.Machine

/-- The paid return list offers its oldest record's release; a release that is taken leaves the list (R46). A record
whose reservation is gone has left the list already (R46). -/
def State.offerPaid (s : State) : State :=
  match s.paidReturns with
  | [] => s
  | n :: rest =>
    match s.waitingReturn n with
    | none => s
    | some c =>
      match s.requestAnswer c with
      | .taken => ({ s with paidReturns := rest }).request (returnEntry c)
      | .duplicate | .qfull => s

/-- The pending entry of a compartment keeps its place (R163). -/
def State.pendingWaits (s : State) (c : Comp) : Bool :=
  s.hasEntry c ||
    match s.custodyState c with
    | .reserved | .loading => true
    | .releasing | .emptying => (s.holding c).any fun h => h.claimant != some .service
    | .notFitted | .free | .held | .overstayed | .returnHeld | .review | .outOfService => false

/-- A pending service entry as it is taken into the queue (R162, R163). -/
def serviceEntry (c : Comp) : Entry := Entry.fresh c .service .service .operations

/-- One pass over the pending service set, oldest first (R163). The departure of an entry that fails is told after the
whole pass (R147, R160, R163; the model's choice, log 30). -/
def State.movePass : List Comp → State → State
  | [], s => s
  | c :: rest, s =>
    if s.seq.queue.length ≥ Config.queueCap then s
    else if s.column c.column = .disabled then
      State.movePass rest
        ((s.setPending (s.seq.pendingService.filter (· != c))).failEntry (serviceEntry c) .columnDown)
    else if s.pendingWaits c then State.movePass rest s
    else
      State.movePass rest ((s.setPending (s.seq.pendingService.filter (· != c))).request (serviceEntry c))

/-- Pending service entries are moved into the queue while SVC_KEY is on (R163). -/
def State.movePending (s : State) : State := if s.seq.svcKey then State.movePass s.seq.pendingService s else s

/-- The three parties told of a departure (R147). -/
inductive Asker where | engine | paid | service
  deriving DecidableEq, Repr

/-- What each party does when it is told: the engine feeds and looks, the paid return list offers, the pending service
set moves (R46, R75, R84, R163). -/
def Asker.signals : Asker → List Signal
  | .engine => [.feed, .look]
  | .paid => [.offerPaid]
  | .service => [.movePending]

/-- The party would ask for the freed entry. -/
def State.wants (s : State) : Asker → Bool
  | .engine =>
    s.feedable.isSome || (s.engine.state == .running && s.engineOwns s.engine.pointer)
  | .paid => !s.paidReturns.isEmpty
  | .service => s.seq.svcKey && !s.seq.pendingService.isEmpty

/-- The six orders in which three parties can ask. -/
def askOrders : Fin 6 → List Asker
  | 0 => [.engine, .paid, .service]
  | 1 => [.engine, .service, .paid]
  | 2 => [.paid, .engine, .service]
  | 3 => [.paid, .service, .engine]
  | 4 => [.service, .engine, .paid]
  | 5 => [.service, .paid, .engine]

/-- More than one party would ask for the freed entry (R84, R146, R163). -/
def State.contested (s : State) : Bool :=
  decide (2 ≤ ([Asker.engine, Asker.paid, Asker.service].filter s.wants).length)

/-- A departure is told to the three parties. Where more than one of them would ask, their order is a free value
(R84, R146, R163; log 8). -/
def State.tellDeparture (s : State) : State :=
  if s.contested then
    { s with signals := s.signals ++ (askOrders (Config.askOrder s.asks)).flatMap Asker.signals, asks := s.asks + 1 }
  else { s with signals := s.signals ++ (askOrders 0).flatMap Asker.signals }

/-- Works one consequence. -/
def State.work (s : State) : Signal → State
  | .departed => s.tellDeparture
  | .feed => s.feedOne
  | .look => s.lookNow
  | .retire => s.retireNow
  | .offerPaid => s.offerPaid
  | .movePending => s.movePending
  | .owedRead c => s.owedRead c
  | .columnActs c => s.columnAfterPulse c

/-- Works the consequences of a step, the newest first; what is left when the fuel ends is dropped, which no state the
part can reach meets (log 10). -/
def State.settle : Nat → State → State
  | 0, s => { s with signals := [] }
  | fuel + 1, s =>
    match s.signals with
    | [] => s
    | g :: rest =>
      let t := State.work { s with signals := [] } g
      State.settle fuel { t with signals := t.signals ++ rest }

/-- The fuel of a step's consequences. -/
def settleFuel : Nat := 65536

/-- A command begins with no consequence waiting. -/
def State.begin (s : State) : State := { s with signals := [], arbiterDue := false }

/-- The arbiter looks once, when the step has made a change that can make an entry eligible (R155, log 9). -/
def State.arbiterLooks (s : State) : State := if s.arbiterDue then State.arbitrate 3 s else s

/-- The end of a step: its consequences, then the arbiter's choices. The arbiter's takings change columns, so their
marks are cleared with the rest. -/
def State.complete (s : State) : State := ((State.settle settleFuel s).arbiterLooks).begin

end Sys2Proof.Machine
end

