-- ==== Sys2Proof/Machine/Ports.lean ====
section
/-! DEFINITION. The port units: the checks of a complete frame (R202), the busy mark (R203), building a response (R204),
and the common checks of requests (R31, R193). -/

namespace Sys2Proof.Machine

/-- A port unit. -/
def State.port (s : State) (p : Fin 4) : PortUnit := s.ports.get p

/-- Replaces a port unit. -/
def State.putPort (s : State) (p : Fin 4) (u : PortUnit) : State := { s with ports := put s.ports p u }

/-- The answer a block gives to a request: result, reason, result fields, and the overflow mark to report where it is
not the one that stands when the response is built (R206). -/
structure Answer where
  result : Result
  reason : Option Reason
  fields : List Field
  mark : Option Bool
  deriving DecidableEq, Repr

/-- The request's change has been made (R204). -/
def done (fields : List Field) : Answer := { result := .done, reason := none, fields := fields, mark := none }

/-- The request has been taken and its work goes on (R204). -/
def accepted (fields : List Field) : Answer := { result := .accepted, reason := none, fields := fields, mark := none }

/-- A refusal with the fields that the refusing rule names (R204). -/
def refuseWith (r : Reason) (fields : List Field) : Answer :=
  { result := .refused, reason := some r, fields := fields, mark := none }

/-- A refusal. -/
def refuse (r : Reason) : Answer := refuseWith r []

/-- The response to a frame, with the notice count and overflow mark as they stand when it is built (R204). -/
def PortUnit.response (u : PortUnit) (h : Head) (code : Byte) (a : Answer) : Response :=
  { seq := h.seq, code := code, result := a.result, reason := a.reason, notices := u.queue.length,
    overflow := a.mark.getD u.overflow, fields := a.fields }

/-- The port unit sends a response behind those it has (R203). -/
def PortUnit.send (u : PortUnit) (h : Head) (code : Byte) (a : Answer) (clears refusal : Bool) : PortUnit :=
  { u with sending := u.sending ++
      [{ response := u.response h code a, clearsBusy := clears, busyRefusal := refusal }] }

/-- A BUSY refusal is waiting to be sent behind the response in transmission (R203). -/
def PortUnit.busyWaits (u : PortUnit) : Bool := u.sending.tail.any (·.busyRefusal)

/-- A complete frame meets a busy port: one BUSY refusal may wait; a further frame is discarded (R203). The refusal is
built here, so its notice count and overflow mark are those at the completion of the refused frame (R203, R204; the
model's choice, log 53). -/
def PortUnit.refuseBusy (u : PortUnit) (h : Head) (code : Byte) : PortUnit :=
  if u.busyWaits then u else u.send h code (refuse .busy) false true

/-- Applies a change to one port unit. -/
def State.onPort (s : State) (p : Fin 4) (f : PortUnit → PortUnit) : State := s.putPort p (f (s.port p))

/-- A frame has completed: the unit's receive buffer is empty again (R201). -/
def State.frameTaken (s : State) (p : Fin 4) : State := s.onPort p fun u => { u with receiving := [] }

/-- A refusal at one of the checks of R202: it reaches no block and sets no busy mark (R202, R203). -/
def State.refuseFrame (s : State) (h : Head) (code : Byte) (r : Reason) : State :=
  s.onPort h.port fun u => u.send h code (refuse r) false false

/-- The result fields of an answer that is no refusal, with those that are read after the step is complete. A refusal
carries none of them: the engine state of R71 stands in the answers DONE alone (R71, R204; the model's choice, log
49). -/
def Answer.withLate (a : Answer) (fields : List Field) : Answer :=
  match a.result with
  | .done | .accepted => { a with fields := a.fields ++ fields }
  | .refused => a

/-- The response of a request that its block has taken: the busy mark is set until it has been sent (R203). -/
def State.respond (s : State) (h : Head) (code : Byte) (a : Answer) : State :=
  s.onPort h.port fun u => { u.send h code a true false with busy := true }

/-- A request that its block takes: its change, the consequences of the step, and the response built after them (R203,
R204). `late` are the result fields read at the end of the step. -/
def State.takeRequest (s : State) (h : Head) (code : Byte) (late : State → List Field)
    (body : State → State × Answer) : State :=
  let r := body s
  let t := r.1.complete
  t.respond h code (r.2.withLate (late t))

/-- A complete frame of a request, through the checks of R202 in their order: BUSY, ROLE, FORMAT. While the mains domain
is stopped no frame completes. -/
def State.serveLate (s : State) (h : Head) (code : Byte) (carried : Role → Bool) (length : Nat)
    (late : State → List Field) (body : State → State × Answer) : State :=
  if !s.power.running then s
  else
    let s0 := (s.begin).frameTaken h.port
    if (s0.port h.port).busy then s0.onPort h.port fun u => u.refuseBusy h code
    else if !((s0.port h.port).role.any carried) then s0.refuseFrame h code .role
    else if h.len ≠ length then s0.refuseFrame h code .format
    else s0.takeRequest h code late body

/-- A complete frame of a request whose result fields are known when its block takes it. -/
def State.serve (s : State) (h : Head) (code : Byte) (carried : Role → Bool) (length : Nat)
    (body : State → State × Answer) : State :=
  s.serveLate h code carried length (fun _ => []) body

/-- A request of one role. -/
def only (r : Role) : Role → Bool := fun x => x == r

/-- A request that every role carries. -/
def everyRole : Role → Bool := fun _ => true

/-- A refusal changes nothing. -/
def State.refuses (s : State) (r : Reason) : State × Answer := (s, refuse r)

/-- While the part is in RESTORING a request is refused NOT_READY (R31, R193). -/
def State.unlessRestoring (s : State) (body : State × Answer) : State × Answer :=
  if s.power.restoring then s.refuses .notReady else body

/-- While no compartment is fitted a request is refused UNCOMMISSIONED (R30, R31). -/
def State.unlessUncommissioned (s : State) (body : State × Answer) : State × Answer :=
  if s.anyFitted then body else s.refuses .uncommissioned

/-- The two common checks of custody requests, in their order (R31, R162, log 15). -/
def State.guarded (s : State) (body : State × Answer) : State × Answer :=
  s.unlessRestoring (s.unlessUncommissioned body)

/-- A refusal that holds back a request when a check fails. -/
def State.check (s : State) (ok : Bool) (r : Reason) (body : State × Answer) : State × Answer :=
  if ok then body else s.refuses r

/-- The step of an event: nothing happens while the mains domain is stopped. -/
def State.event (s : State) (change : State → State) : State :=
  if s.power.running then (change s.begin).complete else s

/-- The last byte of the response in transmission has been sent: the next one begins, and the busy mark is cleared when
the response was that of the frame that set it (R203). -/
def PortUnit.sent (u : PortUnit) : PortUnit :=
  match u.sending with
  | [] => u
  | x :: rest => { u with sending := rest, busy := u.busy && !x.clearsBusy }

/-- What a Port Reset does to its own port: the response being sent goes on to its end, those not begun are discarded,
and the busy mark, the notice queue and the overflow mark are cleared (R207; log 16). -/
def PortUnit.reset (u : PortUnit) : PortUnit :=
  { u with sending := (u.sending.take 1).map fun x => { x with clearsBusy := false }
           busy := false, queue := [], overflow := false }

end Sys2Proof.Machine
end

