-- ==== Sys2Proof/Machine/PortCommands.lean ====
section
/-! DEFINITION. The commands of the port units: Read Notice, Port Reset, unknown codes, discarded frames, and the end of
a response (R201 to R207). -/

namespace Sys2Proof.Machine

/-- What Read Notice does to the queue, and its answer (R206). -/
def State.readNotice (s : State) (p : Fin 4) : State × Answer :=
  match (s.port p).queue with
  | [] =>
    (s.onPort p fun u => { u with overflow := false }, { done [] with mark := some (s.port p).overflow })
  | n :: rest => (s.onPort p fun u => { u with queue := rest }, done [.notice n])

/-- READ_NOTICE (R206). -/
def execReadNotice (h : Head) (s : State) : Host.Outcome State Fault Refusal :=
  .next (s.serve h 0x01#8 everyRole 0 fun t => t.readNotice h.port)

/-- Voids a charge; a return's reservation that waits on it is dropped (R45, R127, R130, R142). -/
def State.voidCharge (s : State) (i : ChargeSlot) (cause : EndCause) : State × Option Comp :=
  let s1 := s.endCharge i .void (some cause) none
  match (s.charge i).record.bind s.waitingReturn with
  | some c => (s1.dropReserved c, some c)
  | none => (s1, none)

/-- The console's Port Reset voids every OPEN charge in slot order; gives the number voided and the compartments dropped
(R142, R207). -/
def State.voidAll : List ChargeSlot → State → State × Nat × List Comp
  | [], s => (s, 0, [])
  | i :: rest, s =>
    if (s.charge i).state = .opened then
      let v := s.voidCharge i .portReset
      let r := State.voidAll rest v.1
      (r.1, r.2.1 + 1, v.2.toList ++ r.2.2)
    else State.voidAll rest s

/-- What a Port Reset does by the role of its port, and the result fields (R207). -/
def State.resetRole (s : State) (r : Option Role) : State × List Field :=
  match r with
  | some .console =>
    let v := State.voidAll (List.finRange 8) s
    (v.1, [.u8 v.2.1, .comps v.2.2])
  | some .courier => (s.engineStop, [])
  | some .payment | some .operations | none => (s, [])

/-- A Port Reset frame: taken even while the port is busy (R202), with the other checks of R202. -/
def State.portReset (s : State) (h : Head) (sense : Sense) : State :=
  if !s.power.running then s
  else
    let s0 := (s.begin).frameTaken h.port
    if (s0.port h.port).role.isNone then s0.refuseFrame h 0x02#8 .role
    else if h.len ≠ 0 then s0.refuseFrame h 0x02#8 .format
    else
      let r := (((s0.latch sense).onPort h.port PortUnit.reset)).resetRole (s0.port h.port).role
      (r.1.complete).onPort h.port fun u => u.send h 0x02#8 (done r.2) false false

/-- PORT_RESET (R207). -/
def execPortReset (h : Head) (sense : Sense) (s : State) : Host.Outcome State Fault Refusal :=
  .next (s.portReset h sense)

/-- UNKNOWN_REQUEST_CODE: refused ROLE on every port (R202). -/
def execUnknownRequestCode (h : Head) (code : Byte) (s : State) : Host.Outcome State Fault Refusal :=
  .next (s.serve h code (fun _ => false) 0 fun t => t.refuses .role)

/-- The unit returns to hunting; nothing else changes (R201). -/
def State.discardFrame (s : State) (p : Fin 4) : State := if s.power.running then s.frameTaken p else s

/-- FRAME_DISCARDED (R201). -/
def execFrameDiscarded (p : Fin 4) (s : State) : Host.Outcome State Fault Refusal := .next (s.discardFrame p)

/-- FRAME_GAP_TIMEOUT (R201). -/
def execFrameGapTimeout (p : Fin 4) (s : State) : Host.Outcome State Fault Refusal := .next (s.discardFrame p)

/-- RESPONSE_SENT (R203). -/
def execResponseSent (p : Fin 4) (s : State) : Host.Outcome State Fault Refusal :=
  .next (if s.power.running then s.onPort p PortUnit.sent else s)

end Sys2Proof.Machine
end

