-- ==== Sys2Proof/Machine/ConsoleCommands.lean ====
section
/-! DEFINITION. The console's commands: Lookup, Quote, Void Quote, Collect, Return Begin, Return Cancel, Release Charge
(chapters 2 and 7), and the attempt limiter (R32 to R35). -/

namespace Sys2Proof.Machine

/-! ### Codes and the attempt limiter -/

/-- A wrong attempt: the count rises, and at 5 the lockout timer starts at 300 s (R34). -/
def State.wrongAttempt (s : State) : State :=
  let n := s.limiter.count + 1
  { s with limiter := { count := n, lockout := if n ≥ 5 then some (secUnits 300) else s.limiter.lockout } }

/-- A known code resets the count (R35). -/
def State.knownAttempt (s : State) : State := { s with limiter := { s.limiter with count := 0 } }

/-- The consignment a code leads to, with its record number (R10). -/
def State.codeRecord (s : State) (code : Nat) : Option (RecordNo × Consignment) :=
  (s.findCode code).bind fun n => (s.record n).map fun k => (n, k)

/-- The checks of a code: FORMAT, LOCKED, UNKNOWN (R32); then the request's own (R38, R129). -/
def State.withCode (s : State) (code : Text) (body : State → RecordNo → Consignment → State × Answer) :
    State × Answer :=
  match parseCode code with
  | none => s.refuses .format
  | some n =>
    match s.limiter.lockout with
    | some left => (s, refuseWith .locked [.u16 (secondsUp left)])
    | none =>
      match s.codeRecord n with
      | none => (s.wrongAttempt, refuse .unknown)
      | some (r, k) => body s.knownAttempt r k

/-! ### Lookup (R36, R37) -/

/-- A piece as the summary gives it (R37). -/
def State.summaryPiece (s : State) (c : Comp) : Option SummaryPiece :=
  (s.holding c).map fun h =>
    { comp := c, size := h.size, state := s.custodyState c, depositMinute := h.depositMinute,
      collectIncomplete := h.collectIncomplete, releaseInterrupted := h.releaseInterrupted }

/-- The consignment summary (R37). -/
def State.summary (s : State) (n : RecordNo) (k : Consignment) (ev : Evaluation) : Summary :=
  { record := n, carrierId := (s.carriers.get k.carrier).id, collectable := s.collectable k,
    pieces := k.pieces.filterMap s.summaryPiece, laneO := ev.laneO, laneK := ev.laneK, paidO := k.paidO,
    paidK := k.paidK, dueO := ev.dueO, dueK := ev.dueK, total := ev.total, waived := k.waived,
    paidThrough := k.paidThrough, openRef := s.openCharge k, minute := s.clock.minute, raised := ev.raised,
    unmasked := s.unmaskedOf ev.raised }

/-- Lookup on a known code (R36). -/
def State.lookupKnown (s : State) (n : RecordNo) (k : Consignment) : State × Answer :=
  let ev := s.evaluate k
  (s.addSticky ev.raised, done [.summary (s.summary n k ev)])

/-- LOOKUP (R36). -/
def execLookup (h : Head) (code : Text) (s : State) : Host.Outcome State Fault Refusal :=
  .next (s.serve h 0x10#8 (only .console) 8 fun t => t.guarded (t.withCode code State.lookupKnown))

/-! ### Quote (R129) -/

/-- The refusal REVIEW of an evaluation that raised an unmasked condition, with its consequences (R40, R119). -/
def State.stopForConditions (s : State) (k : Consignment) (ev : Evaluation) (by_ : Detail) : State × Answer :=
  let u := s.unmaskedOf ev.raised
  (s.feeCondition k (s.conditionComp k ev) u by_, refuseWith .review [.conds u])

/-- Opens the charge of an accepted Quote and answers with it (R129). -/
def State.quoteOpens (s : State) (n : RecordNo) (k : Consignment) (ev : Evaluation) : State × Answer :=
  let s1 := s.voidOpen k .requote
  match s1.slotToTake with
  | none => s.refuses .qfull
  | some i =>
    let s2 := s1.openIn i n ev.dueO ev.dueK
    (s2, accepted [.u8 i.val, .u8 (s2.charges.gens.get i), .u32 ev.dueO, .u32 ev.dueK, .u32 ev.total,
      .u32 s.clock.minute, .conds ev.raised])

/-- Quote on a known code, steps 1 to 5 (R129). -/
def State.quoteKnown (s : State) (n : RecordNo) (k : Consignment) : State × Answer :=
  s.check (s.collectable k) .notReady <|
  s.check (!(s.openChargeIs k .presented)) .paying <|
    let ev := s.evaluate k
    let s1 := s.addSticky ev.raised
    if (s1.unmaskedOf ev.raised).any then s1.stopForConditions k ev .quote
    else s1.check (ev.total != 0) .nothingDue (s1.quoteOpens n k ev)

/-- QUOTE (R129). -/
def execQuote (h : Head) (code : Text) (s : State) : Host.Outcome State Fault Refusal :=
  .next (s.serve h 0x11#8 (only .console) 8 fun t => t.guarded (t.withCode code State.quoteKnown))

/-! ### Charge references (R126) -/

/-- A charge reference a request carries: FORMAT when its slot is above 7, UNKNOWN when it is stale (R126). -/
def State.withCharge (s : State) (slot gen : Nat) (body : ChargeSlot → ChargeRecord → State × Answer) :
    State × Answer :=
  match chargeSlotOf slot with
  | none => s.refuses .format
  | some i =>
    match s.chargeNamed i gen with
    | none => s.refuses .unknown
    | some r => body i r

/-- A refusal LATE with the state of the charge (R130, R132). -/
def State.refuseLate (s : State) (st : ChargeState) : State × Answer := (s, refuseWith .late [.u8 st.ctorIdx])

/-- Void Quote on a named charge, by its state (R130). The compartment and the mark DROPPED stand in the answer where a
reservation was dropped, and no bytes of them where none was (R130, R204; the model's choice, log 52). -/
def State.voidNamed (s : State) (i : ChargeSlot) (r : ChargeRecord) : State × Answer :=
  match r.state with
  | .opened =>
    let v := s.voidCharge i .voidQuote
    (v.1, done (match v.2 with
      | some c => [.u8 c.val, .mark true]
      | none => []))
  | .presented => s.refuses .paying
  | .void => (s, done [])
  | .paid | .declined | .expired | .free => s.refuseLate r.state

/-- VOID_QUOTE (R130). -/
def execVoidQuote (h : Head) (slot gen : Nat) (s : State) : Host.Outcome State Fault Refusal :=
  .next (s.serve h 0x12#8 (only .console) 2 fun t => t.guarded (t.withCharge slot gen t.voidNamed))

/-- Release Charge on a named charge, by its state (R131). -/
def State.releaseNamed (s : State) (i : ChargeSlot) (r : ChargeRecord) : State × Answer :=
  if r.state.isEnded then (s.freeSlot i, done []) else s.refuses .paying

/-- RELEASE_CHARGE (R131). -/
def execReleaseCharge (h : Head) (slot gen : Nat) (s : State) : Host.Outcome State Fault Refusal :=
  .next (s.serve h 0x16#8 (only .console) 2 fun t => t.withCharge slot gen t.releaseNamed)

/-! ### Collect (R38 to R41) -/

/-- The reason of the first piece that fails the claim test of a Collect, in list order (R22). -/
def State.firstClaimRefusal (s : State) (pieces : List Comp) : Option Reason :=
  (pieces.find? fun c => !(ClaimKind.admits .collect (s.custodyState c))).map fun c =>
    (claimRefusal (s.custodyState c)).getD .notReady

/-- The release a Collect asks for one piece (R41). -/
def collectEntry (c : Comp) : Entry := Entry.fresh c .custody .collect .console

/-- An accepted Collect: every piece is claimed, one release is asked for each in list order, and an OPEN charge is
voided (R22, R41). -/
def State.collectAccepted (s : State) (n : RecordNo) (k : Consignment) : State × Answer :=
  let s1 := k.pieces.foldl (fun t c => t.claim c .customer) s
  let s2 := k.pieces.foldl (fun t c => t.request (collectEntry c)) (s1.voidOpen k .collect)
  (s2, accepted [.u8 n.val, .comps k.pieces])

/-- Steps 5 to 7 of a Collect (R38). -/
def State.collectClaims (s : State) (n : RecordNo) (k : Consignment) : State × Answer :=
  match s.firstClaimRefusal k.pieces with
  | some r => s.refuses r
  | none =>
    s.check (!(k.pieces.any s.hasEntry)) .occupied <|
    s.check (decide (k.pieces.length ≤ s.queueFree)) .qfull <|
    s.collectAccepted n k

/-- Collect on a known code, steps 1 to 7 (R38, R40). -/
def State.collectKnown (s : State) (n : RecordNo) (k : Consignment) : State × Answer :=
  s.check (s.collectable k) .notReady <|
  s.check (!(s.openChargeIs k .presented)) .paying <|
    let ev := s.evaluate k
    let s1 := s.addSticky ev.raised
    if (s1.unmaskedOf ev.raised).any then s1.stopForConditions k ev .collect
    else if ev.total ≠ 0 then (s1, refuseWith .due [.u32 ev.dueO, .u32 ev.dueK, .u32 ev.total])
    else s1.collectClaims n k

/-- COLLECT (R38). -/
def execCollect (h : Head) (code : Text) (s : State) : Host.Outcome State Fault Refusal :=
  .next (s.serve h 0x13#8 (only .console) 8 fun t => t.guarded (t.withCode code State.collectKnown))

/-! ### Return Begin (R43 to R45) -/

/-- An accepted Return Begin: the drop is committed, and its release queued or its charge opened (R44, R45). -/
def State.returnAccepted (s : State) (i : Fin 8) (c : Comp) (size : SizeClass) (ref : Option Text) (n : RecordNo) :
    State × Answer :=
  let lanes := s.returnFee i size
  let fields := [Field.u8 c.val, .u8 n.val, .u32 lanes.1, .u32 lanes.2]
  let s1 := s.commitReturn n i c size ref
  if lanes.1 + lanes.2 = 0 then (s1.request (returnEntry c), accepted (fields ++ [.optRef none]))
  else
    match s1.slotToTake with
    | none => s.refuses .qfull
    | some j =>
      let s2 := s1.openIn j n lanes.1 lanes.2
      (s2, accepted (fields ++ [.optRef (some (s2.refOf j))]))

/-- Step 7 of a Return Begin: room for the release, or for the charge (R43). -/
def State.returnRoom (s : State) (i : Fin 8) (size : SizeClass) : Bool :=
  let lanes := s.returnFee i size
  if lanes.1 + lanes.2 = 0 then decide (0 < s.queueFree) else s.slotToTake.isSome

/-- Steps 3 to 7 of a Return Begin for a matched carrier (R43). There is always a free record (R9, log 29). -/
def State.returnMatched (s : State) (i : Fin 8) (size : SizeClass) (ref : Option Text) : State × Answer :=
  let e := s.carriers.get i
  s.check e.rights.acceptReturns .unknown <|
  s.check (sizeAt e.sizes size) .noSpace <|
  s.check (s.quotaAdmits i 1) .quota <|
    match s.placeOne .returnDrop size [], s.freeRecord with
    | some c, some n => s.check (s.returnRoom i size) .qfull (s.returnAccepted i c size ref n)
    | none, _ | some _, none => s.refuses .noSpace

/-- Return Begin after the common checks, steps 1 to 7 (R43). -/
def State.returnBegin (s : State) (carrierId : Nat) (size : Option SizeClass) (ref : Text) : State × Answer :=
  match size with
  | none => s.refuses .format
  | some z =>
    s.check (parcelOk ref) .format <|
    match s.matchCarrier carrierId with
    | .found i => s.returnMatched i z (parcelOf ref)
    | .notPermitted | .unknown => s.refuses .unknown

/-- RETURN_BEGIN (R43). -/
def execReturnBegin (h : Head) (carrierId : Nat) (size : Option SizeClass) (ref : Text) (s : State) :
    Host.Outcome State Fault Refusal :=
  .next (s.serve h 0x14#8 (only .console) 26 fun t => t.guarded (t.returnBegin carrierId size ref))

/-! ### Return Cancel (R48) -/

/-- A return whose charge is PRESENTED or PAID (R48). -/
def State.returnPaying (s : State) (k : Consignment) : Bool :=
  s.openChargeIs k .presented || k.paidO != 0 || k.paidK != 0

/-- A Return Cancel that passes: the entry is withdrawn, the OPEN charge voided, the reservation dropped (R48). -/
def State.returnCancelled (s : State) (k : Consignment) (c : Comp) : State × Answer :=
  ((((s.withdraw c).voidOpen k .returnCancel).dropReserved c), done [])

/-- Return Cancel on a return consignment: its checks in order (R48). -/
def State.returnCancelOf (s : State) (k : Consignment) : State × Answer :=
  match k.pieces.head? with
  | none => s.refuses .notReady
  | some c =>
    s.check (s.custodyState c == .reserved) .notReady <|
    s.check (!(s.entryInFlight c)) .occupied <|
    s.check (!(s.returnPaying k)) .paying <|
    s.returnCancelled k c

/-- Return Cancel after the common checks (R48). -/
def State.returnCancel (s : State) (record : Nat) : State × Answer :=
  match recordOf record with
  | none => s.refuses .format
  | some n =>
    match s.record n with
    | none => s.refuses .unknown
    | some k =>
      match k.kind with
      | .delivery => s.refuses .unknown
      | .returnDrop => s.returnCancelOf k

/-- RETURN_CANCEL (R48). -/
def execReturnCancel (h : Head) (record : Nat) (sense : Sense) (s : State) : Host.Outcome State Fault Refusal :=
  .next (s.serve h 0x15#8 (only .console) 1 fun t => (t.latch sense).guarded ((t.latch sense).returnCancel record))

end Sys2Proof.Machine
end

