-- ==== Sys2Proof/Machine/CourierCommands.lean ====
section
/-! DEFINITION. The courier's commands: Slot Write, Slot Read, Hand Over, Start, Resume, Stop (chapter 4). Each answer
DONE carries the engine state after the request (R71, R91). -/

namespace Sys2Proof.Machine

/-- The engine state, as the courier's responses carry it (R71). -/
def State.engineField (s : State) : List Field := [.u8 s.engine.state.ctorIdx]

/-- A courier request (R91). A refusal carries no engine state (R71, R204; the model's choice, log 49). -/
def State.serveCourier (s : State) (h : Head) (code : Byte) (length : Nat) (body : State → State × Answer) : State :=
  s.serveLate h code (only .courier) length State.engineField body

/-- A ring slot a request names: FORMAT above 31 (R68, R69, R72). -/
def State.withSlot (s : State) (slot : Nat) (body : RingSlot → State × Answer) : State × Answer :=
  match ringSlotOf slot with
  | none => s.refuses .format
  | some i => body i

/-- The supplied code a slot can hold: absent, or 8 decimal digits (R68). -/
def suppliedCode : Option Text → Option (Option Nat)
  | none => some none
  | some t => (parseCode t).map some

/-- The descriptor that Slot Write's fields give, when a slot field can hold each of them (R68). -/
def SlotFields.descriptor (f : SlotFields) : Option Descriptor :=
  match f.kind, f.size, suppliedCode f.code with
  | some kind, some size, some code =>
    if parcelOk f.parcelRef then
      some { kind := kind, first := f.first, last := f.last, notify := f.notify, carrierId := f.carrierId,
             parcelRef := parcelOf f.parcelRef, size := size, cod := f.cod, code := code }
    else none
  | _, _, _ => none

/-- Slot Write on a slot (R68). -/
def State.slotWrite (s : State) (i : RingSlot) (f : SlotFields) : State × Answer :=
  match SlotFields.descriptor f with
  | none => s.refuses .format
  | some d =>
    s.check (!(s.engineOwns i)) .owned
      (s.putSlot i { owner := .courier, desc := d, back := WriteBack.blank }, done [])

/-- SLOT_WRITE (R68). -/
def execSlotWrite (h : Head) (slot : Nat) (fields : SlotFields) (s : State) : Host.Outcome State Fault Refusal :=
  .next (s.serveCourier h 0x20#8 43 fun t => t.withSlot slot fun i => t.slotWrite i fields)

/-- The progress of a record of the window (R69). -/
def WindowRecord.progress (r : WindowRecord) : Progress :=
  match r.outcome with
  | some st => .complete st
  | none => .started r.comp r.code r.claimed r.waiting.length

/-- The progress Slot Read gives for a slot (R69). -/
def State.progressOf (s : State) (i : RingSlot) : Progress :=
  if s.engineOwns i then
    match s.engine.window.find? fun r => r.slot == i with
    | some r => r.progress
    | none => .handed
  else .none

/-- SLOT_READ (R69). -/
def execSlotRead (h : Head) (slot : Nat) (s : State) : Host.Outcome State Fault Refusal :=
  .next (s.serveCourier h 0x21#8 1 fun t => t.withSlot slot fun i => (t, done [.slot i (t.slot i) (t.progressOf i)]))

/-- A slot is handed to the engine (R70). -/
def State.handSlot (s : State) (i : RingSlot) : State := s.putSlot i { s.slot i with owner := .engine }

/-- Hand Over of a run of slots; an engine that waits at one of them looks again (R70, R75). -/
def State.handOver (s : State) (i : RingSlot) (count : Nat) : State × Answer :=
  s.check (decide (1 ≤ count ∧ count ≤ 32)) .format <|
  s.check (!((slotRun i count).any s.engineOwns)) .owned
    (((slotRun i count).foldl State.handSlot s).emit .look, done [])

/-- HAND_OVER (R70). -/
def execHandOver (h : Head) (first count : Nat) (s : State) : Host.Outcome State Fault Refusal :=
  .next (s.serveCourier h 0x22#8 2 fun t => t.withSlot first fun i => t.handOver i count)

/-- Start, after the checks of its slot (R72). -/
def State.engineStart (s : State) (i : RingSlot) : State × Answer :=
  s.guarded <|
  s.check (s.engine.state == .stopped) .notReady
    (((s.setPointer i).setEngine .running).emit .look, done [])

/-- START (R72). -/
def execStart (h : Head) (slot : Nat) (s : State) : Host.Outcome State Fault Refusal :=
  .next (s.serveCourier h 0x23#8 1 fun t => t.withSlot slot t.engineStart)

/-- Resume (R73). -/
def State.engineResume (s : State) : State × Answer :=
  s.unlessRestoring <|
  match s.engine.state with
  | .suspended => ((s.setEngine .running).emit .look, done [])
  | .running => (s, done [])
  | .stopped | .stopping => s.refuses .notReady

/-- RESUME (R73). -/
def execResume (h : Head) (s : State) : Host.Outcome State Fault Refusal :=
  .next (s.serveCourier h 0x24#8 0 State.engineResume)

/-- STOP (R74, R88). -/
def execStop (h : Head) (sense : Sense) (s : State) : Host.Outcome State Fault Refusal :=
  .next (s.serveCourier h 0x25#8 0 fun t => ((t.latch sense).engineStop, done []))

end Sys2Proof.Machine
end

