-- ==== Sys2Proof/Machine/Power.lean ====
section
/-! DEFINITION. Starting and stopping the mains domain (R190 to R192, R198, R200), and the custody clock's tick (R189). -/

namespace Sys2Proof.Machine

/-- The role a port takes from the straps: of ports strapped to one role, the lowest-numbered takes it and the others
take none (R200). -/
def sampledRole (straps : Straps) (p : Fin 4) : Option Role :=
  if (List.finRange 4).any fun q => decide (q < p) && (straps.get q).role == (straps.get p).role then none
  else some (straps.get p).role

/-- The port units as a start leaves them (R200, R205). -/
def sampledPorts (straps : Straps) : Vector PortUnit 4 :=
  Vector.ofFn fun p => PortUnit.started (sampledRole straps p) (straps.get p).rate

/-- Every mains-domain block takes its value after a start (section 10.6). -/
def State.mainsCleared (s : State) (ports : Vector PortUnit 4) : State :=
  { s with
    charges := ChargeTable.started s.charges.gens
    seq := Sequencer.started s.seq.flight
    scanner := Scanner.started
    engine := Engine.started
    ports := ports
    limiter := { count := 0, lockout := none }
    paidReturns := []
    signals := []
    arbiterDue := false }

/-- The mains domain stops: all its state is lost, and the model holds it at the values after a start until it starts
again (R190, R191; log 26). The flight record keeps its entries. -/
def State.stopped (s : State) : State :=
  let s1 := s.mainsCleared (s.ports.map fun u => PortUnit.started u.role u.rate)
  { s1 with power := { s1.power with running := false, restoring := false } }

/-- The backup is intact: the retention mark is set and the check value matches (R188). -/
def State.intact (s : State) : Bool := s.power.retentionMark && s.power.checkOk

/-- Every piece of retained state takes its value after a cold start, and BACKUP_LOST goes to operations (R198). -/
def State.coldStarted (s : State) : State :=
  let s1 := { s with
    custody := { entries := Vector.replicate 144 CompartmentEntry.cold, records := Vector.replicate 144 none,
                 codeMap := [] }
    carriers := Vector.replicate 8 CarrierEntry.cold
    codeGen := { seed := Config.randomSeed s.codeGen.drawn, position := 0, drawn := s.codeGen.drawn + 1 }
    tariff := TariffUnit.cold
    charges := { s.charges with gens := Vector.replicate 8 0 }
    seq := { s.seq with flight := [] }
    clock := { minute := 0, subMinute := 0 }
    power := { s.power with retentionMark := true, checkOk := true, lastStart := .cold } }
  s1.post .operations Notice.backupLost

/-- The custody table clears the open charge reference of every consignment (R143). -/
def State.forgetCharges (s : State) : State :=
  { s with custody := { s.custody with
      records := s.custody.records.map fun k => k.map fun x => { x with openRef := none } } }

/-- The start of the mains domain, steps 1 to 5 (R192). The baseline sweep has begun with the scanner's values after a
start. -/
def State.start (s : State) (straps : Straps) : State :=
  let s1 := s.mainsCleared (sampledPorts straps)
  let s2 := if s.intact then { s1 with power := { s1.power with lastStart := s.power.opener } } else s1.coldStarted
  let s3 := s2.forgetCharges
  { s3 with power := { s3.power with running := true, restoring := true } }

/-- The mains domain starts when its supply is present, PFAIL is negated and RESET is released (R192). -/
def State.tryStart (s : State) (straps : Straps) : State :=
  if s.power.mains && !s.power.pfail && !s.power.resetLine && !s.power.running then s.start straps else s

/-- The mains domain stops when it runs. -/
def State.tryStop (s : State) : State := if s.power.running then s.stopped else s

/-- A tick of the custody clock: the minute advances and, while the mains domain runs, the overstay scan follows. At
4,294,967,295 the minute stays and no tick is made (R25, R189). -/
def State.custodyTicks (s : State) : State :=
  if s.clock.minute < maxWord then
    let s1 := { s with clock := { minute := s.clock.minute + 1, subMinute := 0 } }
    if s1.power.running then ((s1.begin).overstayScan).complete else s1
  else { s with clock := { s.clock with subMinute := 0 } }

end Sys2Proof.Machine
end

