-- ==== Sys2Proof/Machine/DriveCommands.lean ====
section
/-! DEFINITION. The sequencer's events: the ends of ARMING, of pulses, of run windows and of RECOVERING, and the SVC_KEY
input (R149 to R152, R157 to R165). An event that the part's state does not admit changes nothing (log 5). -/

namespace Sys2Proof.Machine

/-- The 30 ms of ARMING end: the column's run window of 600 ms starts, and the taken entry's pulse starts at once
(R150). -/
def State.armingEnds (s : State) (col : Column) : State :=
  match s.column col with
  | .arming _ => if (s.flyingOn col).isSome then s.pulseStarts col (msUnits 600) else s
  | .idle | .armed _ | .pulsing _ _ | .recovering _ | .disabled => s

/-- ARMING_END (R150). -/
def execArmingEnd (col : Column) (s : State) : Host.Outcome State Fault Refusal :=
  .next (s.event fun t => t.armingEnds col)

/-- A pulse ends on a column: the entry whose pulse was in progress takes the outcome, when its class admits it (log
24). -/
def State.pulseEnds (s : State) (col : Column) (admits : EntryClass → Bool) (act : State → Entry → State) : State :=
  match s.pulsingEntry col with
  | none => s
  | some e => if admits e.cls then act s e else s

/-- CUSTODY and SERVICE entries. -/
def EntryClass.isRelease : EntryClass → Bool
  | .custody | .service => true
  | .test => false

/-- PULSE_GOOD (R157). -/
def execPulseGood (col : Column) (sense : Sense) (s : State) : Host.Outcome State Fault Refusal :=
  .next (s.event fun t => (t.latch sense).pulseEnds col EntryClass.isRelease State.pulseGoodEnd)

/-- PULSE_OPEN_COIL (R158). -/
def execPulseOpenCoil (col : Column) (sense : Sense) (s : State) : Host.Outcome State Fault Refusal :=
  .next (s.event fun t => (t.latch sense).pulseEnds col EntryClass.isRelease State.pulseOpenEnd)

/-- A SHORT end of an entry of any class (R159). -/
def State.shortEnd (s : State) (e : Entry) : State :=
  match e.cls with
  | .custody | .service => s.pulseShortEnd e
  | .test => s.testPulseEnd e .short

/-- PULSE_SHORT (R159). -/
def execPulseShort (col : Column) (sense : Sense) (s : State) : Host.Outcome State Fault Refusal :=
  .next (s.event fun t => (t.latch sense).pulseEnds col (fun _ => true) State.shortEnd)

/-- A TEST entry. -/
def EntryClass.isTest : EntryClass → Bool
  | .test => true
  | .custody | .service => false

/-- TEST_PULSE_END (R161, R165). -/
def execTestPulseEnd (col : Column) (outcome : PulseOutcome) (sense : Sense) (s : State) :
    Host.Outcome State Fault Refusal :=
  .next (s.event fun t =>
    (t.latch sense).pulseEnds col EntryClass.isTest fun u e => u.testPulseEnd e outcome)

/-- The run window ends: an ARMED column disarms, and a PULSING one disarms at its pulse's end (R151, R152). -/
def State.runWindowEnds (s : State) (col : Column) : State :=
  match s.column col with
  | .armed _ => s.disarm col
  | .pulsing _ left => s.putColumn col (.pulsing 0 left)
  | .idle | .arming _ | .recovering _ | .disabled => s

/-- RUN_WINDOW_END (R152). -/
def execRunWindowEnd (col : Column) (sense : Sense) (s : State) : Host.Outcome State Fault Refusal :=
  .next (s.event fun t => (t.latch sense).runWindowEnds col)

/-- The 50 ms of RECOVERING end in IDLE (R152). -/
def State.recoveringEnds (s : State) (col : Column) : State :=
  match s.column col with
  | .recovering _ => s.setColumn col .idle
  | .idle | .arming _ | .armed _ | .pulsing _ _ | .disabled => s

/-- RECOVERING_END (R152). -/
def execRecoveringEnd (col : Column) (s : State) : Host.Outcome State Fault Refusal :=
  .next (s.event fun t => t.recoveringEnds col)

/-- The SVC_KEY input, as the sequencer holds it. -/
def State.setKey (s : State) (on : Bool) : State := { s with seq := { s.seq with svcKey := on } }

/-- SVC_KEY turns on: pending service entries are moved into the queue (R163). -/
def State.keyOn (s : State) : State := if s.seq.svcKey then s else (s.setKey true).emit .movePending

/-- SVC_KEY_ON (R163). -/
def execSvcKeyOn (s : State) : Host.Outcome State Fault Refusal := .next (s.event State.keyOn)

/-- SVC_KEY_OFF: the pending entries stay where they are (R163). -/
def execSvcKeyOff (s : State) : Host.Outcome State Fault Refusal := .next (s.event fun t => t.setKey false)

end Sys2Proof.Machine
end

