-- ==== Sys2Proof/Machine/OperationsCommands.lean ====
section
/-! DEFINITION. The operations commands that change the custody table (chapter 1): Set Compartment, Withhold
Compartment, Resolve Review, Return To Service, Amend Holding. -/

namespace Sys2Proof.Machine

/-- An operations request. -/
def State.serveOps (s : State) (h : Head) (code : Byte) (length : Nat) (body : State → State × Answer) : State :=
  s.serve h code (only .operations) length body

/-- A compartment a request names: FORMAT above 143 (R30). -/
def State.withComp (s : State) (comp : Nat) (body : Comp → State × Answer) : State × Answer :=
  match compOf comp with
  | none => s.refuses .format
  | some c => body c

/-! ### Set Compartment (R2) -/

/-- The custody state and cause after Set Compartment on a compartment without a holding (R2). -/
def fittedState (st : CustodyState) (cause : Option OosCause) (fitted : Bool) : CustodyState × Option OosCause :=
  match fitted, st with
  | false, _ => (.notFitted, none)
  | true, .outOfService => (.outOfService, cause)
  | true, _ => (.free, none)

/-- The change a Set Compartment makes; a change of the fitted value removes the door record, if there is one (R2,
R182). -/
def State.fitComp (s : State) (c : Comp) (fitted : Bool) (size : SizeClass) (use : UseClass) : State :=
  let e := s.entry c
  let st := fittedState e.state e.cause fitted
  let s1 := s.setEntry c { e with fitted := fitted, size := size, use := use, state := st.1, cause := st.2 }
  if e.fitted = fitted then s1 else s1.setDoor c none

/-- Set Compartment (R2). -/
def State.setCompartment (s : State) (comp : Nat) (fitted : Option Bool) (size : Option SizeClass)
    (use : Option UseClass) : State × Answer :=
  s.unlessRestoring <|
  match compOf comp, fitted, size, use with
  | some c, some f, some z, some u =>
    s.check (!((s.holding c).isSome || s.hasEntry c || s.pendingFor c)) .occupied (s.fitComp c f z u, done [])
  | _, _, _, _ => s.refuses .format

/-- SET_COMPARTMENT (R2). -/
def execSetCompartment (h : Head) (comp : Nat) (fitted : Option Bool) (size : Option SizeClass) (use : Option UseClass)
    (s : State) : Host.Outcome State Fault Refusal :=
  .next (s.serveOps h 0x40#8 4 fun t => t.setCompartment comp fitted size use)

/-! ### Withhold Compartment (R26) -/

/-- Withhold Compartment with target REVIEW (R26). -/
def State.withholdReview (s : State) (c : Comp) : State × Answer :=
  if (s.holding c).isNone then s.refuses .unknown
  else
    match s.custodyState c with
    | .held | .overstayed | .returnHeld => (s.enterReview c .operator, done [])
    | .review => (s.addCause c .operator, done [])
    | .reserved | .loading => s.refuses .occupied
    | .releasing | .emptying => s.refuses .claimed
    | .outOfService => s.refuses .outOfService
    | .notFitted | .free => s.refuses .unknown

/-- WITHHOLD_TO_REVIEW (R26). -/
def execWithholdToReview (h : Head) (targetOk : Bool) (comp : Nat) (s : State) : Host.Outcome State Fault Refusal :=
  .next (s.serveOps h 0x41#8 2 fun t =>
    t.guarded (t.check targetOk .format (t.withComp comp t.withholdReview)))

/-- Withhold Compartment with target OUT_OF_SERVICE (R26). -/
def State.withholdOos (s : State) (c : Comp) : State × Answer :=
  match s.custodyState c with
  | .free | .held | .overstayed | .returnHeld | .review => (s.outOfService c .operator, done [])
  | .reserved | .loading => s.refuses .occupied
  | .releasing | .emptying => s.refuses .claimed
  | .outOfService => (s, done [])
  | .notFitted => s.refuses .format

/-- WITHHOLD_TO_OUT_OF_SERVICE (R26). -/
def execWithholdToOutOfService (h : Head) (targetOk : Bool) (comp : Nat) (s : State) :
    Host.Outcome State Fault Refusal :=
  .next (s.serveOps h 0x41#8 2 fun t =>
    t.guarded (t.check targetOk .format (t.withComp comp t.withholdOos)))

/-! ### Resolve Review (R27) -/

/-- The checks of Resolve Review, then its action (R27). -/
def State.resolve (s : State) (actionOk : Bool) (comp : Nat) (act : Comp → State) : State × Answer :=
  s.guarded <|
  s.check actionOk .format <|
  s.withComp comp fun c =>
    if (s.holding c).isNone then s.refuses .unknown
    else
      match s.custodyState c with
      | .review => (act c, done [])
      | .releasing | .emptying => s.refuses .claimed
      | .outOfService => s.refuses .outOfService
      | .notFitted | .free | .reserved | .loading | .held | .overstayed | .returnHeld => s.refuses .notReady

/-- The holding returns to its rest state, its review causes and RELEASE_INTERRUPTED cleared (R7, R27, R28). -/
def State.restore (s : State) (c : Comp) : State :=
  (s.updHolding c fun h => { h with causes := [], releaseInterrupted := false }).toRest c

/-- RESOLVE_REVIEW_RESTORE (R27). -/
def execResolveReviewRestore (h : Head) (actionOk : Bool) (comp : Nat) (s : State) :
    Host.Outcome State Fault Refusal :=
  .next (s.serveOps h 0x42#8 2 fun t => t.resolve actionOk comp t.restore)

/-- The consignment's waived flag is set, then as RESTORE (R27). -/
def State.waive (s : State) (c : Comp) : State :=
  match s.holding c with
  | some h => (s.updRecord h.record fun k => { k with waived := true }).restore c
  | none => s.restore c

/-- RESOLVE_REVIEW_WAIVE (R27). -/
def execResolveReviewWaive (h : Head) (actionOk : Bool) (comp : Nat) (s : State) : Host.Outcome State Fault Refusal :=
  .next (s.serveOps h 0x42#8 2 fun t => t.resolve actionOk comp t.waive)

/-- RESOLVE_REVIEW_RETIRE: the holding is retired and the compartment goes FREE (R27). -/
def execResolveReviewRetire (h : Head) (actionOk : Bool) (comp : Nat) (s : State) : Host.Outcome State Fault Refusal :=
  .next (s.serveOps h 0x42#8 2 fun t => t.resolve actionOk comp fun c => t.removeHolding c .free none)

/-- RESOLVE_REVIEW_WITHDRAW: OUT_OF_SERVICE with the holding and its causes, cause OPERATOR (R27). -/
def execResolveReviewWithdraw (h : Head) (actionOk : Bool) (comp : Nat) (s : State) :
    Host.Outcome State Fault Refusal :=
  .next (s.serveOps h 0x42#8 2 fun t => t.resolve actionOk comp fun c => t.outOfService c .operator)

/-! ### Return To Service (R28) -/

/-- The change Return To Service makes (R28). -/
def State.returned (s : State) (c : Comp) : State :=
  if (s.holding c).isNone then s.setEntry c { s.entry c with state := .free, cause := none }
  else
    let s1 := s.restore c
    s1.putEntry c { s1.entry c with cause := none }

/-- Return To Service: its refusals in the order R28 lists them. -/
def State.returnToService (s : State) (c : Comp) : State × Answer :=
  s.check (s.column c.column != .disabled) .outOfService <|
  s.check (s.door c == some .shut) .notReady <|
  s.check (s.custodyState c == .outOfService) .notReady (s.returned c, done [])

/-- RETURN_TO_SERVICE (R28). -/
def execReturnToService (h : Head) (comp : Nat) (s : State) : Host.Outcome State Fault Refusal :=
  .next (s.serveOps h 0x43#8 1 fun t => t.guarded (t.withComp comp t.returnToService))

/-! ### Amend Holding (R29) -/

/-- A rest state that Amend Holding accepts, or that it may change (R29). -/
def amendableRest : Option RestState → Bool
  | some .held | some .overstayed => true
  | some .returnHeld | none => false

/-- Every selected field of an Amend Holding is accepted and its condition holds (R29, R208). -/
def State.amendOk (s : State) (c : Comp) (h : Holding) (sel : BitVec 16) (v : AmendFields) : Bool :=
  selectsOnly sel 5 &&
  (!sel.getLsbD 0 || (parcelOk v.parcelRef && !v.parcelRef.isEmpty)) &&
  (!sel.getLsbD 1 || (classOf v.tariffClass).isSome) &&
  (!sel.getLsbD 2 || h.depositMinute.isSome) &&
  (!sel.getLsbD 3 || (amendableRest v.rest && amendableRest h.rest)) &&
  (!sel.getLsbD 4 || (s.consignment c).any fun k => k.kind == .delivery)

/-- The holding as an Amend Holding writes it (R29). -/
def Holding.amended (h : Holding) (sel : BitVec 16) (v : AmendFields) : Holding :=
  { h with
    parcelRef := pick sel 0 (parcelOf v.parcelRef) h.parcelRef
    tariffClass := pick sel 1 ((classOf v.tariffClass).getD h.tariffClass) h.tariffClass
    depositMinute := pick sel 2 (some v.depositMinute) h.depositMinute
    rest := pick sel 3 v.rest h.rest }

/-- The custody state moves with a written rest state while it is HELD or OVERSTAYED (R29). -/
def State.restMoves (s : State) (c : Comp) (sel : BitVec 16) (v : AmendFields) : State :=
  match sel.getLsbD 3, s.custodyState c, v.rest with
  | true, .held, some r | true, .overstayed, some r => s.setCustody c (RestState.custody r)
  | _, _, _ => s

/-- The change an Amend Holding makes (R29). -/
def State.amended (s : State) (c : Comp) (h : Holding) (sel : BitVec 16) (v : AmendFields) : State :=
  ((s.updHolding c fun x => x.amended sel v).updRecord h.record fun k =>
    { k with cod := pick sel 4 (clampTop maxAmount v.cod) k.cod }).restMoves c sel v

/-- The five values Amend Holding answers with, as they stand (R208, log 31). -/
def State.amendFields (s : State) (c : Comp) : List Field :=
  match s.holding c with
  | none => []
  | some h =>
    [.parcel h.parcelRef, .u8 h.tariffClass.val, .opt32 h.depositMinute, .opt8 (h.rest.map fun r => r.ctorIdx),
      .u32 ((s.consignment c).elim 0 fun k => k.cod)]

/-- Amend Holding on a compartment (R29). -/
def State.amendHolding (s : State) (sel : BitVec 16) (v : AmendFields) (c : Comp) : State × Answer :=
  match s.holding c with
  | none => s.refuses .unknown
  | some h =>
    s.check (s.amendOk c h sel v) .format
      (s.amended c h sel v, done ((s.amended c h sel v).amendFields c))

/-- AMEND_HOLDING (R29). -/
def execAmendHolding (h : Head) (comp : Nat) (sel : BitVec 16) (v : AmendFields) (s : State) :
    Host.Outcome State Fault Refusal :=
  .next (s.serveOps h 0x44#8 34 fun t => t.guarded (t.withComp comp (t.amendHolding sel v)))

end Sys2Proof.Machine
end

