-- ==== Sys2Proof/Machine/PaymentCommands.lean ====
section
/-! DEFINITION. The payment module's commands: Fetch Charge and Payment Result (R132 to R139). -/

namespace Sys2Proof.Machine

/-! ### Fetch Charge (R132) -/

/-- The OPEN charge with the smallest creation second, the lowest slot among equals (R132). -/
def State.oldestOpen (s : State) : Option ChargeSlot :=
  (List.finRange 8).foldl (fun best i =>
    if (s.charge i).state = .opened then
      match best with
      | none => some i
      | some j => if (s.charge i).creation < (s.charge j).creation then some i else some j
    else best) none

/-- The consignment's code for a delivery, or its record number and the mark RETURN for a return (R132, R204; log 47).
-/
def State.chargeForm (s : State) (r : ChargeRecord) : List Field :=
  match r.record with
  | none => []
  | some n =>
    match (s.record n).bind fun k => k.code with
    | some code => [.code code]
    | none => [.u8 n.val, .mark true]

/-- The result fields of a fetched charge (R132). -/
def State.fetched (s : State) (i : ChargeSlot) (r : ChargeRecord) : Answer :=
  done ([.u8 i.val, .u8 (s.charges.gens.get i), .u32 r.laneO, .u32 r.laneK, .u8 (secondsUp r.expiry)] ++
    s.chargeForm r)

/-- Fetch Charge on a named charge, by its state (R132). -/
def State.fetchNamed (s : State) (i : ChargeSlot) (r : ChargeRecord) : State × Answer :=
  match r.state with
  | .opened => (s.putCharge i { r with state := .presented }, s.fetched i r)
  | .presented => (s, s.fetched i r)
  | .paid | .declined | .expired | .void | .free => s.refuseLate r.state

/-- Fetch Charge, named or unnamed (R132). -/
def State.fetchCharge (s : State) (ref : Option (Nat × Nat)) : State × Answer :=
  s.unlessRestoring <|
  match ref with
  | some p => s.withCharge p.1 p.2 s.fetchNamed
  | none =>
    match s.oldestOpen with
    | some i => s.fetchNamed i (s.charge i)
    | none => s.refuses .unknown

/-- FETCH_CHARGE (R132). -/
def execFetchCharge (h : Head) (ref : Option (Nat × Nat)) (s : State) : Host.Outcome State Fault Refusal :=
  .next (s.serve h 0x30#8 (only .payment) 3 fun t => t.fetchCharge ref)

/-! ### Payment Result (R133 to R137) -/

/-- A notice that names a charge by its reference. -/
def State.noteCharge (s : State) (k : NoticeKind) (i : ChargeSlot) : Notice :=
  { s.note k with ref := some (s.refOf i) }

/-- The paid lanes and the paid-through minute of a consignment after a PAID result (R111, R134). -/
def Consignment.settled (k : Consignment) (laneO laneK minute grace : Nat) : Consignment :=
  { k with paidO := min (k.paidO + laneO) maxAmount, paidK := min (k.paidK + laneK) maxAmount,
           paidThrough := some (min (minute + grace) maxWord) }

/-- The CHARGE_PAID notice: the code for a delivery, the compartment for a return (R134). -/
def State.paidNotice (s : State) (i : ChargeSlot) (r : ChargeRecord) : Notice :=
  let n := { s.noteCharge .chargePaid i with amount := r.laneO + r.laneK }
  match r.record.bind s.record with
  | none => n
  | some k =>
    match k.kind with
    | .delivery => { n with cons := k.code.map ConsForm.code }
    | .returnDrop => { n with comp := k.pieces.head? }

/-- A paid return asks for its release (R134, R141). -/
def State.paidReleases (s : State) (n : RecordNo) : State :=
  match s.waitingReturn n with
  | some c => s.releasePaidReturn n c
  | none => s

/-- An APPROVED result with the charge's amounts settles it (R134). -/
def State.settleCharge (s : State) (i : ChargeSlot) (r : ChargeRecord) : State × Answer :=
  let minute := s.clock.minute
  let s1 := s.endCharge i .paid none (some minute)
  let s2 := match r.record with
    | some n =>
      (s1.updRecord n fun k => k.settled r.laneO r.laneK minute s.tariff.bank.grace).paidReleases n
    | none => s1
  (s2.post .console (s.paidNotice i r),
    done [.u8 ChargeState.paid.ctorIdx, .u32 (min (minute + s.tariff.bank.grace) maxWord), .mark false])

/-- The notice detail of a DECLINED cause (R135). -/
def EndCause.detail : EndCause → Detail
  | .mismatch => .mismatch
  | .byModule | .voidQuote | .requote | .collect | .returnCancel | .portReset | .retired => .byModule

/-- A charge's reservation is dropped, and the console is told how the charge ended (R45, R47). -/
def State.dropForCharge (s : State) (r : ChargeRecord) (d : Detail) : State :=
  match r.record.bind s.waitingReturn with
  | some c => (s.dropReserved c).post .console ((s.noteFull .returnDone c).withDetail d)
  | none => s

/-- A result on a PRESENTED charge that does not settle it ends it DECLINED (R135). -/
def State.declineCharge (s : State) (i : ChargeSlot) (r : ChargeRecord) (cause : EndCause) (reverse : Bool) :
    State × Answer :=
  let s1 := (s.endCharge i .declined (some cause) none).post .console
    ((s.noteCharge .chargeDeclined i).withDetail (EndCause.detail cause))
  (s1.dropForCharge r .declined,
    done [.u8 ChargeState.declined.ctorIdx, .opt8 (some cause.ctorIdx), .mark reverse])

/-- The amounts of a result are the charge's own. -/
def ChargeRecord.matchesAmounts (r : ChargeRecord) (amountO amountK : Nat) : Bool :=
  r.laneO == amountO && r.laneK == amountK

/-- The notice detail of an outcome (R139). -/
def CardOutcome.detail : CardOutcome → Detail
  | .approved => .approved
  | .declined => .declined

/-- The notice qualifier of the state of a charge that met a late result (R139). -/
def lateDetail : ChargeState → Detail
  | .expired => .expired
  | .void | .free | .opened | .presented | .paid | .declined => .void

/-- A result on an EXPIRED or VOID charge is refused LATE, with LATE_PAYMENT to the payment and operations ports
(R139). -/
def State.lateResult (s : State) (i : ChargeSlot) (r : ChargeRecord) (o : CardOutcome) (amountO amountK : Nat) :
    State × Answer :=
  let n := { (s.noteCharge .latePayment i).withDetail (CardOutcome.detail o) with
    cons := s.chargeCode r, qualifier := some (lateDetail r.state), amount := amountO + amountK }
  (s.postBoth .payment .operations n, refuseWith .late [.u8 r.state.ctorIdx, .mark (o == .approved)])

/-- A result on a charge that a result has already ended changes nothing (R136). -/
def State.repeatedResult (s : State) (r : ChargeRecord) (o : CardOutcome) (amountO amountK : Nat) : State × Answer :=
  let held := r.state == .paid && r.matchesAmounts amountO amountK
  (s, done [.u8 r.state.ctorIdx, .opt8 (r.cause.map fun c => c.ctorIdx), .mark (o == .approved && !held)])

/-- A Payment Result on a named charge, by its state (R133 to R136, R139). -/
def State.resultFor (s : State) (o : CardOutcome) (amountO amountK : Nat) (i : ChargeSlot) (r : ChargeRecord) :
    State × Answer :=
  match r.state with
  | .presented =>
    match o with
    | .approved =>
      if r.matchesAmounts amountO amountK then s.settleCharge i r else s.declineCharge i r .mismatch true
    | .declined => s.declineCharge i r .byModule false
  | .opened => (s, refuseWith .notReady [.mark (o == .approved)])
  | .paid | .declined => s.repeatedResult r o amountO amountK
  | .expired | .void | .free => s.lateResult i r o amountO amountK

/-- Payment Result: FORMAT, NOT_READY, UNKNOWN, and then by the charge's state, each answer with its reverse mark (R133,
R137). R126 refuses a stale reference UNKNOWN whatever else the request carries, and R133 names FORMAT and NOT_READY
before it: that a stale reference beside an outcome outside its set is FORMAT, and NOT_READY in RESTORING, is the
model's reading, log 57. -/
def State.paymentResult (s : State) (slot gen : Nat) (outcome : Option CardOutcome) (amountO amountK : Nat) :
    State × Answer :=
  match outcome, chargeSlotOf slot with
  | some o, some i =>
    if s.power.restoring then (s, refuseWith .notReady [.mark false])
    else
      match s.chargeNamed i gen with
      | none => (s, refuseWith .unknown [.mark (o == .approved)])
      | some r => s.resultFor o amountO amountK i r
  | _, _ => (s, refuseWith .format [.mark false])

/-- PAYMENT_RESULT (R133). -/
def execPaymentResult (h : Head) (slot gen : Nat) (outcome : Option CardOutcome) (amountO amountK : Nat) (s : State) :
    Host.Outcome State Fault Refusal :=
  .next (s.serve h 0x31#8 (only .payment) 11 fun t => t.paymentResult slot gen outcome amountO amountK)

end Sys2Proof.Machine
end

