-- ==== Sys2Proof/Machine/PowerCommands.lean ====
section
/-! DEFINITION. The power events (R189 to R192): PFAIL, the mains supply, the RESET line, the retention monitor, and the
tick of the custody clock. -/

namespace Sys2Proof.Machine

/-- Changes the PFAIL input. -/
def State.setPfail (s : State) (b : Bool) : State := { s with power := { s.power with pfail := b } }

/-- PFAIL_ASSERT: the arbiter takes no entry from now on, and every other block goes on (R169, R190). -/
def execPfailAssert (s : State) : Host.Outcome State Fault Refusal := .next (s.setPfail true)

/-- PFAIL is negated: a part that runs has lost nothing, and its arbiter makes its choices; a part that is stopped may
start (R169, R190, R192). -/
def State.pfailNegated (s : State) (straps : Straps) : State :=
  if s.power.running then (s.setPfail false).event State.markArbiter else (s.setPfail false).tryStart straps

/-- PFAIL_NEGATE (R169, R190, R192). -/
def execPfailNegate (straps : Straps) (s : State) : Host.Outcome State Fault Refusal := .next (s.pfailNegated straps)

/-- MAINS_FALL: the mains domain stops (R190). -/
def execMainsFall (s : State) : Host.Outcome State Fault Refusal :=
  .next ({ s with power := { s.power with mains := false } }.tryStop)

/-- The supply returns: the mains domain starts when PFAIL is negated and RESET is released (R192). -/
def State.mainsReturns (s : State) (straps : Straps) : State :=
  if s.power.mains then s
  else { s with power := { s.power with mains := true, opener := .mainsReturn } }.tryStart straps

/-- MAINS_RETURN (R192). -/
def execMainsReturn (straps : Straps) (s : State) : Host.Outcome State Fault Refusal := .next (s.mainsReturns straps)

/-- RESET_ASSERT: the mains domain is held stopped, as if the supply had fallen (R191). -/
def execResetAssert (s : State) : Host.Outcome State Fault Refusal :=
  .next ({ s with power := { s.power with resetLine := true } }.tryStop)

/-- The RESET line is released: with mains present the mains domain starts (R191, R192). -/
def State.resetReleased (s : State) (straps : Straps) : State :=
  if s.power.resetLine then
    { s with power := { s.power with resetLine := false, opener := .resetLine } }.tryStart straps
  else s

/-- RESET_RELEASE (R191). -/
def execResetRelease (straps : Straps) (s : State) : Host.Outcome State Fault Refusal :=
  .next (s.resetReleased straps)

/-- RETENTION_LOSS: the retention monitor clears the retention mark (R188). -/
def execRetentionLoss (s : State) : Host.Outcome State Fault Refusal :=
  .next { s with power := { s.power with retentionMark := false } }

/-- CUSTODY_TICK (R25, R189). -/
def execCustodyTick (s : State) : Host.Outcome State Fault Refusal := .next s.custodyTicks

end Sys2Proof.Machine
end

