-- ==== Sys2Proof/Machine/SettingsCommands.lean ====
section
/-! DEFINITION. The operations commands on settings: Set and Read Carrier (R51, R65), Set and Read Tariff (R94, R96), Set
Masks, Clear and Read Conditions (R117, R122, R124). -/

namespace Sys2Proof.Machine

/-! ### Carriers (R51, R65) -/

/-- Every selected value of a Set Carrier lies in its set (R51, R208). -/
def carrierFormatOk (sel : BitVec 16) (v : CarrierFields) : Bool :=
  selectsOnly sel 7 &&
  (!sel.getLsbD 1 || v.enabled.isSome) &&
  (!sel.getLsbD 2 || (rightsOf v.rights).isSome) &&
  (!sel.getLsbD 3 || (sizesOf v.sizes).isSome) &&
  (!sel.getLsbD 4 || (classOf v.tariffClass).isSome) &&
  (!sel.getLsbD 5 || v.mode.isSome)

/-- The entry as a Set Carrier writes it; a quota above 144 is stored as 144 (R51). -/
def CarrierEntry.written (e : CarrierEntry) (sel : BitVec 16) (v : CarrierFields) : CarrierEntry :=
  { e with
    id := pick sel 0 v.id e.id
    enabled := pick sel 1 (v.enabled.getD e.enabled) e.enabled
    rights := pick sel 2 ((rightsOf v.rights).getD e.rights) e.rights
    sizes := pick sel 3 ((sizesOf v.sizes).getD e.sizes) e.sizes
    tariffClass := pick sel 4 ((classOf v.tariffClass).getD e.tariffClass) e.tariffClass
    mode := pick sel 5 (v.mode.getD e.mode) e.mode
    quota := pick sel 6 (clampTop 144 v.quota) e.quota }

/-- Another enabled entry holds the carrier ID (R52). -/
def State.duplicates (s : State) (i : Fin 8) (e : CarrierEntry) : Bool :=
  e.enabled && (List.finRange 8).any fun j =>
    decide (j ≠ i) && (s.carriers.get j).enabled && (s.carriers.get j).id == e.id

/-- A set of rights in one byte, in the order of R49 (R211). -/
def rightsNum (r : Rights) : Nat :=
  r.deliver.toNat + 2 * r.pickupReturns.toNat + 4 * r.cod.toNat + 8 * r.acceptReturns.toNat

/-- A set of size classes in one byte (R211). -/
def sizesNum (z : PerSize Bool) : Nat := z.s.toNat + 2 * z.m.toNat + 4 * z.l.toNat + 8 * z.xl.toNat

/-- The seven fields of a carrier entry that Set Carrier writes, as they stand (R51, R208). -/
def CarrierEntry.fields (e : CarrierEntry) : List Field :=
  [.u32 e.id, .mark e.enabled, .u8 (rightsNum e.rights), .u8 (sizesNum e.sizes), .u8 e.tariffClass.val,
    .u8 e.mode.ctorIdx, .u8 e.quota]

/-- Replaces a carrier entry. -/
def State.putCarrier (s : State) (i : Fin 8) (e : CarrierEntry) : State := { s with carriers := put s.carriers i e }

/-- A carrier a request names: FORMAT above 7 (R51, R65). -/
def State.withCarrier (s : State) (index : Nat) (body : Fin 8 → State × Answer) : State × Answer :=
  match carrierOf index with
  | none => s.refuses .format
  | some i => body i

/-- Set Carrier on an entry (R51, R52). -/
def State.setCarrier (s : State) (sel : BitVec 16) (v : CarrierFields) (i : Fin 8) : State × Answer :=
  let e := s.carriers.get i
  let e2 := e.written sel v
  s.check (carrierFormatOk sel v) .format <|
  s.check (!(e2.id != e.id && decide (0 < e.live))) .occupied <|
  s.check (!(s.duplicates i e2)) .duplicate (s.putCarrier i e2, done e2.fields)

/-- SET_CARRIER (R51). -/
def execSetCarrier (h : Head) (index : Nat) (sel : BitVec 16) (v : CarrierFields) (s : State) :
    Host.Outcome State Fault Refusal :=
  .next (s.serveOps h 0x45#8 13 fun t => t.withCarrier index (t.setCarrier sel v))

/-- READ_CARRIER (R65). -/
def execReadCarrier (h : Head) (index : Nat) (s : State) : Host.Outcome State Fault Refusal :=
  .next (s.serveOps h 0x46#8 1 fun t => t.withCarrier index fun i =>
    (t, done ((t.carriers.get i).fields ++ [.u8 (t.carriers.get i).live])))

/-! ### Tariffs (R94, R96) -/

/-- A tariff class as Set Tariff writes it, each value clamped to the top of its stored range (R92, R94). -/
def classWritten (t : ClassValues) (sel : BitVec 16) (v : ClassValues) : ClassValues :=
  { f := pick sel 0 (clampTop 1440 v.f) t.f
    u := pick sel 1 (clampTop 255 v.u) t.u
    b := pick sel 2 (clampTop 255 v.b) t.b
    r1 := pick sel 3 (clampTop 9999 v.r1) t.r1
    r2 := pick sel 4 (clampTop 9999 v.r2) t.r2
    c := pick sel 5 (clampTop 99999 v.c) t.c
    l := pick sel 6 (clampTop 10080 v.l) t.l }

/-- The bank-wide settings as Set Tariff writes them (R93, R94, R212). -/
def BankSettings.written (b : BankSettings) (sel : BitVec 16) (v : BankValues) : BankSettings :=
  { mult := { s := pick sel 0 (clampTop 255 v.mult.s) b.mult.s
              m := pick sel 1 (clampTop 255 v.mult.m) b.mult.m
              l := pick sel 2 (clampTop 255 v.mult.l) b.mult.l
              xl := pick sel 3 (clampTop 255 v.mult.xl) b.mult.xl }
    fee := { s := pick sel 4 (clampTop 99999 v.fee.s) b.fee.s
             m := pick sel 5 (clampTop 99999 v.fee.m) b.fee.m
             l := pick sel 6 (clampTop 99999 v.fee.l) b.fee.l
             xl := pick sel 7 (clampTop 99999 v.fee.xl) b.fee.xl }
    rounding := pick sel 8 (v.rounding.getD b.rounding) b.rounding
    grace := pick sel 9 (clampTop 30 v.grace) b.grace }

/-- The fields of a tariff class as stored, in the widths in which R212 gives them for the request (R94, R96, R204,
R211; the model's choice, log 40). -/
def classFields (t : ClassValues) : List Field :=
  [.u16 t.f, .u8 t.u, .u8 t.b, .u16 t.r1, .u16 t.r2, .u32 t.c, .u16 t.l]

/-- The bank-wide fields as stored (R94, R96). -/
def BankSettings.fields (b : BankSettings) : List Field :=
  [.u8 b.mult.s, .u8 b.mult.m, .u8 b.mult.l, .u8 b.mult.xl, .u32 b.fee.s, .u32 b.fee.m, .u32 b.fee.l, .u32 b.fee.xl,
    .u8 b.rounding.ctorIdx, .u8 b.grace]

/-- Set Tariff for a class (R94). -/
def State.setClass (s : State) (i : Fin 4) (sel : BitVec 16) (v : ClassValues) : State × Answer :=
  let t := classWritten (s.tariff.classes.get i) sel v
  s.check (selectsOnly sel 7) .format
    ({ s with tariff := { s.tariff with classes := put s.tariff.classes i t } }, done (classFields t))

/-- Set Tariff for BANK (R94). -/
def State.setBank (s : State) (sel : BitVec 16) (v : BankValues) : State × Answer :=
  let b := s.tariff.bank.written sel v
  s.check (selectsOnly sel 10) .format <|
  s.check (!sel.getLsbD 8 || v.rounding.isSome) .format
    ({ s with tariff := { s.tariff with bank := b } }, done b.fields)

/-- Set Tariff: a class 0 to 3, or 4 for BANK (R94, R212). -/
def State.setTariff (s : State) (target : Nat) (sel : BitVec 16) (cls : ClassValues) (bank : BankValues) :
    State × Answer :=
  match classOf target with
  | some i => s.setClass i sel cls
  | none => if target = 4 then s.setBank sel bank else s.refuses .format

/-- SET_TARIFF (R94). -/
def execSetTariff (h : Head) (target : Nat) (sel : BitVec 16) (cls : ClassValues) (bank : BankValues) (s : State) :
    Host.Outcome State Fault Refusal :=
  .next (s.serveOps h 0x47#8 25 fun t => t.setTariff target sel cls bank)

/-- Read Tariff: the target's fields with their valid-set marks (R96). -/
def State.readTariff (s : State) (target : Nat) : State × Answer :=
  match classOf target with
  | some i =>
    let t := s.tariff.classes.get i
    (s, done (classFields t ++ [.mark (unitValid t.u)]))
  | none =>
    let b := s.tariff.bank
    if target = 4 then
      (s, done (b.fields ++ [.mark (multValid b.mult.s), .mark (multValid b.mult.m), .mark (multValid b.mult.l),
        .mark (multValid b.mult.xl)]))
    else s.refuses .format

/-- READ_TARIFF (R96). -/
def execReadTariff (h : Head) (target : Nat) (s : State) : Host.Outcome State Fault Refusal :=
  .next (s.serveOps h 0x48#8 1 fun t => t.readTariff target)

/-! ### Conditions (R117, R122, R124) -/

/-- Set Masks (R117). The answer carries the masked conditions as one condition set (log 41). -/
def State.setMasks (s : State) (set : Byte) : State × Answer :=
  match condsOf set with
  | none => s.refuses .format
  | some c => (s.putMasks c, done [.conds c])

/-- SET_MASKS (R117). -/
def execSetMasks (h : Head) (set : Byte) (s : State) : Host.Outcome State Fault Refusal :=
  .next (s.serveOps h 0x49#8 1 fun t => t.setMasks set)

/-- The sticky set, and the first-raised minute of each condition in it (R122, R124). -/
def State.stickyFields (s : State) : List Field :=
  let p := s.tariff.sticky
  .conds s.stickySet :: ([p.clock, p.tariff, p.sat, p.capped, p.round, p.overpaid].filterMap id).map Field.u32

/-- Clear Conditions (R122). -/
def State.clearConditions (s : State) (set : Byte) : State × Answer :=
  match condsOf set with
  | none => s.refuses .format
  | some c => (s.clearSticky c, done (s.clearSticky c).stickyFields)

/-- CLEAR_CONDITIONS (R122). -/
def execClearConditions (h : Head) (set : Byte) (s : State) : Host.Outcome State Fault Refusal :=
  .next (s.serveOps h 0x4A#8 1 fun t => t.clearConditions set)

/-- READ_CONDITIONS: the masks go as one condition set of the masked conditions (R117, R124, R211; the model's choice,
log 41), then the sticky set. -/
def execReadConditions (h : Head) (s : State) : Host.Outcome State Fault Refusal :=
  .next (s.serveOps h 0x4B#8 0 fun t => (t, done (.conds t.tariff.masks :: t.stickyFields)))

end Sys2Proof.Machine
end

