-- ==== Sys2Proof/Machine/ReleaseCommands.lean ====
section
/-! DEFINITION. The operations commands on releases (chapter 8): Service Release, Withdraw Service, Test Pulse, Column
Restore, Set Timing. -/

namespace Sys2Proof.Machine

/-! ### Service Release (R23, R162) -/

/-- Why the custody table refuses a Service Release without clearance, by the custody state (R23). -/
def serviceRefusal : CustodyState → Option Reason
  | .reserved | .loading => some .occupied
  | .releasing | .emptying => some .claimed
  | .notFitted | .free | .held | .overstayed | .returnHeld | .review | .outOfService => none

/-- Why the custody table refuses a Service Release with clearance, by the custody state and whether there is a holding
(R23). -/
def clearanceRefusal (st : CustodyState) (holds : Bool) : Option Reason :=
  match st with
  | .reserved | .loading => some .occupied
  | .releasing | .emptying => some .claimed
  | .free | .notFitted => some .unknown
  | .outOfService => if holds then some .outOfService else some .unknown
  | .review => some .review
  | .held | .overstayed | .returnHeld => none

/-- The custody checks of a Service Release (R23). -/
def State.releaseRefusal (s : State) (c : Comp) (clearance : Bool) : Option Reason :=
  if clearance then clearanceRefusal (s.custodyState c) (s.holding c).isSome
  else serviceRefusal (s.custodyState c)

/-- The clearance claim that goes with a Service Release (R23, R162). -/
def State.clearanceClaim (s : State) (c : Comp) (clearance : Bool) : State :=
  if clearance then s.claim c .service else s

/-- A Service Release is queued: SVC_KEY is on, nothing is pending, and the queue has a free entry (R162 step 7). -/
def State.serviceQueues (s : State) : Bool :=
  s.seq.svcKey && s.seq.pendingService.isEmpty && decide (0 < s.queueFree)

/-- Step 7 of a Service Release: QUEUED, PENDING or QFULL (R162). One that is made pending claims before its entry
joins the set, so its own claim is no change of a compartment with a pending entry and moves nothing (R162, R163; the
model's choice, log 50). -/
def State.serviceTaken (s : State) (c : Comp) (clearance : Bool) : State × Answer :=
  if s.serviceQueues then
    ((s.clearanceClaim c clearance).request (serviceEntry c), accepted [.u8 0])
  else if s.seq.pendingService.length < Config.pendingCap then
    let s1 := s.clearanceClaim c clearance
    (s1.setPending (s1.seq.pendingService ++ [c]), accepted [.u8 1])
  else s.refuses .qfull

/-- A compartment's column is not DISABLED. -/
def State.columnUp (s : State) (c : Comp) : Bool := s.column c.column != .disabled

/-- The compartment has no present entry and no pending service entry (R162, R165). -/
def State.noRelease (s : State) (c : Comp) : Bool := !(s.hasEntry c || s.pendingFor c)

/-- Service Release on a compartment, steps 3 to 7 (R162). -/
def State.serviceRelease (s : State) (clearance : Bool) (c : Comp) : State × Answer :=
  s.check (s.custodyState c != .notFitted) .format <|
  s.check (s.columnUp c) .outOfService <|
    match s.releaseRefusal c clearance with
    | some r => s.refuses r
    | none => s.check (s.noRelease c) .duplicate (s.serviceTaken c clearance)

/-- Service Release after the common checks (R162). -/
def State.serviceReleaseOf (s : State) (comp : Nat) (clearance : Option Bool) : State × Answer :=
  match clearance with
  | none => s.refuses .format
  | some b => s.withComp comp (s.serviceRelease b)

/-- SERVICE_RELEASE (R162). -/
def execServiceRelease (h : Head) (comp : Nat) (clearance : Option Bool) (s : State) :
    Host.Outcome State Fault Refusal :=
  .next (s.serveOps h 0x4C#8 2 fun t => t.guarded (t.serviceReleaseOf comp clearance))

/-! ### Withdraw Service (R164) -/

/-- A pending service entry leaves the set, and a holding claimed by the service release returns to rest (R19, R164). -/
def State.pendingWithdrawn (s : State) (c : Comp) : State :=
  let s1 := s.setPending (s.seq.pendingService.filter (· != c))
  if s1.custodyState c == .releasing && (s1.holding c).any (fun h => h.claimant == some .service) then s1.toRest c
  else s1

/-- The compartment has a present SERVICE entry (R164). -/
def State.hasService (s : State) (c : Comp) : Bool := s.seq.queue.any fun e => e.comp == c && e.cls == .service

/-- Withdraw Service on a compartment (R164). -/
def State.withdrawService (s : State) (c : Comp) : State × Answer :=
  s.guarded <|
  if s.pendingFor c then (s.pendingWithdrawn c, done [])
  else if s.hasService c then s.refuses .occupied
  else s.refuses .unknown

/-- WITHDRAW_SERVICE (R164). -/
def execWithdrawService (h : Head) (comp : Nat) (s : State) : Host.Outcome State Fault Refusal :=
  .next (s.serveOps h 0x4D#8 1 fun t => t.withComp comp t.withdrawService)

/-! ### Test Pulse (R165) -/

/-- The TEST entry of a Test Pulse (R165). -/
def testEntry (c : Comp) : Entry := Entry.fresh c .test .test .operations

/-- Fewer than 16 entries are present (R161, R165). -/
def State.queueRoom (s : State) : Bool := decide (s.seq.queue.length < Config.queueCap)

/-- Test Pulse on a compartment (R165). -/
def State.testPulse (s : State) (c : Comp) : State × Answer :=
  s.check (s.custodyState c != .notFitted) .format <|
  s.check (s.holding c).isNone .occupied <|
  s.check (s.columnUp c) .outOfService <|
  s.check (s.noRelease c) .duplicate <|
  s.check s.queueRoom .qfull (s.request (testEntry c), accepted [])

/-- TEST_PULSE (R165). -/
def execTestPulse (h : Head) (comp : Nat) (s : State) : Host.Outcome State Fault Refusal :=
  .next (s.serveOps h 0x4E#8 1 fun t => t.guarded (t.withComp comp t.testPulse))

/-! ### Column Restore (R161) -/

/-- The queue holds an entry with the restore mark for a column (R161). -/
def State.hasRestore (s : State) (col : Column) : Bool :=
  s.seq.queue.any fun e => e.restore && decide (e.comp.column = col)

/-- A compartment that a Column Restore may test: fitted, and FREE or OUT_OF_SERVICE without a holding (R161). -/
def State.restorable (s : State) (c : Comp) : Bool :=
  (s.entry c).fitted &&
    (s.custodyState c == .free || (s.custodyState c == .outOfService && (s.holding c).isNone))

/-- The lowest-numbered such compartment of a column (R161). -/
def State.restoreComp (s : State) (col : Column) : Option Comp :=
  Comp.all.find? fun c => decide (c.column = col) && s.restorable c

/-- Column Restore on a column (R161). -/
def State.columnRestoreOn (s : State) (col : Column) : State × Answer :=
  s.check (s.column col == .disabled) .notReady <|
  s.check (!(s.hasRestore col)) .duplicate <|
    match s.restoreComp col with
    | none => s.refuses .unknown
    | some c => s.check s.queueRoom .qfull (s.request { testEntry c with restore := true }, accepted [.u8 c.val])

/-- Column Restore after the common checks (R161). -/
def State.columnRestore (s : State) (column : Nat) : State × Answer :=
  match columnOf column with
  | none => s.refuses .format
  | some col => s.columnRestoreOn col

/-- COLUMN_RESTORE (R161). -/
def execColumnRestore (h : Head) (column : Nat) (s : State) : Host.Outcome State Fault Refusal :=
  .next (s.serveOps h 0x4F#8 1 fun t => t.guarded (t.columnRestore column))

/-! ### Set Timing (R166, R183) -/

/-- The coil budget as a Set Timing would store it (R166). -/
def budgetWritten (sel : BitVec 16) (v : TimingFields) (old : Nat) : Nat := pick sel 1 (clampRange 1 3 v.budget) old

/-- The four settings as a Set Timing writes them (R166, R183). -/
def State.timed (s : State) (sel : BitVec 16) (v : TimingFields) : State :=
  { s with
    seq := { s.seq with
      pulseLength := pick sel 0 (clampRange 80 300 v.pulseLength) s.seq.pulseLength
      budget := budgetWritten sel v s.seq.budget }
    scanner := { s.scanner with
      openWindow := pick sel 2 (clampRange 5 60 v.openWindow) s.scanner.openWindow
      ajarTime := pick sel 3 (clampRange 30 600 v.ajarTime) s.scanner.ajarTime } }

/-- The four settings as they stand (R166). -/
def State.timingFields (s : State) : List Field :=
  [.u16 s.seq.pulseLength, .u8 s.seq.budget, .u8 s.scanner.openWindow, .u16 s.scanner.ajarTime]

/-- Set Timing (R166): the arbiter looks after it, since a budget raised can make an entry eligible (R155, R167). -/
def State.setTiming (s : State) (sel : BitVec 16) (v : TimingFields) : State × Answer :=
  s.check (selectsOnly sel 4) .format <|
  s.check (!(sel.getLsbD 1 && decide (clampRange 1 3 v.budget < s.flying.length))) .occupied
    ((s.timed sel v).markArbiter, done (s.timed sel v).timingFields)

/-- SET_TIMING (R166). -/
def execSetTiming (h : Head) (sel : BitVec 16) (v : TimingFields) (s : State) : Host.Outcome State Fault Refusal :=
  .next (s.serveOps h 0x50#8 8 fun t => t.setTiming sel v)

end Sys2Proof.Machine
end

