-- ==== Sys2Proof/Machine/ReadCommands.lean ====
section
/-! DEFINITION. The operations reads (R144, R209, R210): Read Compartment, Read Consignment, Read Charge, the four parts
of Read Queue, Read Clock. Each is taken in every state of the part and changes no state. A list of records is sent as
its length and then its records (log 17). -/

namespace Sys2Proof.Machine

/-! ### Read Compartment (R186, R209) -/

/-- The origin of a holding: a manifest slot 0 to 31, or 32 for CONSOLE (R5; log 17). -/
def originField : Origin → Field
  | .slot n => .u8 n.val
  | .console => .u8 32

/-- The fields of a holding, in the order of R5. The rest state and the claimant are optional fields, each with its
presence byte; positions count the values of a set without absent, which is none of them (R211; log 17). -/
def Holding.fields (h : Holding) : List Field :=
  [.u8 h.record.val, .parcel h.parcelRef, .u8 h.size.ctorIdx, .u8 h.tariffClass.val, .opt32 h.depositMinute,
    .opt8 (h.rest.map fun r => r.ctorIdx), .opt8 (h.claimant.map fun k => k.ctorIdx),
    originField h.origin, .u8 h.causes.length] ++
    (h.causes.map fun k => Field.u8 k.ctorIdx) ++ [.mark h.releaseInterrupted, .mark h.collectIncomplete]

/-- The bytes of a holding without review causes: its fields are sent as this many bytes of 0 when it is absent (R211;
log 17). -/
def holdingWidth : Nat := 37

/-- The fields of a compartment entry, in the order of R1. The out-of-service cause is an optional field with its
presence byte; the presence of the holding stands before the holding, and an absent holding's bytes are sent as 0 (R211;
log 17). -/
def CompartmentEntry.fields (e : CompartmentEntry) : List Field :=
  [.mark e.fitted, .u8 e.size.ctorIdx, .u8 e.use.ctorIdx, .u8 e.state.ctorIdx,
    .opt8 (e.cause.map fun k => k.ctorIdx), .presence e.holding.isSome] ++
    e.holding.elim [.blank holdingWidth] Holding.fields

/-- The release class of a RELEASED door (R186). -/
def Door.releaseClass : Door → Option ReleaseClass
  | .released cls _ => some cls
  | .shut | .opened _ _ _ | .ajar _ _ | .forced _ => none

/-- The opening kind of an OPEN or AJAR door (R186). -/
def Door.openingKind : Door → Option ReleaseClass
  | .opened k _ _ | .ajar k _ => k
  | .shut | .released _ _ | .forced _ => none

/-- The open window remaining, in seconds rounded up (R186). -/
def Door.windowSeconds : Door → Option Nat
  | .released _ left => some (secondsUp left)
  | .shut | .opened _ _ _ | .ajar _ _ | .forced _ => none

/-- The ajar time remaining, in seconds rounded up (R186). -/
def Door.ajarSeconds : Door → Option Nat
  | .opened _ left _ => some (secondsUp left)
  | .shut | .released _ _ | .ajar _ _ | .forced _ => none

/-- The first sample of a pending closure (R186). -/
def Door.firstSample : Door → Option Presence
  | .opened _ _ p | .ajar _ p | .forced p => p
  | .shut | .released _ _ => none

/-- The scanner's record of a compartment (R186). -/
def doorFields (d : Option Door) : List Field :=
  [.opt8 (d.map fun x => x.ctorIdx), .opt8 ((d.bind Door.releaseClass).map fun k => k.ctorIdx),
    .opt8 ((d.bind Door.openingKind).map fun k => k.ctorIdx), .opt8 (d.bind Door.windowSeconds),
    .opt16 (d.bind Door.ajarSeconds), .opt8 ((d.bind Door.firstSample).map fun p => p.ctorIdx)]

/-- Read Compartment on a compartment (R209). -/
def State.compFields (s : State) (c : Comp) : List Field :=
  (s.entry c).fields ++ doorFields (s.door c) ++
    [.mark (s.scanner.owed.get c.column), .mark (s.hasEntry c), .mark (s.pendingFor c)]

/-- READ_COMPARTMENT (R209). -/
def execReadCompartment (h : Head) (comp : Nat) (s : State) : Host.Outcome State Fault Refusal :=
  .next (s.serveOps h 0x51#8 1 fun t => t.withComp comp fun c => (t, done (t.compFields c)))

/-! ### Read Consignment (R209) -/

/-- The fields of a consignment record, in the order of R9. -/
def Consignment.fields (n : RecordNo) (k : Consignment) : List Field :=
  [.u8 n.val, .optCode k.code, .u8 k.kind.ctorIdx, .u8 k.carrier.val, .comps k.pieces, .u32 k.cod, .u32 k.laneO,
    .u32 k.laneK, .u32 k.paidO, .u32 k.paidK, .opt32 k.paidThrough, .mark k.waived, .optRef k.openRef]

/-- Read Consignment: FORMAT above 143, UNKNOWN when the number is not in use (R209). -/
def State.readConsignment (s : State) (record : Nat) : State × Answer :=
  match recordOf record with
  | none => s.refuses .format
  | some n =>
    match s.record n with
    | none => s.refuses .unknown
    | some k => (s, done (k.fields n))

/-- READ_CONSIGNMENT (R209). -/
def execReadConsignment (h : Head) (record : Nat) (s : State) : Host.Outcome State Fault Refusal :=
  .next (s.serveOps h 0x52#8 1 fun t => t.readConsignment record)

/-! ### Read Charge (R144) -/

/-- The position of a slot in the ended list, counted from 0 (R125, R128, R144; the model's choice, log 42). -/
def State.endedPosition (s : State) (i : ChargeSlot) : Option Nat := s.charges.ended.findIdx? fun j => j == i

/-- The fields of a charge record, in the order of R125 (R144). The end cause is an optional field: its presence byte,
and then its position among the causes of R127, MISMATCH first, with absent none of them (R125, R127, R211; the model's
choice, log 17). -/
def State.chargeFields (s : State) (i : ChargeSlot) : List Field :=
  let r := s.charge i
  [.u8 i.val, .u8 (s.charges.gens.get i), .u8 r.state.ctorIdx, .opt8 (r.record.map fun n => n.val), .u32 r.laneO,
    .u32 r.laneK, .u32 r.creation, .u8 (secondsUp r.expiry), .opt32 r.paymentMinute,
    .opt8 (r.cause.map fun c => c.ctorIdx), .opt8 (s.endedPosition i)]

/-- Read Charge: FORMAT above 7 (R144). -/
def State.readCharge (s : State) (slot : Nat) : State × Answer :=
  match chargeSlotOf slot with
  | none => s.refuses .format
  | some i => (s, done (s.chargeFields i))

/-- READ_CHARGE (R144). -/
def execReadCharge (h : Head) (slot : Nat) (s : State) : Host.Outcome State Fault Refusal :=
  .next (s.serveOps h 0x53#8 1 fun t => t.readCharge slot)

/-! ### Read Queue (R210) -/

/-- A part of Read Queue: FORMAT where the frame names no part (R210). -/
def State.readPart (s : State) (partOk : Bool) (fields : List Field) : State × Answer :=
  s.check partOk .format (s, done fields)

/-- The place of an origin among console, courier, operations (R145). -/
def originPosition : Role → Nat
  | .console => 0
  | .courier => 1
  | .operations => 2
  | .payment => 3

/-- The fields of a release queue entry, in the order of R145. -/
def Entry.fields (e : Entry) : List Field :=
  [.u8 e.comp.val, .u8 e.cls.ctorIdx, .u8 e.purpose.ctorIdx, .u8 (originPosition e.origin), .u8 e.attempt,
    .u8 e.passOver, .mark e.restore, .mark e.inFlight]

/-- The fields of a flight record entry (R168). -/
def FlightEntry.fields (f : FlightEntry) : List Field := [.u8 f.comp.val, .u8 f.purpose.ctorIdx]

/-- The part QUEUE (R210). The entries of the flight record, to which R168 and R210 give no order, are sent in the
order in which they were taken (the model's choice, log 56). -/
def State.queueFields (s : State) : List Field :=
  [.u8 s.seq.queue.length] ++ s.seq.queue.flatMap Entry.fields ++
    (s.seq.columns.toList.map fun c => Field.u8 c.ctorIdx) ++
    [.u8 s.seq.budget, .u16 s.seq.pulseLength, .mark s.seq.svcKey, .comps s.seq.pendingService,
      .u8 s.seq.flight.length] ++
    s.seq.flight.flatMap FlightEntry.fields

/-- READ_QUEUE_QUEUE (R210). -/
def execReadQueueQueue (h : Head) (partOk : Bool) (s : State) : Host.Outcome State Fault Refusal :=
  .next (s.serveOps h 0x54#8 2 fun t => t.readPart partOk t.queueFields)

/-- The progress of a window record, by its position among the two values of R78, STARTED and COMPLETE, and not among
those of Slot Read (R69; the model's choice, log 58). -/
def WindowRecord.progressField (r : WindowRecord) : Field := .u8 (if r.isStarted then 0 else 1)

/-- The fields of a window record (R78, R210). -/
def WindowRecord.fields (r : WindowRecord) : List Field :=
  [.u8 r.slot.val, .u8 r.kind.ctorIdx, r.progressField, .opt8 (r.outcome.map fun st => st.ctorIdx),
    .opt8 (r.carrier.map fun i => i.val), .opt8 (r.comp.map fun c => c.val), .optCode r.code,
    .opt32 r.depositMinute, .mark r.codClamped] ++
    (if r.kind = .pickup then [.u8 r.claimed, .u8 r.retrieved, .u8 r.notOpened] else [])

/-- The part ENGINE (R210). -/
def State.engineFields (s : State) : List Field :=
  [.u8 s.engine.state.ctorIdx, .u8 s.engine.pointer.val, .u8 s.engine.window.length] ++
    s.engine.window.flatMap WindowRecord.fields

/-- READ_QUEUE_ENGINE (R210). -/
def execReadQueueEngine (h : Head) (partOk : Bool) (s : State) : Host.Outcome State Fault Refusal :=
  .next (s.serveOps h 0x54#8 2 fun t => t.readPart partOk t.engineFields)

/-- The STARTED PICKUP of a window slot (R210). -/
def State.pickupAt (s : State) (slot : Nat) : Option WindowRecord :=
  s.engine.window.find? fun r => r.slot.val == slot && r.isStarted && r.kind == .pickup

/-- The part PICKUP: UNKNOWN for a slot that holds no STARTED PICKUP (R210). -/
def State.readPickup (s : State) (partOk : Bool) (slot : Nat) : State × Answer :=
  s.check partOk .format <|
  match s.pickupAt slot with
  | none => s.refuses .unknown
  | some r => (s, done [.compMap r.outstanding, .compMap r.waiting])

/-- READ_QUEUE_PICKUP (R210). -/
def execReadQueuePickup (h : Head) (partOk : Bool) (slot : Nat) (s : State) : Host.Outcome State Fault Refusal :=
  .next (s.serveOps h 0x54#8 2 fun t => t.readPickup partOk slot)

/-- The part LISTS (R210). -/
def State.listFields (s : State) : List Field :=
  [.u8 s.paidReturns.length] ++ (s.paidReturns.map fun n => Field.u8 n.val) ++ [.u8 s.charges.ended.length] ++
    (s.charges.ended.map fun i => Field.u8 i.val)

/-- READ_QUEUE_LISTS (R210). -/
def execReadQueueLists (h : Head) (partOk : Bool) (s : State) : Host.Outcome State Fault Refusal :=
  .next (s.serveOps h 0x54#8 2 fun t => t.readPart partOk t.listFields)

/-! ### Read Clock (R209) -/

/-- What Read Clock returns (R209). The sub-minute count takes four bytes (R204, R209, R211; the model's choice, log
51). -/
def State.clockFields (s : State) : List Field :=
  [.u32 s.clock.minute, .u32 s.clock.subMinute, .mark s.power.restoring, .mark s.anyFitted,
    .u8 s.power.lastStart.ctorIdx]

/-- READ_CLOCK (R209). -/
def execReadClock (h : Head) (s : State) : Host.Outcome State Fault Refusal :=
  .next (s.serveOps h 0x55#8 0 fun t => (t, done t.clockFields))

end Sys2Proof.Machine
end

