-- ==== Sys2Proof/Machine/TimerCommands.lean ====
section
/-! DEFINITION. The ends of timers and the steps of the sweep (R35, R138, R172, R173, R176, R179). A timer's end acts on
a timer that runs, whatever time the model still counts on it (log 4); one that is not running is left (log 5). -/

namespace Sys2Proof.Machine

/-! ### Charge expiry (R138) -/

/-- The notice detail of a live charge's state (R138). -/
def liveDetail : ChargeState → Detail
  | .presented => .presented
  | .opened | .free | .paid | .declined | .expired | .void => .opened

/-- The CHARGE_EXPIRED notice of a charge, with the state it had and its consignment's code for a delivery (R138). -/
def State.expiredNotice (s : State) (i : ChargeSlot) : Notice :=
  { (s.noteCharge .chargeExpired i).withDetail (liveDetail (s.charge i).state) with
    cons := (((s.charge i).record.bind s.record).bind fun k => k.code).map ConsForm.code }

/-- A live charge expires: it becomes EXPIRED, the console and payment ports are told, and a return's reservation is
dropped (R45, R138). -/
def State.expireCharge (s : State) (i : ChargeSlot) : State :=
  if (s.charge i).state.isLive then
    ((s.endCharge i .expired none none).postBoth .console .payment (s.expiredNotice i)).dropForCharge (s.charge i)
      .expired
  else s

/-- CHARGE_EXPIRY (R138). -/
def execChargeExpiry (i : ChargeSlot) (s : State) : Host.Outcome State Fault Refusal :=
  .next (s.event fun t => t.expireCharge i)

/-! ### The lockout (R35) -/

/-- The lockout timer ends: the limiter is unlocked and its count becomes 0 (R35). -/
def State.lockoutEnds (s : State) : State :=
  match s.limiter.lockout with
  | some _ => { s with limiter := { count := 0, lockout := none } }
  | none => s

/-- LOCKOUT_END (R35). -/
def execLockoutEnd (s : State) : Host.Outcome State Fault Refusal := .next (s.event State.lockoutEnds)

/-! ### The sweep (R172, R173) -/

/-- SWEEP_START (R172). -/
def execSweepStart (s : State) : Host.Outcome State Fault Refusal := .next (s.event State.sweepBegin)

/-- SWEEP_COLUMN_STEP (R173). -/
def execSweepColumnStep (sense : Sense) (s : State) : Host.Outcome State Fault Refusal :=
  .next (s.event fun t => (t.latch sense).sweepStep)

/-! ### Door timers (R176, R179) -/

/-- OPEN_WINDOW_END (R176). -/
def execOpenWindowEnd (c : Comp) (s : State) : Host.Outcome State Fault Refusal := .next (s.event fun t => t.windowEnds c)

/-- AJAR_TIMER_END (R179). -/
def execAjarTimerEnd (c : Comp) (s : State) : Host.Outcome State Fault Refusal := .next (s.event fun t => t.ajarEnds c)

end Sys2Proof.Machine
end

