-- ==== Sys2Proof/Machine/Dispatch.lean ====
section
/-! DEFINITION. The meaning of every command, one arm a constructor. -/

namespace Sys2Proof.Machine

/-- The effect of a command on everything but the queue of waiting commands. -/
def exec (i : Instr) (s : State) : Host.Outcome State Fault Refusal :=
  match i with
  -- every port (chapter 11)
  | .readNotice h => Sys2Proof.Machine.execReadNotice h s
  | .portReset h sense => Sys2Proof.Machine.execPortReset h sense s
  -- console (chapters 2 and 7)
  | .lookup h code => Sys2Proof.Machine.execLookup h code s
  | .quote h code => Sys2Proof.Machine.execQuote h code s
  | .voidQuote h slot gen => Sys2Proof.Machine.execVoidQuote h slot gen s
  | .collect h code => Sys2Proof.Machine.execCollect h code s
  | .returnBegin h carrierId size parcelRef => Sys2Proof.Machine.execReturnBegin h carrierId size parcelRef s
  | .returnCancel h record sense => Sys2Proof.Machine.execReturnCancel h record sense s
  | .releaseCharge h slot gen => Sys2Proof.Machine.execReleaseCharge h slot gen s
  -- courier (chapter 4)
  | .slotWrite h slot fields => Sys2Proof.Machine.execSlotWrite h slot fields s
  | .slotRead h slot => Sys2Proof.Machine.execSlotRead h slot s
  | .handOver h first count => Sys2Proof.Machine.execHandOver h first count s
  | .start h slot => Sys2Proof.Machine.execStart h slot s
  | .resume h => Sys2Proof.Machine.execResume h s
  | .stop h sense => Sys2Proof.Machine.execStop h sense s
  -- payment (chapter 7)
  | .fetchCharge h ref => Sys2Proof.Machine.execFetchCharge h ref s
  | .paymentResult h slot gen outcome amountO amountK => Sys2Proof.Machine.execPaymentResult h slot gen outcome amountO amountK s
  -- operations on custody (chapter 1)
  | .setCompartment h comp fitted size use => Sys2Proof.Machine.execSetCompartment h comp fitted size use s
  | .withholdToReview h targetOk comp => Sys2Proof.Machine.execWithholdToReview h targetOk comp s
  | .withholdToOutOfService h targetOk comp => Sys2Proof.Machine.execWithholdToOutOfService h targetOk comp s
  | .resolveReviewRestore h actionOk comp => Sys2Proof.Machine.execResolveReviewRestore h actionOk comp s
  | .resolveReviewWaive h actionOk comp => Sys2Proof.Machine.execResolveReviewWaive h actionOk comp s
  | .resolveReviewRetire h actionOk comp => Sys2Proof.Machine.execResolveReviewRetire h actionOk comp s
  | .resolveReviewWithdraw h actionOk comp => Sys2Proof.Machine.execResolveReviewWithdraw h actionOk comp s
  | .returnToService h comp => Sys2Proof.Machine.execReturnToService h comp s
  | .amendHolding h comp sel v => Sys2Proof.Machine.execAmendHolding h comp sel v s
  -- operations on settings (chapters 3, 5, 6, 8)
  | .setCarrier h index sel v => Sys2Proof.Machine.execSetCarrier h index sel v s
  | .readCarrier h index => Sys2Proof.Machine.execReadCarrier h index s
  | .setTariff h target sel cls bank => Sys2Proof.Machine.execSetTariff h target sel cls bank s
  | .readTariff h target => Sys2Proof.Machine.execReadTariff h target s
  | .setMasks h set => Sys2Proof.Machine.execSetMasks h set s
  | .clearConditions h set => Sys2Proof.Machine.execClearConditions h set s
  | .readConditions h => Sys2Proof.Machine.execReadConditions h s
  -- operations on releases (chapter 8)
  | .serviceRelease h comp clearance => Sys2Proof.Machine.execServiceRelease h comp clearance s
  | .withdrawService h comp => Sys2Proof.Machine.execWithdrawService h comp s
  | .testPulse h comp => Sys2Proof.Machine.execTestPulse h comp s
  | .columnRestore h column => Sys2Proof.Machine.execColumnRestore h column s
  | .setTiming h sel v => Sys2Proof.Machine.execSetTiming h sel v s
  -- operations reads (chapters 7 and 11)
  | .readCompartment h comp => Sys2Proof.Machine.execReadCompartment h comp s
  | .readConsignment h record => Sys2Proof.Machine.execReadConsignment h record s
  | .readCharge h slot => Sys2Proof.Machine.execReadCharge h slot s
  | .readQueueQueue h partOk => Sys2Proof.Machine.execReadQueueQueue h partOk s
  | .readQueueEngine h partOk => Sys2Proof.Machine.execReadQueueEngine h partOk s
  | .readQueuePickup h partOk slot => Sys2Proof.Machine.execReadQueuePickup h partOk slot s
  | .readQueueLists h partOk => Sys2Proof.Machine.execReadQueueLists h partOk s
  | .readClock h => Sys2Proof.Machine.execReadClock h s
  -- the port units (chapter 11)
  | .unknownRequestCode h code => Sys2Proof.Machine.execUnknownRequestCode h code s
  | .frameDiscarded port => Sys2Proof.Machine.execFrameDiscarded port s
  | .frameGapTimeout port => Sys2Proof.Machine.execFrameGapTimeout port s
  | .responseSent port => Sys2Proof.Machine.execResponseSent port s
  -- the sequencer (chapter 8)
  | .armingEnd column => Sys2Proof.Machine.execArmingEnd column s
  | .pulseGood column sense => Sys2Proof.Machine.execPulseGood column sense s
  | .pulseOpenCoil column sense => Sys2Proof.Machine.execPulseOpenCoil column sense s
  | .pulseShort column sense => Sys2Proof.Machine.execPulseShort column sense s
  | .testPulseEnd column outcome sense => Sys2Proof.Machine.execTestPulseEnd column outcome sense s
  | .runWindowEnd column sense => Sys2Proof.Machine.execRunWindowEnd column sense s
  | .recoveringEnd column => Sys2Proof.Machine.execRecoveringEnd column s
  | .svcKeyOn => Sys2Proof.Machine.execSvcKeyOn s
  | .svcKeyOff => Sys2Proof.Machine.execSvcKeyOff s
  -- power (chapter 10)
  | .pfailAssert => Sys2Proof.Machine.execPfailAssert s
  | .pfailNegate straps => Sys2Proof.Machine.execPfailNegate straps s
  | .mainsFall => Sys2Proof.Machine.execMainsFall s
  | .mainsReturn straps => Sys2Proof.Machine.execMainsReturn straps s
  | .resetAssert => Sys2Proof.Machine.execResetAssert s
  | .resetRelease straps => Sys2Proof.Machine.execResetRelease straps s
  | .retentionLoss => Sys2Proof.Machine.execRetentionLoss s
  | .custodyTick => Sys2Proof.Machine.execCustodyTick s
  -- timers and the scanner (chapters 2, 7, 9)
  | .chargeExpiry slot => Sys2Proof.Machine.execChargeExpiry slot s
  | .lockoutEnd => Sys2Proof.Machine.execLockoutEnd s
  | .sweepStart => Sys2Proof.Machine.execSweepStart s
  | .sweepColumnStep sense => Sys2Proof.Machine.execSweepColumnStep sense s
  | .openWindowEnd comp => Sys2Proof.Machine.execOpenWindowEnd comp s
  | .ajarTimerEnd comp => Sys2Proof.Machine.execAjarTimerEnd comp s

end Sys2Proof.Machine
end

