-- ==== Sys2Proof/Machine/Tick.lean ====
section
/-! DEFINITION. What the passing of one crystal cycle does to a part that waits: the sub-minute count, the second count
and every running timer move on. No timer ends by it: the end of a timer is a command of its own (log 4). -/

namespace Sys2Proof.Machine

/-- A running timer after one cycle; it stands at its last unit until its end is taken (log 4). -/
def down (left : Nat) : Nat := if left = 0 then 0 else max 1 (left - unitsPerCycle)

/-- A run window after one cycle; 0 says that its 600 ms have passed (R151). -/
def runDown (run : Nat) : Nat := run - unitsPerCycle

/-- The custody clock after one cycle. The count stands at its last value until CUSTODY_TICK is taken, except at the
last custody minute, where it goes on turning (R189; log 4). -/
def Clock.cycle (k : Clock) : Clock :=
  if k.subMinute + 1 < Config.subMinutes then { k with subMinute := k.subMinute + 1 }
  else if k.minute = maxWord then { k with subMinute := 0 }
  else k

/-- A charge's expiry timer after one cycle (R138). -/
def ChargeRecord.cycle (r : ChargeRecord) : ChargeRecord := { r with expiry := down r.expiry }

/-- The charge table after one cycle: its second count advances at each second, and wraps past its range (R125; log
18). -/
def ChargeTable.cycle (t : ChargeTable) : ChargeTable :=
  let recs := t.recs.map ChargeRecord.cycle
  if t.subSecond + 1 < 32768 then { t with recs := recs, subSecond := t.subSecond + 1 }
  else { t with recs := recs, subSecond := 0, second := (t.second + 1) % 4294967296 }

/-- A column's timers after one cycle (R150 to R152). -/
def ColumnState.cycle : ColumnState → ColumnState
  | .arming left => .arming (down left)
  | .armed run => .armed (runDown run)
  | .pulsing run left => .pulsing (runDown run) (down left)
  | .recovering left => .recovering (down left)
  | .idle => .idle
  | .disabled => .disabled

/-- A door's timer after one cycle (R176, R179). -/
def Door.cycle : Door → Door
  | .released cls left => .released cls (down left)
  | .opened k left closing => .opened k (down left) closing
  | .shut => .shut
  | .ajar k closing => .ajar k closing
  | .forced closing => .forced closing

/-- The ajar timer that runs from a baseline read, after one cycle (R184). -/
def BaselineSample.cycle (b : BaselineSample) : BaselineSample := { b with ajar := down b.ajar }

/-- The scanner's timers after one cycle (R172). -/
def Scanner.cycle (x : Scanner) : Scanner :=
  { x with
    doors := x.doors.map fun d => d.map Door.cycle
    baseline := x.baseline.map fun b => b.map BaselineSample.cycle
    sweepLeft := down x.sweepLeft
    stepLeft := down x.stepLeft }

/-- The mains domain after one cycle. -/
def State.mainsCycle (s : State) : State :=
  { s with
    charges := s.charges.cycle
    seq := { s.seq with columns := s.seq.columns.map ColumnState.cycle }
    scanner := s.scanner.cycle
    limiter := { s.limiter with lockout := s.limiter.lockout.map down } }

/-- The machine after one crystal cycle in which no command waits (R189; log 4). -/
def State.tick (s : State) : State :=
  let s1 := { s with clock := s.clock.cycle }
  if s1.power.running then s1.mainsCycle else s1

end Sys2Proof.Machine
end

