-- ==== Sys2Proof/Machine/Frames.lean ====
section
/-! DEFINITION. The frames on the serial lines: the form of a byte (R200), the CRC (R201), the reading of a request frame
into the command it carries (R201, R212), and the encoding of responses, notices, descriptor slots and consignment summaries
(R204, R211).
An enumerated field carries the position of its value, which is the place of its constructor (log 17). -/

namespace Sys2Proof.Machine

/-! ### A byte on the line (R200) -/

/-- The number whose bits are these, the first the least significant. -/
def byteOfBits (bits : List Bool) : Byte := BitVec.ofNat 8 (bits.foldr (fun b n => 2 * n + b.toNat) 0)

/-- The data bits of a byte in the order in which a line carries them, the least significant first (R200). -/
def dataBits (b : Byte) : List Bool := (List.range 8).map b.getLsbD

/-- The levels of a byte on a line, one for each bit time: a start bit, the 8 data bits, no parity, a stop bit (R200). A
line rests high, so the start bit is low and the stop bit high, and a data bit is high when it is 1 (log 54). -/
def byteLevels (b : Byte) : List Bool := false :: (dataBits b ++ [true])

/-- What the levels of a line spell, one for each bit time: a high level outside a byte is rest, a low one is the
start bit of a byte, and a byte is none where its stop bit is missing (R200, R201). A byte whose levels are not all
there spells nothing (log 54). -/
def lineBytes : List Bool → List (Option Byte)
  | true :: t => lineBytes t
  | false :: b0 :: b1 :: b2 :: b3 :: b4 :: b5 :: b6 :: b7 :: stop :: t =>
    (if stop then some (byteOfBits [b0, b1, b2, b3, b4, b5, b6, b7]) else none) :: lineBytes t
  | _ => []

/-! ### The CRC (R201) -/

/-- One bit of the CRC-16 with generator polynomial 1021h, most significant bit first. -/
def crcBit (crc : BitVec 16) : BitVec 16 := if crc.msb then (crc <<< 1) ^^^ 0x1021#16 else crc <<< 1

/-- One byte of the CRC-16. -/
def crcByte (crc : BitVec 16) (b : Byte) : BitVec 16 :=
  (List.range 8).foldl (fun c _ => crcBit c) (crc ^^^ ((b.setWidth 16) <<< 8))

/-- The CRC-16 of a frame's length, sequence, code and payload bytes: initial value FFFFh, no final inversion. -/
def crc16 (bytes : List Byte) : BitVec 16 := bytes.foldl crcByte 0xFFFF#16

/-- The two CRC bytes, high byte first. -/
def crcBytes (bytes : List Byte) : List Byte :=
  [((crc16 bytes) >>> 8).setWidth 8, (crc16 bytes).setWidth 8]

/-- A whole frame: sync, length, sequence, code, payload, CRC (R201, R211). -/
def frame (seq code : Byte) (payload : List Byte) : List Byte :=
  let body := [BitVec.ofNat 8 payload.length, seq, code] ++ payload
  0x5A#8 :: (body ++ crcBytes body)

/-! ### Reading a payload (R211, R212) -/

/-- The byte at an offset. -/
def byteAt (p : List Byte) (i : Nat) : Byte := p.getD i 0

/-- The one-byte number at an offset. -/
def num8 (p : List Byte) (i : Nat) : Nat := (byteAt p i).toNat

/-- The two-byte number at an offset, high byte first. -/
def num16 (p : List Byte) (i : Nat) : Nat := num8 p i * 256 + num8 p (i + 1)

/-- The four-byte number at an offset, high byte first. -/
def num32 (p : List Byte) (i : Nat) : Nat := num16 p i * 65536 + num16 p (i + 2)

/-- The field-select set at an offset. -/
def selAt (p : List Byte) (i : Nat) : BitVec 16 := BitVec.ofNat 16 (num16 p i)

/-- n bytes from an offset. -/
def textAt (p : List Byte) (i n : Nat) : Text := (List.range n).map fun k => byteAt p (i + k)

/-- The parcel reference at an offset: a length byte and 20 bytes. A length above 20 gives 21 characters, which no
field can hold. -/
def parcelAt (p : List Byte) (i : Nat) : Text :=
  if num8 p i ≤ 20 then textAt p (i + 1) (num8 p i) else textAt p (i + 1) 20 ++ [0]

/-- The value at a position of a list of values, counted from 0; none outside it (R211). -/
def enumAt {α : Type} (l : List α) (p : List Byte) (i : Nat) : Option α := l[num8 p i]?

/-- The size classes in order. -/
def sizeList : List SizeClass := [.s, .m, .l, .xl]

/-- yes and no, set and clear, in the order in which the manual gives them (R1, R5; log 17). -/
def yesNo : List Bool := [true, false]

/-- The descriptor slot bytes 0 to 41 from an offset (R211). Flag bits 4 to 7 and presence bit 7, to which R211 gives
no field, are not read, as flag bit 3 and presence bits 3 to 6 are not (R68, R211; the model's choice, log 55). -/
def slotFieldsAt (p : List Byte) (i : Nat) : SlotFields :=
  let flags := byteAt p (i + 2)
  let present := byteAt p (i + 3)
  { kind := enumAt [.drop, .recall, .pickup] p (i + 1)
    first := flags.getLsbD 0
    last := flags.getLsbD 1
    notify := flags.getLsbD 2
    carrierId := num32 p (i + 4)
    parcelRef := parcelAt p (i + 8)
    size := enumAt sizeList p (i + 29)
    cod := if present.getLsbD 1 then some (num32 p (i + 30)) else none
    code := if present.getLsbD 2 then some (textAt p (i + 34) 8) else none }

/-- The values of Amend Holding from an offset (R212). -/
def amendAt (p : List Byte) (i : Nat) : AmendFields :=
  { parcelRef := parcelAt p i, tariffClass := num8 p (i + 21), depositMinute := num32 p (i + 22)
    rest := enumAt [.held, .overstayed, .returnHeld] p (i + 26), cod := num32 p (i + 27) }

/-- The values of Set Carrier from an offset (R212). -/
def carrierFieldsAt (p : List Byte) (i : Nat) : CarrierFields :=
  { id := num32 p i, enabled := enumAt yesNo p (i + 4), rights := byteAt p (i + 5), sizes := byteAt p (i + 6)
    tariffClass := num8 p (i + 7), mode := enumAt [.prepaid, .split, .carrierFull] p (i + 8), quota := num8 p (i + 9) }

/-- The class values of Set Tariff from an offset (R212). -/
def classValuesAt (p : List Byte) (i : Nat) : ClassValues :=
  { f := num16 p i, u := num8 p (i + 2), b := num8 p (i + 3), r1 := num16 p (i + 4), r2 := num16 p (i + 6)
    c := num32 p (i + 8), l := num16 p (i + 12) }

/-- The BANK values of Set Tariff from an offset (R212). -/
def bankValuesAt (p : List Byte) (i : Nat) : BankValues :=
  { mult := ⟨num8 p i, num8 p (i + 1), num8 p (i + 2), num8 p (i + 3)⟩
    fee := ⟨num32 p (i + 4), num32 p (i + 8), num32 p (i + 12), num32 p (i + 16)⟩
    rounding := enumAt [.nearestEven, .down, .up] p (i + 20), grace := num8 p (i + 21) }

/-- The command of a Withhold Compartment frame, by its target: REVIEW, OUT_OF_SERVICE. -/
def withholdOf (h : Head) (p : List Byte) : Instr :=
  match num8 p 1 with
  | 0 => .withholdToReview h true (num8 p 0)
  | 1 => .withholdToOutOfService h true (num8 p 0)
  | _ => .withholdToReview h false (num8 p 0)

/-- The command of a Resolve Review frame, by its action: RESTORE, WAIVE, RETIRE, WITHDRAW. -/
def resolveOf (h : Head) (p : List Byte) : Instr :=
  match num8 p 1 with
  | 0 => .resolveReviewRestore h true (num8 p 0)
  | 1 => .resolveReviewWaive h true (num8 p 0)
  | 2 => .resolveReviewRetire h true (num8 p 0)
  | 3 => .resolveReviewWithdraw h true (num8 p 0)
  | _ => .resolveReviewRestore h false (num8 p 0)

/-- The command of a Read Queue frame, by its part: QUEUE, ENGINE, PICKUP, LISTS. -/
def readQueueOf (h : Head) (p : List Byte) : Instr :=
  match num8 p 0 with
  | 0 => .readQueueQueue h true
  | 1 => .readQueueEngine h true
  | 2 => .readQueuePickup h true (num8 p 1)
  | 3 => .readQueueLists h true
  | _ => .readQueueQueue h false

/-- The command of a console request code (R212). -/
def consoleRequest (h : Head) (p : List Byte) (sense : Sense) : Nat → Option Instr
  | 0x10 => some (.lookup h (textAt p 0 8))
  | 0x11 => some (.quote h (textAt p 0 8))
  | 0x12 => some (.voidQuote h (num8 p 0) (num8 p 1))
  | 0x13 => some (.collect h (textAt p 0 8))
  | 0x14 => some (.returnBegin h (num32 p 0) (enumAt sizeList p 4) (parcelAt p 5))
  | 0x15 => some (.returnCancel h (num8 p 0) sense)
  | 0x16 => some (.releaseCharge h (num8 p 0) (num8 p 1))
  | _ => none

/-- The command of a courier or payment request code (R212). Of the presence byte of Fetch Charge bit 0 alone is read;
bits 1 to 7, to which R211 and R212 give no field, are ignored (the model's choice, log 55). -/
def workRequest (h : Head) (p : List Byte) (sense : Sense) : Nat → Option Instr
  | 0x20 => some (.slotWrite h (num8 p 0) (slotFieldsAt p 1))
  | 0x21 => some (.slotRead h (num8 p 0))
  | 0x22 => some (.handOver h (num8 p 0) (num8 p 1))
  | 0x23 => some (.start h (num8 p 0))
  | 0x24 => some (.resume h)
  | 0x25 => some (.stop h sense)
  | 0x30 => some (.fetchCharge h (if (byteAt p 0).getLsbD 0 then some (num8 p 1, num8 p 2) else none))
  | 0x31 => some (.paymentResult h (num8 p 0) (num8 p 1) (enumAt [.approved, .declined] p 2) (num32 p 3) (num32 p 7))
  | _ => none

/-- The command of an operations request code (R212). -/
def operationsRequest (h : Head) (p : List Byte) : Nat → Option Instr
  | 0x40 => some (.setCompartment h (num8 p 0) (enumAt yesNo p 1) (enumAt sizeList p 2)
      (enumAt [.any, .deliveryOnly, .returnOnly] p 3))
  | 0x41 => some (withholdOf h p)
  | 0x42 => some (resolveOf h p)
  | 0x43 => some (.returnToService h (num8 p 0))
  | 0x44 => some (.amendHolding h (num8 p 0) (selAt p 1) (amendAt p 3))
  | 0x45 => some (.setCarrier h (num8 p 0) (selAt p 1) (carrierFieldsAt p 3))
  | 0x46 => some (.readCarrier h (num8 p 0))
  | 0x47 => some (.setTariff h (num8 p 0) (selAt p 1) (classValuesAt p 3) (bankValuesAt p 3))
  | 0x48 => some (.readTariff h (num8 p 0))
  | 0x49 => some (.setMasks h (byteAt p 0))
  | 0x4A => some (.clearConditions h (byteAt p 0))
  | 0x4B => some (.readConditions h)
  | 0x4C => some (.serviceRelease h (num8 p 0) (enumAt yesNo p 1))
  | 0x4D => some (.withdrawService h (num8 p 0))
  | 0x4E => some (.testPulse h (num8 p 0))
  | 0x4F => some (.columnRestore h (num8 p 0))
  | 0x50 => some (.setTiming h (selAt p 0)
      { pulseLength := num16 p 2, budget := num8 p 4, openWindow := num8 p 5, ajarTime := num16 p 6 })
  | 0x51 => some (.readCompartment h (num8 p 0))
  | 0x52 => some (.readConsignment h (num8 p 0))
  | 0x53 => some (.readCharge h (num8 p 0))
  | 0x54 => some (readQueueOf h p)
  | 0x55 => some (.readClock h)
  | _ => none

/-- The command that a complete frame's request code and payload spell; a code that names no request gives
UNKNOWN_REQUEST_CODE (R202, R212). A byte missing from a short payload reads as 0: the length check of R202 refuses the
frame before any field of it is read. -/
def requestOf (h : Head) (code : Byte) (p : List Byte) (sense : Sense) : Instr :=
  match code.toNat with
  | 0x01 => .readNotice h
  | 0x02 => .portReset h sense
  | n =>
    match consoleRequest h p sense n, workRequest h p sense n, operationsRequest h p n with
    | some i, _, _ => i
    | none, some i, _ => i
    | none, none, some i => i
    | none, none, none => .unknownRequestCode h code

/-- What a port unit makes of the bytes of one whole frame, sync byte first: its command, or FRAME_DISCARDED when the
CRC differs; none when the bytes are not one whole frame (R201). -/
def readFrame (port : Fin 4) (sense : Sense) : List Byte → Option Instr
  | sync :: len :: seq :: code :: rest =>
    if sync ≠ 0x5A#8 ∨ rest.length ≠ len.toNat + 2 then none
    else
      let payload := rest.take len.toNat
      if rest.drop len.toNat = crcBytes ([len, seq, code] ++ payload) then
        some (requestOf { port := port, seq := seq, len := len.toNat } code payload sense)
      else some (.frameDiscarded port)
  | _ => none

/-! ### Receiving (R201) -/

/-- The number of bytes of the whole frame that a receive buffer has begun, once its length byte has come (R201,
R211). -/
def frameLength : List Byte → Option Nat
  | _ :: len :: _ => some (len.toNat + 6)
  | _ => none

/-- A byte arrives at a port unit. In the hunt state every byte but the sync byte is discarded; inside a frame the byte
joins the buffer, and the last CRC byte completes the frame, whose command is given, and returns the unit to hunting
(R201). -/
def PortUnit.receive (u : PortUnit) (port : Fin 4) (sense : Sense) (b : Byte) : PortUnit × Option Instr :=
  match u.receiving with
  | [] => (if b = 0x5A#8 then { u with receiving := [b] } else u, none)
  | x :: t =>
    let bytes := x :: t ++ [b]
    if frameLength bytes = some bytes.length then ({ u with receiving := [] }, readFrame port sense bytes)
    else ({ u with receiving := bytes }, none)

/-- A byte arrives without its stop bit: a frame begun is discarded, and the unit hunts again (R201). -/
def PortUnit.receiveSpoilt (u : PortUnit) (port : Fin 4) : PortUnit × Option Instr :=
  match u.receiving with
  | [] => (u, none)
  | _ :: _ => ({ u with receiving := [] }, some (.frameDiscarded port))

/-- A port's line brings one byte, or a byte without its stop bit (none). The command of a frame it completes, or its
FRAME_DISCARDED, joins the commands that wait. Nothing is received while the mains domain is stopped (R187, R201;
log 27). -/
def State.receive (s : State) (port : Fin 4) (sense : Sense) (b : Option Byte) : State :=
  if !s.power.running then s
  else
    let r := match b with
      | some b => (s.port port).receive port sense b
      | none => (s.port port).receiveSpoilt port
    { s.putPort port r.1 with pending := s.pending ++ r.2.toList }

/-- A port's line brings bytes one after another, each with its stop bit (R201). -/
def State.receiveBytes (s : State) (port : Fin 4) (sense : Sense) (bytes : List Byte) : State :=
  bytes.foldl (fun t b => t.receive port sense (some b)) s

/-- A port's line brings levels, one for each bit time (R200, R201). -/
def State.receiveLevels (s : State) (port : Fin 4) (sense : Sense) (levels : List Bool) : State :=
  (lineBytes levels).foldl (fun t b => t.receive port sense b) s

/-! ### Encoding (R211) -/

/-- A number in one byte. -/
def be8 (n : Nat) : List Byte := [BitVec.ofNat 8 n]

/-- A number in two bytes, high byte first. -/
def be16 (n : Nat) : List Byte := be8 (n / 256) ++ be8 n

/-- A number in four bytes, high byte first. -/
def be32 (n : Nat) : List Byte := be16 (n / 65536) ++ be16 n

/-- n bytes of 0. -/
def zeros (n : Nat) : List Byte := List.replicate n 0

/-- The last n decimal digits of a number, as ASCII characters. -/
def digitsOf : Nat → Nat → List Byte
  | 0, _ => []
  | k + 1, n => digitsOf k (n / 10) ++ be8 (48 + n % 10)

/-- A collection code: 8 ASCII digits. -/
def codeBytes (n : Nat) : List Byte := digitsOf 8 n

/-- An optional value in its bytes, sent as 0 when it is absent. -/
def optBytes {α : Type} (width : Nat) (enc : α → List Byte) : Option α → List Byte
  | some x => enc x
  | none => zeros width

/-- A parcel reference: a length byte and 20 bytes. -/
def parcelBytes : Option Text → List Byte
  | some t => be8 t.length ++ (t ++ zeros (20 - t.length))
  | none => zeros 21

/-- A byte of bits, bit 0 first. -/
def bitsByte (bits : List Bool) : List Byte := [byteOfBits bits]

/-- A condition set (R211). -/
def condByte (c : CondSet) : List Byte := bitsByte [c.clock, c.tariff, c.sat, c.capped, c.round, c.overpaid]

/-- A mark, by its position among set and clear (log 17). -/
def markByte (b : Bool) : List Byte := be8 (if b then 0 else 1)

/-- The consignment form and its 8 bytes (R211). -/
def formBytes : ConsForm → List Byte
  | .code n => be8 0 ++ codeBytes n
  | .record r => be8 1 ++ (be8 r.val ++ zeros 7)

/-- The detail byte of a notice (R211). -/
def detailByte : Option NoticeDetail → List Byte
  | some (.word d) => be8 (d.ctorIdx + 1)
  | some (.status st) => be8 st.ctorIdx
  | none => be8 0

/-- The 26 bytes of a notice (R211). -/
def noticeBytes (n : Notice) : List Byte :=
  be8 (n.kind.ctorIdx + 1) ++ bitsByte [n.comp.isSome, n.cons.isSome, n.slot.isSome, n.ref.isSome] ++
    be32 n.minute ++ optBytes 1 (fun c : Comp => be8 c.val) n.comp ++ optBytes 9 formBytes n.cons ++
    optBytes 1 (fun i : RingSlot => be8 i.val) n.slot ++
    optBytes 2 (fun r : ChargeRef => be8 r.slot.val ++ be8 r.gen) n.ref ++ detailByte n.detail ++
    optBytes 1 (fun d : Detail => be8 (d.ctorIdx + 1)) n.qualifier ++ condByte n.set ++ be32 (min n.amount maxWord)

/-- The progress bytes 60 to 72 of a descriptor slot (R211). -/
def progressBytes : Progress → List Byte
  | .none => be8 0 ++ be8 255 ++ zeros 11
  | .handed => be8 1 ++ be8 255 ++ zeros 11
  | .started c code claimed waiting =>
    be8 2 ++ be8 (match c with | some c => c.val | none => 255) ++ optBytes 8 codeBytes code ++ be8 waiting ++
      be8 0 ++ be8 claimed
  | .complete st => be8 3 ++ be8 255 ++ zeros 9 ++ be8 st.ctorIdx ++ be8 0

/-- The 73 bytes of a descriptor slot (R211). -/
def slotBytes (x : Slot) (p : Progress) : List Byte :=
  let d := x.desc
  let b := x.back
  be8 x.owner.ctorIdx ++ be8 d.kind.ctorIdx ++ bitsByte [d.first, d.last, d.notify, b.codClamped] ++
    bitsByte [false, d.cod.isSome, d.code.isSome, b.summary.isSome, b.comp.isSome, b.code.isSome,
      b.depositMinute.isSome] ++
    be32 d.carrierId ++ parcelBytes d.parcelRef ++ be8 d.size.ctorIdx ++ optBytes 4 be32 d.cod ++
    optBytes 8 codeBytes d.code ++ be8 b.status.ctorIdx ++
    optBytes 1 (fun e : ErrorSummary => be8 e.ctorIdx) b.summary ++ optBytes 1 (fun c : Comp => be8 c.val) b.comp ++
    optBytes 8 codeBytes b.code ++ optBytes 4 be32 b.depositMinute ++ be8 b.claimed ++ be8 b.retrieved ++
    be8 b.notOpened ++ progressBytes p

/-- The 8 bytes of a piece in the consignment summary (R211). -/
def pieceBytes (p : SummaryPiece) : List Byte :=
  be8 p.comp.val ++ be8 p.size.ctorIdx ++ be8 p.state.ctorIdx ++
    bitsByte [p.depositMinute.isSome, p.collectIncomplete, p.releaseInterrupted] ++ optBytes 4 be32 p.depositMinute

/-- The 80 bytes of the consignment summary (R211). The open charge's state, which R37 gives as OPEN or PRESENTED, is
its position among the seven states of R125, so OPEN is 1 and PRESENTED 2 (the model's choice, log 58). -/
def summaryBytes (s : Summary) : List Byte :=
  be8 s.record.val ++ be32 s.carrierId ++
    bitsByte [s.collectable, s.waived, s.paidThrough.isSome, s.openRef.isSome] ++ be8 s.pieces.length ++
    (s.pieces.flatMap pieceBytes ++ zeros (32 - 8 * s.pieces.length)) ++ be32 s.laneO ++ be32 s.laneK ++
    be32 s.paidO ++ be32 s.paidK ++ be32 s.dueO ++ be32 s.dueK ++ be32 s.total ++ optBytes 4 be32 s.paidThrough ++
    optBytes 3 (fun r : ChargeRef × ChargeState => be8 r.1.slot.val ++ be8 r.1.gen ++ be8 r.2.ctorIdx) s.openRef ++
    be32 s.minute ++ condByte s.raised ++ condByte s.unmasked

/-- A map of the 144 compartments: compartment c is bit c mod 8 of byte c / 8 (R210, log 17). -/
def mapBytes (l : List Comp) : List Byte :=
  (List.range 18).flatMap fun i => bitsByte ((List.range 8).map fun b => l.any fun c => c.val == 8 * i + b)

/-- The presence byte of an optional result field, and its value (R211, log 17). -/
def withPresence {α : Type} (width : Nat) (enc : α → List Byte) (x : Option α) : List Byte :=
  bitsByte [x.isSome] ++ optBytes width enc x

/-- The bytes of one result field (R204, R211). -/
def fieldBytes : Field → List Byte
  | .u8 n => be8 n
  | .u16 n => be16 n
  | .u32 n => be32 n
  | .mark b => markByte b
  | .presence b => bitsByte [b]
  | .blank n => zeros n
  | .opt8 x => withPresence 1 be8 x
  | .opt16 x => withPresence 2 be16 x
  | .opt32 x => withPresence 4 be32 x
  | .optRef x => withPresence 2 (fun r : ChargeRef => be8 r.slot.val ++ be8 r.gen) x
  | .optCode x => withPresence 8 codeBytes x
  | .parcel t => parcelBytes t
  | .conds c => condByte c
  | .comps l => be8 l.length ++ l.flatMap fun c => be8 c.val
  | .compMap l => mapBytes l
  | .code n => codeBytes n
  | .notice n => noticeBytes n
  | .summary s => summaryBytes s
  | .slot i x p => be8 i.val ++ slotBytes x p

/-- The value of a refusal reason (section 11.3). -/
def reasonValue : Option Reason → Nat
  | some r => r.ctorIdx + 1
  | none => 0

/-- The payload of a response (R204). -/
def Response.payload (r : Response) : List Byte :=
  be8 r.result.ctorIdx ++ be8 (reasonValue r.reason) ++ be8 r.notices ++ markByte r.overflow ++
    r.fields.flatMap fieldBytes

/-- The frame of a response (R201, R204). -/
def Response.frame (r : Response) : List Byte := Machine.frame r.seq r.code r.payload

/-- The levels that a port sends for a response (R200, R204). -/
def Response.levels (r : Response) : List Bool := r.frame.flatMap byteLevels

end Sys2Proof.Machine
end

