-- ==== Sys2Proof/Safety.lean ====
section
/-! DEFINITION. What it means that a state is in order, and when a frame's request reaches its block: the words in
which the statements about this machine are made. -/

namespace Sys2Proof.Machine

/-- Between steps no consequence waits and the arbiter has nothing to look at (log 10). -/
def State.Settled (s : State) : Prop := s.signals = [] ∧ s.arbiterDue = false

/-- No notice queue holds more than 16 notices (R205). -/
def State.NoticesBounded (s : State) : Prop := ∀ p, (s.port p).queue.length ≤ Config.noticeCap

/-- The release queue holds at most 16 entries (R145). -/
def State.QueueBounded (s : State) : Prop := s.seq.queue.length ≤ Config.queueCap

/-- No compartment has two entries in the release queue (R147). -/
def State.OneEntryEach (s : State) : Prop := (s.seq.queue.map Entry.comp).Nodup

/-- The in-flight set is no larger than the coil budget, and the coil budget is 1 to 3 (R153, R166). -/
def State.BudgetKept (s : State) : Prop := s.flying.length ≤ s.seq.budget ∧ 1 ≤ s.seq.budget ∧ s.seq.budget ≤ 3

/-- The custody clock's counts lie in their ranges (R189). -/
def State.ClockInRange (s : State) : Prop := s.clock.minute ≤ maxWord ∧ s.clock.subMinute < Config.subMinutes

/-! ### What a cycle leaves -/

/-- A column's state but for the times left on its timers (R150 to R152). -/
def ColumnState.untimed : ColumnState → ColumnState
  | .idle => .idle
  | .arming _ => .arming 0
  | .armed _ => .armed 0
  | .pulsing _ _ => .pulsing 0 0
  | .recovering _ => .recovering 0
  | .disabled => .disabled

/-- A door record but for the time left on its timer (R176, R179). -/
def Door.untimed : Door → Door
  | .shut => .shut
  | .released cls _ => .released cls 0
  | .opened k _ closing => .opened k 0 closing
  | .ajar k closing => .ajar k closing
  | .forced closing => .forced closing

/-! ### The custody table in order -/

/-- What a holding of a compartment in a custody state has: a rest state and a deposit minute from its deposit on (R5), at
rest the rest state that the custody state shows (R3, R5), a claimant exactly under a claim (R5, R21), up to four review
causes without repeats (R6), which stand in REVIEW and OUT_OF_SERVICE alone, and at least one in REVIEW (R6, R26 to
R28). -/
abbrev Holding.InOrder (st : CustodyState) (x : Holding) : Prop :=
  (x.rest = none ↔ st = .reserved ∨ st = .loading) ∧ x.rest.isSome = x.depositMinute.isSome ∧
  (st.isRest = true → x.rest.map RestState.custody = some st) ∧
  (x.claimant ≠ none ↔ st = .releasing ∨ st = .emptying) ∧
  x.causes.Nodup ∧ x.causes.length ≤ 4 ∧ (st = .review → x.causes ≠ []) ∧
  (x.causes ≠ [] → st = .review ∨ st = .outOfService)

/-- What a compartment entry has: NOT_FITTED exactly when it is not fitted (R2), a cause exactly in OUT_OF_SERVICE (R4),
and a holding by its custody state: none in NOT_FITTED and FREE, perhaps in OUT_OF_SERVICE, one in every other (R3). -/
abbrev CompartmentEntry.InOrder (e : CompartmentEntry) : Prop :=
  (e.fitted = true ↔ e.state ≠ .notFitted) ∧ (e.cause ≠ none ↔ e.state = .outOfService) ∧
  (e.state = .notFitted ∨ e.state = .free → e.holding = none) ∧
  (e.holding = none → e.state = .notFitted ∨ e.state = .free ∨ e.state = .outOfService) ∧
  (∀ x ∈ e.holding, x.InOrder e.state)

/-- Holdings and consignments name each other: each holding's record is in use and lists its compartment, and each record
in use lists one to four compartments, once each, whose holdings name it (R5, R8, R9). -/
abbrev State.PiecesMatch (s : State) : Prop :=
  (∀ c, ∀ x ∈ s.holding c, ∃ k ∈ s.record x.record, c ∈ k.pieces) ∧
  (∀ n, ∀ k ∈ s.record n, k.pieces ≠ [] ∧ k.pieces.length ≤ 4 ∧ k.pieces.Nodup ∧
    ∀ c ∈ k.pieces, ∃ x ∈ s.holding c, x.record = n)

/-- A delivery has a code and a return has none, and the code map lists exactly the codes of the records in use, in
ascending order, with their records (R10). -/
abbrev State.CodesMatch (s : State) : Prop :=
  (∀ n, ∀ k ∈ s.record n, (k.kind = .delivery ↔ k.code ≠ none) ∧ ∀ x ∈ k.code, (x, n) ∈ s.custody.codeMap) ∧
  (∀ p ∈ s.custody.codeMap, ∃ k ∈ s.record p.2, k.code = some p.1) ∧
  s.custody.codeMap.Pairwise fun p q => p.1 < q.1

/-- The holdings of a carrier's consignments (R50). -/
def State.liveHoldings (s : State) (i : Fin 8) : List Comp := Comp.all.filter (s.ofCarrier i)

/-- The custody table is in order: its entries, the consignments with their pieces and codes, and the carriers' live
counts (R3 to R6, R8 to R10, R50). -/
abbrev State.CustodyInOrder (s : State) : Prop :=
  (∀ c, (s.entry c).InOrder) ∧ s.PiecesMatch ∧ s.CodesMatch ∧
  ∀ i, (s.carriers.get i).live = (s.liveHoldings i).length

/-! ### The charges in order -/

/-- What a charge record has by its state: nothing in FREE, and in every other the consignment it was opened for; a running
expiry timer exactly while it is live; a payment minute exactly in PAID; an end cause exactly in DECLINED and VOID (R125,
R127). -/
abbrev ChargeRecord.InOrder (r : ChargeRecord) : Prop :=
  (r.state = .free → r = ChargeRecord.blank) ∧ (r.state ≠ .free → r.record ≠ none) ∧
  (r.state.isLive = true ↔ r.expiry ≠ 0) ∧ (r.paymentMinute ≠ none ↔ r.state = .paid) ∧
  (r.cause ≠ none ↔ r.state = .declined ∨ r.state = .void)

/-- A consignment's open charge reference names a live charge of that consignment, and every live charge is named so
(R127). -/
abbrev State.RefsMatch (s : State) : Prop :=
  (∀ n, ∀ k ∈ s.record n, ∀ ref ∈ k.openRef, ref = s.refOf ref.slot ∧ (s.charge ref.slot).state.isLive = true ∧
    (s.charge ref.slot).record = some n) ∧
  (∀ i, (s.charge i).state.isLive = true → ∃ n ∈ (s.charge i).record, ∃ k ∈ s.record n, k.openRef = some (s.refOf i))

/-- The charge table is in order: its records, the generations, the ended list, which holds each ended charge once, and,
while the mains domain runs, the open charge references (R125 to R128, R143). -/
abbrev State.ChargesInOrder (s : State) : Prop :=
  (∀ i, (s.charge i).InOrder ∧ s.charges.gens.get i < 256) ∧ s.charges.ended.Nodup ∧
  (∀ i, i ∈ s.charges.ended ↔ (s.charge i).state.isEnded = true) ∧ (s.power.running = true → s.RefsMatch)

/-! ### The pulses in order -/

/-- A column that an entry in flight holds: ARMING or PULSING (R150, R153). -/
def ColumnState.atPulse : ColumnState → Bool
  | .arming _ | .pulsing _ _ => true
  | .idle | .armed _ | .recovering _ | .disabled => false

/-- The flight record entry of an entry in flight (R168). -/
def Entry.flown (e : Entry) : FlightEntry := { comp := e.comp, purpose := e.purpose, restore := e.restore }

/-- The part in RESTORING has taken no request that uses these blocks (R170, R193). -/
abbrev State.RestoringQuiet (s : State) : Prop :=
  s.seq.queue = [] ∧ s.seq.pendingService = [] ∧ s.paidReturns = [] ∧ s.engine.window = [] ∧
  s.engine.state = .stopped ∧ ∀ i, (s.charge i).state = .free

/-- The pulses in progress are in order: each stands on a column of its own that is ARMING or PULSING, a SERVICE or TEST
pulse stands alone (R153), and from the reconciliation on the flight record holds exactly the entries in flight (R168);
in RESTORING, which ends with the second sweep, the queue and what feeds it are empty (R170, R193, R197). -/
abbrev State.PulsesInOrder (s : State) : Prop :=
  s.OneEntryEach ∧ (s.flying.map fun e => e.comp.column).Nodup ∧
  (∀ e ∈ s.flying, (s.column e.comp.column).atPulse = true ∧ (e.cls ≠ .custody → s.flying = [e])) ∧
  (s.power.running = true →
    (s.scanner.phase ≠ .baseline → s.seq.flight.Perm (s.flying.map Entry.flown)) ∧
    (s.scanner.phase ≠ .normal → s.power.restoring = true) ∧ (s.power.restoring = true → s.RestoringQuiet))

/-! ### Requests and events -/

/-- A complete frame of a request passes the checks of R202 on the port it came by, in a state between steps: the mains
domain runs, the port is not busy, the port's role carries the request, and the payload has its length. -/
def State.FramePasses (s : State) (h : Head) (role : Role) (length : Nat) : Prop :=
  s.Settled ∧ s.power.running = true ∧ (s.port h.port).busy = false ∧ (s.port h.port).role = some role ∧
    h.len = length

/-- The part has left RESTORING and a compartment is fitted (R30, R31, R193). -/
def State.InService (s : State) : Prop := s.power.restoring = false ∧ s.anyFitted = true

/-- An event finds the mains domain running, in a state between steps. -/
def State.Running (s : State) : Prop := s.Settled ∧ s.power.running = true

/-- The request was refused, and nothing but its port has changed: the answer stands behind what the port sends, and
the port is busy until it has been sent (R203, R204). -/
def State.refusedWith (s : State) (h : Head) (code : Byte) (r : Reason) (fields : List Field) : State :=
  (s.frameTaken h.port).respond h code (refuseWith r fields)

/-- The request was answered DONE with these result fields, and nothing but its port has changed (R203, R204). -/
def State.answeredDone (s : State) (h : Head) (code : Byte) (fields : List Field) : State :=
  (s.frameTaken h.port).respond h code (done fields)

/-- The command is none of those that start the mains domain (R192). -/
def Instr.NoStart (c : Instr) : Prop :=
  (∀ x, c ≠ .pfailNegate x) ∧ (∀ x, c ≠ .mainsReturn x) ∧ (∀ x, c ≠ .resetRelease x)

/-- The command is none of those that start or stop the mains domain (R190 to R192). -/
def Instr.NoPower (c : Instr) : Prop := Instr.NoStart c ∧ c ≠ .mainsFall ∧ c ≠ .resetAssert

/-- A carrier entry that differs in its live count at most (R49, R50). -/
structure CarrierKept (d e : CarrierEntry) : Prop where
  id : e.id = d.id
  enabled : e.enabled = d.enabled
  rights : e.rights = d.rights
  sizes : e.sizes = d.sizes
  tariffClass : e.tariffClass = d.tariffClass
  mode : e.mode = d.mode
  quota : e.quota = d.quota

/-- A port unit that has at most taken posted notices, each at the end of its queue, or set its overflow mark (R205). -/
structure PortGrew (u v : PortUnit) : Prop where
  role : v.role = u.role
  rate : v.rate = u.rate
  receiving : v.receiving = u.receiving
  busy : v.busy = u.busy
  sending : v.sending = u.sending
  queue : u.queue <+: v.queue
  bound : u.queue.length ≤ Config.noticeCap → v.queue.length ≤ Config.noticeCap
  overflow : u.overflow = true → v.overflow = true

/-- The code, the roles and the payload length of a request, by the table of R212; an event has none. -/
def requestRow : Instr → Option (Head × Nat × List Role × Nat)
  | .readNotice h => some (h, 0x01, [.console, .courier, .payment, .operations], 0)
  | .portReset h _ => some (h, 0x02, [.console, .courier, .payment, .operations], 0)
  | .lookup h _ => some (h, 0x10, [.console], 8)
  | .quote h _ => some (h, 0x11, [.console], 8)
  | .voidQuote h _ _ => some (h, 0x12, [.console], 2)
  | .collect h _ => some (h, 0x13, [.console], 8)
  | .returnBegin h _ _ _ => some (h, 0x14, [.console], 26)
  | .returnCancel h _ _ => some (h, 0x15, [.console], 1)
  | .releaseCharge h _ _ => some (h, 0x16, [.console], 2)
  | .slotWrite h _ _ => some (h, 0x20, [.courier], 43)
  | .slotRead h _ => some (h, 0x21, [.courier], 1)
  | .handOver h _ _ => some (h, 0x22, [.courier], 2)
  | .start h _ => some (h, 0x23, [.courier], 1)
  | .resume h => some (h, 0x24, [.courier], 0)
  | .stop h _ => some (h, 0x25, [.courier], 0)
  | .fetchCharge h _ => some (h, 0x30, [.payment], 3)
  | .paymentResult h _ _ _ _ _ => some (h, 0x31, [.payment], 11)
  | .setCompartment h _ _ _ _ => some (h, 0x40, [.operations], 4)
  | .withholdToReview h _ _ => some (h, 0x41, [.operations], 2)
  | .withholdToOutOfService h _ _ => some (h, 0x41, [.operations], 2)
  | .resolveReviewRestore h _ _ => some (h, 0x42, [.operations], 2)
  | .resolveReviewWaive h _ _ => some (h, 0x42, [.operations], 2)
  | .resolveReviewRetire h _ _ => some (h, 0x42, [.operations], 2)
  | .resolveReviewWithdraw h _ _ => some (h, 0x42, [.operations], 2)
  | .returnToService h _ => some (h, 0x43, [.operations], 1)
  | .amendHolding h _ _ _ => some (h, 0x44, [.operations], 34)
  | .setCarrier h _ _ _ => some (h, 0x45, [.operations], 13)
  | .readCarrier h _ => some (h, 0x46, [.operations], 1)
  | .setTariff h _ _ _ _ => some (h, 0x47, [.operations], 25)
  | .readTariff h _ => some (h, 0x48, [.operations], 1)
  | .setMasks h _ => some (h, 0x49, [.operations], 1)
  | .clearConditions h _ => some (h, 0x4A, [.operations], 1)
  | .readConditions h => some (h, 0x4B, [.operations], 0)
  | .serviceRelease h _ _ => some (h, 0x4C, [.operations], 2)
  | .withdrawService h _ => some (h, 0x4D, [.operations], 1)
  | .testPulse h _ => some (h, 0x4E, [.operations], 1)
  | .columnRestore h _ => some (h, 0x4F, [.operations], 1)
  | .setTiming h _ _ => some (h, 0x50, [.operations], 8)
  | .readCompartment h _ => some (h, 0x51, [.operations], 1)
  | .readConsignment h _ => some (h, 0x52, [.operations], 1)
  | .readCharge h _ => some (h, 0x53, [.operations], 1)
  | .readQueueQueue h _ => some (h, 0x54, [.operations], 2)
  | .readQueueEngine h _ => some (h, 0x54, [.operations], 2)
  | .readQueuePickup h _ _ => some (h, 0x54, [.operations], 2)
  | .readQueueLists h _ => some (h, 0x54, [.operations], 2)
  | .readClock h => some (h, 0x55, [.operations], 0)
  | .unknownRequestCode _ _ | .frameDiscarded _ | .frameGapTimeout _ | .responseSent _ => none
  | .armingEnd _ | .pulseGood _ _ | .pulseOpenCoil _ _ | .pulseShort _ _ | .testPulseEnd _ _ _ => none
  | .runWindowEnd _ _ | .recoveringEnd _ | .svcKeyOn | .svcKeyOff => none
  | .pfailAssert | .pfailNegate _ | .mainsFall | .mainsReturn _ | .resetAssert | .resetRelease _ => none
  | .retentionLoss | .custodyTick | .chargeExpiry _ | .lockoutEnd | .sweepStart | .sweepColumnStep _ => none
  | .openWindowEnd _ | .ajarTimerEnd _ => none

end Sys2Proof.Machine
end

