-- ==== Sys2Proof/Certificates/Slice0/Obligations.lean ====
section
/-! DEFINITION. The statements about this machine that are to be proved. A statement of several claims is their
conjunction, and stands at the end of the file. Unless its docstring names a rule it states,
a statement is derived from the rules it cites. A state that a command meets is one between steps (State.Settled, log
10). -/

open Sys2Proof Sys2Proof.Machine

/-! ### Steps -/

/-- A step takes the command that waits first and executes it on the state with the rest of the queue. -/
def Obligations.StepTakesTheFront : Prop :=
  ∀ (c : Instr) (rest : List Instr) (s : State),
    step { s with pending := c :: rest } = exec c { s with pending := rest }

/-- With no command waiting, a step lets one crystal cycle pass (the model's choice, log 4). A part that is stopped
counts it on the custody clock and changes nothing else. A part that runs also moves its running timers and its second
count on, and changes nothing else: a charge but for its expiry time, a column and a door record but for their times,
a baseline sample but for its ajar time and the lockout but for its time are as they were, and no expiry timer ends or
starts. -/
def Obligations.EmptyQueueCountsOneCycle : Prop :=
  ∀ s : State, s.pending = [] → ∃ t, step s = .next t ∧
    (s.clock.subMinute + 1 < 1966080 → t.clock = { s.clock with subMinute := s.clock.subMinute + 1 }) ∧
    (s.power.running = false → t = { s with clock := s.clock.cycle }) ∧
    (s.power.running = true →
      t = { s with
        clock := s.clock.cycle
        charges := { s.charges with
          recs := t.charges.recs, second := t.charges.second, subSecond := t.charges.subSecond }
        seq := { s.seq with columns := t.seq.columns }
        scanner := { s.scanner with
          doors := t.scanner.doors, baseline := t.scanner.baseline, sweepLeft := t.scanner.sweepLeft
          stepLeft := t.scanner.stepLeft }
        limiter := { s.limiter with lockout := t.limiter.lockout } } ∧
      (∀ i, t.charge i = { s.charge i with expiry := (t.charge i).expiry } ∧
        (t.charge i).expiry ≤ (s.charge i).expiry ∧ ((t.charge i).expiry = 0 ↔ (s.charge i).expiry = 0)) ∧
      (s.charges.subSecond + 1 < 32768 →
        t.charges.second = s.charges.second ∧ t.charges.subSecond = s.charges.subSecond + 1) ∧
      (∀ c, (t.column c).untimed = (s.column c).untimed) ∧
      (∀ c, (t.door c).map Door.untimed = (s.door c).map Door.untimed) ∧
      (∀ c, (t.scanner.baseline.get c).map (fun b => b.presence) =
        (s.scanner.baseline.get c).map fun b => b.presence) ∧
      t.limiter.lockout.isSome = s.limiter.lockout.isSome)

/-- Every command completes in every state, with the commands that wait as they were. -/
def Obligations.EveryCommandCompletes : Prop :=
  ∀ (c : Instr) (s : State), ∃ t, exec c s = .next t ∧ t.pending = s.pending

/-! ### Invariants -/

/-- No consequence waits after a step (log 10). -/
def Claims.StepsLeaveNoConsequence : Prop :=
  ∀ s t : State, s.Settled → step s = .next t → t.Settled

/-- How a step ends (log 10): it works the consequences that its command has noted, then the arbiter looks, and nothing
is left noted. The consequence that waits first is worked on the state in which none waits, and what it leads to is
worked before the rest. A retirement, an owed read and a column's act after its pulse are the engine's retirement, the
scanner's owed read and the column's act (R86, R151, R173); what a departure tells is O51's. Only the model's count of
65,536, which no run uses up, ends the work before the list is empty. -/
def Claims.ConsequencesAreWorked : Prop :=
  ∀ s : State,
    s.complete = { (State.settle 65536 s).arbiterLooks with signals := [], arbiterDue := false } ∧
    (∀ n, s.signals = [] → State.settle (n + 1) s = s) ∧
    (∀ n g rest, s.signals = g :: rest →
      let t := State.work { s with signals := [] } g
      State.settle (n + 1) s = State.settle n { t with signals := t.signals ++ rest }) ∧
    State.settle 0 s = { s with signals := [] } ∧
    s.work .retire = s.retireNow ∧
    (∀ col, s.work (.owedRead col) = s.owedRead col ∧ s.work (.columnActs col) = s.columnAfterPulse col)

/-- No step lets a notice queue hold more than 16 notices (R205). -/
def Obligations.StepsKeepNoticeQueues : Prop :=
  ∀ s t : State, s.NoticesBounded → step s = .next t → t.NoticesBounded

/-- No step lets the release queue hold more than 16 entries, or two for one compartment (R145 to R147). -/
def Obligations.StepsKeepReleaseQueue : Prop :=
  ∀ s t : State, s.QueueBounded → s.OneEntryEach → step s = .next t → t.QueueBounded ∧ t.OneEntryEach

/-- No step lets the in-flight set grow past the coil budget, and the budget stays 1 to 3 (R153, R154, R166). -/
def Obligations.StepsKeepCoilBudget : Prop :=
  ∀ s t : State, s.BudgetKept → step s = .next t → t.BudgetKept

/-- The custody clock's counts stay in their ranges, and the custody minute never decreases except at a backup cold
start, which sets it to 0 and leaves no compartment fitted (R189, R198). -/
def Obligations.StepsKeepCustodyClock : Prop :=
  ∀ s t : State, s.ClockInRange → step s = .next t → t.ClockInRange ∧
    (s.clock.minute ≤ t.clock.minute ∨
      (t.clock = { minute := 0, subMinute := 0 } ∧ t.power.lastStart = .cold ∧ t.anyFitted = false))

/-- Every step keeps the custody table in order: each entry with the cause and the holding of its state, each holding
with what its state asks of it, holdings and consignments that name each other, the code map, and the live counts (R3
to R6, R8 to R10, R50). -/
def Obligations.StepsKeepCustodyTable : Prop :=
  ∀ s t : State, s.CustodyInOrder → step s = .next t → t.CustodyInOrder

/-- Every step keeps the charges in order: each record with what its state asks of it, the ended list, and, while the
part runs, open charge references that name the live charges and no other (R125 to R128, R143). -/
def Obligations.StepsKeepCharges : Prop :=
  ∀ s t : State, s.ChargesInOrder → step s = .next t → t.ChargesInOrder

/-- Every step keeps the pulses in progress in order: each on a column of its own that is ARMING or PULSING, a SERVICE
or TEST pulse alone, and the flight record that of the entries in flight (R153, R168). -/
def Claims.StepsKeepPulses : Prop :=
  ∀ s t : State, s.PulsesInOrder → step s = .next t → t.PulsesInOrder

/-- The state after reset is in order. -/
def Obligations.ResetIsInOrder : Prop :=
  State.reset.Settled ∧ State.reset.NoticesBounded ∧ State.reset.QueueBounded ∧ State.reset.OneEntryEach ∧
    State.reset.BudgetKept ∧ State.reset.ClockInRange ∧ State.reset.CustodyInOrder ∧ State.reset.ChargesInOrder ∧
    State.reset.PulsesInOrder

/-- What the manual gives for a first start (R49, R63, R198 and the start values of R71, R115, R116, R125, R145, R149,
R153, R163, R166, R172, R183, R184, R193): the start through step 5 of R192, with the baseline sweep begun. That reset
stands there is the model's choice (log 1). -/
def Obligations.ResetValues : Prop :=
  (∀ c : Comp, State.reset.entry c =
    { fitted := false, size := .s, use := .any, state := .notFitted, cause := none, holding := none }) ∧
  (∀ r : RecordNo, State.reset.record r = none) ∧ State.reset.custody.codeMap = [] ∧
  (∀ i : Fin 8, State.reset.carriers.get i =
    { id := 0, enabled := false, rights := ⟨false, false, false, false⟩, sizes := ⟨false, false, false, false⟩,
      tariffClass := 0, mode := .prepaid, quota := 0, live := 0 }) ∧
  State.reset.codeGen.position = 0 ∧
  State.reset.clock = { minute := 0, subMinute := 0 } ∧
  State.reset.power.running = true ∧ State.reset.power.restoring = true ∧ State.reset.power.lastStart = .cold ∧
  State.reset.power.retentionMark = true ∧
  (∀ i : Fin 4, State.reset.tariff.classes.get i = ⟨0, 0, 0, 0, 0, 0, 0⟩) ∧
  State.reset.tariff.bank = ⟨⟨8, 10, 12, 16⟩, ⟨0, 0, 0, 0⟩, .nearestEven, 15⟩ ∧
  State.reset.tariff.masks = ⟨false, false, false, true, true, false⟩ ∧
  State.reset.stickySet = CondSet.none ∧
  (∀ i : ChargeSlot, State.reset.charges.gens.get i = 0 ∧ (State.reset.charge i).state = .free) ∧
  State.reset.charges.ended = [] ∧ State.reset.charges.second = 0 ∧
  State.reset.seq.queue = [] ∧ State.reset.seq.pendingService = [] ∧ State.reset.seq.flight = [] ∧
  State.reset.seq.budget = 2 ∧ State.reset.seq.pulseLength = 150 ∧
  (∀ c : Column, State.reset.column c = .idle ∧ State.reset.scanner.owed.get c = false) ∧
  (∀ c : Comp, State.reset.door c = none ∧ State.reset.scanner.baseline.get c = none) ∧
  State.reset.scanner.phase = .baseline ∧ State.reset.scanner.sweeping = true ∧ State.reset.scanner.pointer = 0 ∧
  State.reset.scanner.openWindow = 20 ∧ State.reset.scanner.ajarTime = 120 ∧
  State.reset.engine.state = .stopped ∧ State.reset.engine.pointer = 0 ∧ State.reset.engine.window = [] ∧
  State.reset.limiter = { count := 0, lockout := none } ∧ State.reset.paidReturns = [] ∧
  (∀ p : Fin 4, (State.reset.port p).busy = false ∧ (State.reset.port p).overflow = false ∧
    ((State.reset.port p).role = some .operations → (State.reset.port p).queue = [Notice.backupLost]) ∧
    ((State.reset.port p).role ≠ some .operations → (State.reset.port p).queue = [])) ∧
  State.reset.pending = []

/-! ### What a command leaves alone -/

/-- Only CUSTODY_TICK and the commands that can start the mains domain change the custody clock (R189). -/
def Claims.ClockFrame : Prop :=
  ∀ (c : Instr) (s t : State), Instr.NoStart c → c ≠ .custodyTick → exec c s = .next t → t.clock = s.clock

/-- What each command leaves of the tariff unit: SET_TARIFF alone writes classes and bank-wide settings (R94), SET_MASKS
alone the masks (R117), and only an evaluation (LOOKUP, QUOTE, COLLECT) and CLEAR_CONDITIONS the sticky set (R115,
R122); a start may set them all to their cold values (R198). -/
def Claims.TariffFrame : Prop :=
  ∀ (c : Instr) (s t : State), Instr.NoStart c → exec c s = .next t →
    ((∀ h x sel v b, c ≠ .setTariff h x sel v b) → t.tariff.classes = s.tariff.classes ∧
      t.tariff.bank = s.tariff.bank) ∧
    ((∀ h x, c ≠ .setMasks h x) → t.tariff.masks = s.tariff.masks) ∧
    ((∀ h x, c ≠ .clearConditions h x) → (∀ h x, c ≠ .lookup h x) → (∀ h x, c ≠ .quote h x) →
      (∀ h x, c ≠ .collect h x) → t.tariff.sticky = s.tariff.sticky)

/-- Only the power events change the marks of the power domains, and beside them only the sweep that ends RESTORING
changes RESTORING (R188 to R193, R197). -/
def Claims.PowerFrame : Prop :=
  ∀ (c : Instr) (s t : State), Instr.NoPower c → (∀ b, c ≠ .pfailNegate b) → c ≠ .pfailAssert → c ≠ .retentionLoss →
    exec c s = .next t →
    ((∀ x, c ≠ .sweepColumnStep x) → t.power = s.power) ∧
    { t.power with restoring := s.power.restoring } = s.power

/-- Only a code request, the end of the lockout timer, a stop and a start change the console attempt limiter (R33 to
R35). -/
def Claims.LimiterFrame : Prop :=
  ∀ (c : Instr) (s t : State), Instr.NoPower c → c ≠ .lockoutEnd → (∀ h x, c ≠ .lookup h x) →
    (∀ h x, c ≠ .quote h x) → (∀ h x, c ≠ .collect h x) → exec c s = .next t → t.limiter = s.limiter

/-- Only SET_TIMING, a stop and a start change the four timing settings (R166, R183), and only the key events, a stop
and a start change SVC_KEY as the sequencer holds it (R163). -/
def Claims.TimingFrame : Prop :=
  ∀ (c : Instr) (s t : State), Instr.NoPower c → exec c s = .next t →
    ((∀ h x v, c ≠ .setTiming h x v) → t.seq.budget = s.seq.budget ∧ t.seq.pulseLength = s.seq.pulseLength ∧
      t.scanner.openWindow = s.scanner.openWindow ∧ t.scanner.ajarTime = s.scanner.ajarTime) ∧
    (c ≠ .svcKeyOn → c ≠ .svcKeyOff → t.seq.svcKey = s.seq.svcKey)

/-- Only SET_CARRIER and a start change more of a carrier entry than its live count (R49 to R51). -/
def Claims.CarrierFrame : Prop :=
  ∀ (c : Instr) (s t : State), Instr.NoStart c → (∀ h i sel v, c ≠ .setCarrier h i sel v) → exec c s = .next t →
    ∀ i, CarrierKept (s.carriers.get i) (t.carriers.get i)

/-- A request changes no port but its own, except that notices join the queues of others (R203, R205, R207). -/
def Claims.RequestsKeepOtherPorts : Prop :=
  ∀ (c : Instr) (h : Head) (code n : Nat) (roles : List Role) (s t : State),
    requestRow c = some (h, code, roles, n) → exec c s = .next t →
    ∀ q : Fin 4, q ≠ h.port → PortGrew (s.port q) (t.port q)

/-- An event of the sequencer, the scanner, a timer or the clock changes no port, except that notices join their queues
(R205). -/
def Claims.EventsKeepPorts : Prop :=
  ∀ (c : Instr) (s t : State), requestRow c = none → Instr.NoPower c → (∀ h x, c ≠ .unknownRequestCode h x) →
    (∀ p, c ≠ .frameDiscarded p) → (∀ p, c ≠ .frameGapTimeout p) → (∀ p, c ≠ .responseSent p) →
    exec c s = .next t → ∀ q : Fin 4, PortGrew (s.port q) (t.port q)

/-! ### Frames and ports (chapter 11) -/

/-- The checks of R202 in their order, for every request of R212: BUSY but for PORT_RESET, then ROLE, then FORMAT. A
refused frame changes nothing but its port. The refusals carry no result field, also those of a Payment Result, whose
answers have a reverse mark (R133, R137), which is log 28. -/
def Claims.FrameChecks : Prop :=
  ∀ (c : Instr) (h : Head) (code n : Nat) (roles : List Role) (s : State),
    requestRow c = some (h, code, roles, n) → s.Running →
    ((s.port h.port).busy = true → (∀ x, c ≠ .portReset h x) →
      exec c s = .next ((s.frameTaken h.port).onPort h.port fun u => u.refuseBusy h (BitVec.ofNat 8 code))) ∧
    ((s.port h.port).busy = false → (∀ r ∈ roles, (s.port h.port).role ≠ some r) →
      exec c s = .next ((s.frameTaken h.port).refuseFrame h (BitVec.ofNat 8 code) .role)) ∧
    (∀ r ∈ roles, (s.port h.port).busy = false → (s.port h.port).role = some r → h.len ≠ n →
      exec c s = .next ((s.frameTaken h.port).refuseFrame h (BitVec.ofNat 8 code) .format))

/-- A code that names no request (UNKNOWN_REQUEST_CODE) is refused ROLE on every port (R202), or BUSY on a busy one. -/
def Claims.UnknownCodeRefused : Prop :=
  ∀ (h : Head) (code : Byte) (s : State), s.Running →
    ((s.port h.port).busy = false →
      exec (.unknownRequestCode h code) s = .next ((s.frameTaken h.port).refuseFrame h code .role)) ∧
    ((s.port h.port).busy = true →
      exec (.unknownRequestCode h code) s =
        .next ((s.frameTaken h.port).onPort h.port fun u => u.refuseBusy h code))

/-- One BUSY refusal alone may wait behind the response in transmission; while one waits, a further frame is discarded
(R203). The refusal is built at the completion of the frame that it refuses, with the notice count and the overflow mark
as they stand then, which is log 53. -/
def Claims.OneBusyRefusalWaits : Prop :=
  ∀ (u : PortUnit) (h : Head) (code : Byte),
    ((∃ x ∈ u.sending.tail, x.busyRefusal = true) → u.refuseBusy h code = u) ∧
    ((∀ x ∈ u.sending.tail, x.busyRefusal = false) → u.refuseBusy h code = { u with
      sending := u.sending ++ [{
        response := { seq := h.seq, code := code, result := .refused, reason := some .busy, notices := u.queue.length,
                      overflow := u.overflow, fields := [] }
        clearsBusy := false, busyRefusal := true }] })

/-- How a port answers: a refusal of the frame checks sets no busy mark, and the response of a request that its block
takes sets it until it has been sent; each stands behind what the port sends, with the notice count and the overflow
mark as they stand when it is built (R202 to R204). -/
def Claims.AnswersAreSent : Prop :=
  ∀ (s : State) (h : Head) (code : Byte),
    let u := s.port h.port
    let response := fun a : Answer => ({ seq := h.seq, code := code, result := a.result, reason := a.reason
                                         notices := u.queue.length, overflow := a.mark.getD u.overflow
                                         fields := a.fields } : Response)
    (∀ r : Reason, s.refuseFrame h code r = s.putPort h.port { u with sending := u.sending ++
      [{ response := response { result := .refused, reason := some r, fields := [], mark := none }
         clearsBusy := false, busyRefusal := false }] }) ∧
    (∀ a : Answer, s.respond h code a = s.putPort h.port { u with
      busy := true
      sending := u.sending ++ [{ response := response a, clearsBusy := true, busyRefusal := false }] }) ∧
    s.frameTaken h.port = s.putPort h.port { u with receiving := [] }

/-- A frame with a wrong CRC (FRAME_DISCARDED), and one that a gap has cut (FRAME_GAP_TIMEOUT), leave the unit hunting
and change nothing else (R201). -/
def Claims.SpoiltFramesChangeNothing : Prop :=
  ∀ (p : Fin 4) (s : State), s.power.running = true →
    exec (.frameDiscarded p) s = .next (s.putPort p { s.port p with receiving := [] }) ∧
    exec (.frameGapTimeout p) s = .next (s.putPort p { s.port p with receiving := [] })

/-- When the last byte of a response has been sent (RESPONSE_SENT), the next one begins, and the busy mark goes with the
response of the frame that set it (R203). -/
def Claims.ResponseSentClearsBusy : Prop :=
  ∀ (p : Fin 4) (s : State) (x : Transmission) (rest : List Transmission), s.power.running = true →
    (s.port p).sending = x :: rest →
    exec (.responseSent p) s =
      .next (s.putPort p { s.port p with sending := rest, busy := (s.port p).busy && !x.clearsBusy })

/-- Read Notice, on a port of every role (R206): the oldest notice is removed and returned, the overflow mark left; with
an empty queue the response tells the mark, and the mark is cleared. The response's count is the count after the
removal. -/
def Obligations.ReadNoticeTakesTheOldest : Prop :=
  ∀ (h : Head) (r : Role) (s : State), s.FramePasses h r 0 →
    (∀ n rest, (s.port h.port).queue = n :: rest →
      exec (.readNotice h) s = .next (((s.frameTaken h.port).onPort h.port fun u => { u with queue := rest }).respond
        h 0x01#8 (done [.notice n]))) ∧
    ((s.port h.port).queue = [] →
      ∃ t, exec (.readNotice h) s = .next t ∧ (t.port h.port).overflow = false ∧ (t.port h.port).queue = [] ∧
        (t.port h.port).sending = (s.port h.port).sending ++
          [{ response := { seq := h.seq, code := 0x01#8, result := .done, reason := none, notices := 0,
                           overflow := (s.port h.port).overflow, fields := [] },
             clearsBusy := true, busyRefusal := false }])

/-- A Port Reset is taken while the port is busy too. It leaves of what the port sends only the response in
transmission, which then clears no busy mark, clears the busy mark, the notice queue and the overflow mark (R202,
R207; log 16), and does what its port's role asks: the console's voids every OPEN charge and answers with their number
and the compartments whose reservations went with them (R142), the courier's is a Stop (R89), and the payment module's
and operations' do no more. The answer DONE sets no busy mark. -/
def Claims.PortResetClearsItsPort : Prop :=
  ∀ (h : Head) (x : Sense) (r : Role) (s : State), s.Running → (s.port h.port).role = some r → h.len = 0 →
    let cleared := ({ s with sense := x } : State).putPort h.port { s.port h.port with
      receiving := [], busy := false, queue := [], overflow := false
      sending := ((s.port h.port).sending.take 1).map fun y => { y with clearsBusy := false } }
    let answered := fun (u : State) (fields : List Field) => u.putPort h.port { u.port h.port with
      sending := (u.port h.port).sending ++ [{ response := (u.port h.port).response h 0x02#8 (done fields),
                                               clearsBusy := false, busyRefusal := false }] }
    let v := State.voidAll (List.finRange 8) cleared
    (r = .payment ∨ r = .operations → exec (.portReset h x) s = .next (answered cleared [])) ∧
    (r = .console → exec (.portReset h x) s = .next (answered (v.1.complete) [.u8 v.2.1, .comps v.2.2])) ∧
    (r = .courier → s.engine.state = .running ∨ s.engine.state = .suspended → exec (.portReset h x) s =
      .next (answered (((cleared.engine.window.foldl State.stopRecord (cleared.setEngine .stopping)).emit
        .retire).complete) [])) ∧
    (r = .courier → s.engine.state = .stopped ∨ s.engine.state = .stopping →
      exec (.portReset h x) s = .next (answered cleared []))

/-- A Port Reset of the console voids every OPEN charge, with end cause PORT_RESET where no reservation waits on a
charge, and leaves every other charge, but for one whose consignment goes with a dropped reservation (R140, R142,
R207). -/
def Claims.ConsoleResetVoidsOpenCharges : Prop :=
  ∀ (s : State) (i : ChargeSlot),
    let t := (State.voidAll (List.finRange 8) s).1
    ((s.charge i).state = .opened → (t.charge i).state = .void ∧ (t.charge i).expiry = 0) ∧
    ((s.charge i).state ≠ .opened → t.charge i = s.charge i ∨ (t.charge i).state = .void) ∧
    ((∀ j, (s.charge j).record.bind s.waitingReturn = none) →
      ((s.charge i).state = .opened → (t.charge i).cause = some .portReset) ∧
      ((s.charge i).state ≠ .opened → t.charge i = s.charge i))

/-- A notice posted to a queue that holds fewer than 16 joins its end; one posted to a full queue is dropped and sets
the overflow mark; a notice for a role that no port has goes nowhere (R200, R205). -/
def Claims.PostedNoticeJoinsOrIsDropped : Prop :=
  ∀ (s : State) (r : Role) (n : Notice) (p : Fin 4),
    ((s.port p).role = some r → (s.port p).queue.length < 16 →
      (s.post r n).port p = { s.port p with queue := (s.port p).queue ++ [n] }) ∧
    ((s.port p).role = some r → 16 ≤ (s.port p).queue.length →
      (s.post r n).port p = { s.port p with overflow := true }) ∧
    ((s.port p).role ≠ some r → (s.post r n).port p = s.port p)

/-- The attention line of a port is asserted while its queue holds a notice, so after every notice posted to it
(R205). -/
def Claims.AttentionLine : Prop :=
  ∀ (s : State) (r : Role) (n : Notice) (p : Fin 4),
    ((s.port p).attention = true ↔ (s.port p).queue ≠ []) ∧
    ((s.port p).role = some r → ((s.post r n).port p).attention = true)

/-- A byte on a line is a start bit, its 8 data bits with the least significant first, no parity, and one stop bit
(R200), with the start bit low and the stop bit high, which is log 54. Levels at rest spell nothing, the levels of
bytes spell those bytes, and a byte without its stop bit is told as such. -/
def Claims.BytesOnTheLine : Prop :=
  (∀ b : Byte, byteLevels b = [false, b.getLsbD 0, b.getLsbD 1, b.getLsbD 2, b.getLsbD 3, b.getLsbD 4, b.getLsbD 5,
    b.getLsbD 6, b.getLsbD 7, true]) ∧
  (∀ (b : Byte) (t : List Bool), lineBytes (true :: t) = lineBytes t ∧
    lineBytes (byteLevels b ++ t) = some b :: lineBytes t ∧
    lineBytes (false :: (dataBits b ++ false :: t)) = none :: lineBytes t) ∧
  ∀ (s : State) (p : Fin 4) (x : Sense) (bytes : List Byte),
    lineBytes (bytes.flatMap byteLevels) = bytes.map some ∧
    s.receiveLevels p x (bytes.flatMap byteLevels) = s.receiveBytes p x bytes

/-- The bytes that a running part's port receives (R201; log 27): a hunting unit discards all before the sync byte,
and a whole frame puts its command behind those that wait, or FRAME_DISCARDED where its CRC is another; so does a byte
without its stop bit inside a frame. The command is that of the frame's code, or UNKNOWN_REQUEST_CODE. A stopped part
receives nothing. -/
def Claims.FramesAreReceived : Prop :=
  (∀ (s : State) (p : Fin 4) (x : Sense) (seq code : Byte) (payload junk crc : List Byte),
    s.power.running = true → (s.port p).receiving = [] → payload.length ≤ 255 → 0x5A#8 ∉ junk → crc.length = 2 →
    let body := [BitVec.ofNat 8 payload.length, seq, code] ++ payload
    let waits := fun c : Instr => ({ s with pending := s.pending ++ [c] } : State)
    s.receiveBytes p x junk = s ∧
    s.receiveBytes p x (junk ++ frame seq code payload) =
      waits (requestOf { port := p, seq := seq, len := payload.length } code payload x) ∧
    frame seq code payload = 0x5A#8 :: (body ++ crcBytes body) ∧
    (crc ≠ crcBytes body → s.receiveBytes p x (junk ++ 0x5A#8 :: (body ++ crc)) = waits (.frameDiscarded p))) ∧
  (∀ (s : State) (p : Fin 4) (x : Sense) (b : Option Byte),
    (s.power.running = true → (s.port p).receiving = [] → s.receive p x none = s) ∧
    (s.power.running = true → (s.port p).receiving ≠ [] → s.receive p x none =
      { s.putPort p { s.port p with receiving := [] } with pending := s.pending ++ [.frameDiscarded p] }) ∧
    (s.power.running = false → s.receive p x b = s)) ∧
  ∀ (h : Head) (code : Byte) (payload : List Byte) (x : Sense),
    requestOf h code payload x = .unknownRequestCode h code ∨
    ∃ roles n, requestRow (requestOf h code payload x) = some (h, code.toNat, roles, n)

/-- The CRC-16 of R201: initial value FFFFh, generator polynomial 1021h, each byte's most significant bit first, no
final inversion, sent high byte first. -/
def Claims.CrcOfAFrame : Prop :=
  crc16 [] = 0xFFFF#16 ∧
  (∀ (m : List Byte) (b : Byte), crc16 (m ++ [b]) =
    crcBit (crcBit (crcBit (crcBit (crcBit (crcBit (crcBit (crcBit (crc16 m ^^^ (b.setWidth 16 <<< 8)))))))))) ∧
  (∀ c : BitVec 16, (c.msb = true → crcBit c = (c <<< 1) ^^^ 0x1021#16) ∧ (c.msb = false → crcBit c = c <<< 1)) ∧
  (∀ m : List Byte, crcBytes m = [((crc16 m) >>> 8).setWidth 8, (crc16 m).setWidth 8]) ∧
  crc16 [0x31#8, 0x32#8, 0x33#8, 0x34#8, 0x35#8, 0x36#8, 0x37#8, 0x38#8, 0x39#8] = 0x29B1#16

/-- A response is framed as a request is, with the request's sequence byte and code; its payload is the result (DONE
0, ACCEPTED 1, REFUSED 2), the reason's value or 0, the notice count, the overflow mark (set 0, clear 1, which is log
17), and the result fields in order (R204). -/
def Claims.ResponseBytes : Prop :=
  ∀ r : Response,
    let payload := [match r.result with
        | .done => 0x00#8
        | .accepted => 0x01#8
        | .refused => 0x02#8,
      BitVec.ofNat 8 (match r.reason with
        | some x => x.ctorIdx + 1
        | none => 0), BitVec.ofNat 8 r.notices, if r.overflow then 0x00#8 else 0x01#8] ++ r.fields.flatMap fieldBytes
    r.frame = frame r.seq r.code payload ∧ r.levels = r.frame.flatMap byteLevels

/-! ### Reads -/

/-- The reads of operations are answered DONE in every state of the part, and change nothing but their own port (R65,
R96, R124, R144, R209, R210). The forms that the model chose are log 41 (the masks as one condition set), log 42
(positions in the ended list from 0), log 40 (the widths of the tariff fields), log 17 (an absent holding as bytes of
0) and log 51 (the width of the sub-minute count). -/
def Claims.ReadsAnswerAndChangeNothing : Prop :=
  ∀ (h : Head) (s : State),
    (s.FramePasses h .operations 1 →
      (∀ c : Comp, exec (.readCompartment h c.val) s = .next (s.answeredDone h 0x51#8 (s.compFields c))) ∧
      (∀ (n : RecordNo) (k : Consignment), s.record n = some k →
        exec (.readConsignment h n.val) s = .next (s.answeredDone h 0x52#8 (k.fields n))) ∧
      (∀ i : ChargeSlot, exec (.readCharge h i.val) s = .next (s.answeredDone h 0x53#8 (s.chargeFields i))) ∧
      (∀ i : Fin 8, exec (.readCarrier h i.val) s =
        .next (s.answeredDone h 0x46#8 ((s.carriers.get i).fields ++ [.u8 (s.carriers.get i).live]))) ∧
      (∀ i : Fin 4, exec (.readTariff h i.val) s = .next (s.answeredDone h 0x48#8
        (classFields (s.tariff.classes.get i) ++ [.mark (unitValid (s.tariff.classes.get i).u)]))) ∧
      exec (.readTariff h 4) s = .next (s.answeredDone h 0x48#8 (s.tariff.bank.fields ++
        [.mark (multValid s.tariff.bank.mult.s), .mark (multValid s.tariff.bank.mult.m),
          .mark (multValid s.tariff.bank.mult.l), .mark (multValid s.tariff.bank.mult.xl)]))) ∧
    (s.FramePasses h .operations 2 →
      exec (.readQueueQueue h true) s = .next (s.answeredDone h 0x54#8 s.queueFields) ∧
      exec (.readQueueEngine h true) s = .next (s.answeredDone h 0x54#8 s.engineFields) ∧
      exec (.readQueueLists h true) s = .next (s.answeredDone h 0x54#8 s.listFields) ∧
      (∀ (slot : Nat) (r : WindowRecord), s.pickupAt slot = some r →
        exec (.readQueuePickup h true slot) s =
          .next (s.answeredDone h 0x54#8 [.compMap r.outstanding, .compMap r.waiting]))) ∧
    (s.FramePasses h .operations 0 →
      exec (.readConditions h) s = .next (s.answeredDone h 0x4B#8 (.conds s.tariff.masks :: s.stickyFields)) ∧
      exec (.readClock h) s = .next (s.answeredDone h 0x55#8
        [.u32 s.clock.minute, .u32 s.clock.subMinute, .mark s.power.restoring, .mark s.anyFitted,
          .u8 s.power.lastStart.ctorIdx]))

/-- The reads' refusals: a compartment above 143, a record number above 143, a charge slot or carrier above 7, a tariff
target above 4, a part of Read Queue outside its four: FORMAT; a record not in use, a slot that holds no STARTED PICKUP:
UNKNOWN (R65, R96, R144, R209, R210). The mark of a part outside the four is log 25. -/
def Claims.ReadsRefuse : Prop :=
  ∀ (h : Head) (s : State) (x : Nat),
    (s.FramePasses h .operations 1 →
      (143 < x → exec (.readCompartment h x) s = .next (s.refusedWith h 0x51#8 .format []) ∧
        exec (.readConsignment h x) s = .next (s.refusedWith h 0x52#8 .format [])) ∧
      (∀ n : RecordNo, s.record n = none →
        exec (.readConsignment h n.val) s = .next (s.refusedWith h 0x52#8 .unknown [])) ∧
      (7 < x → exec (.readCharge h x) s = .next (s.refusedWith h 0x53#8 .format []) ∧
        exec (.readCarrier h x) s = .next (s.refusedWith h 0x46#8 .format [])) ∧
      (4 < x → exec (.readTariff h x) s = .next (s.refusedWith h 0x48#8 .format []))) ∧
    (s.FramePasses h .operations 2 →
      (∀ i ∈ [Instr.readQueueQueue h false, .readQueueEngine h false, .readQueuePickup h false x,
          .readQueueLists h false], exec i s = .next (s.refusedWith h 0x54#8 .format [])) ∧
      (s.pickupAt x = none → exec (.readQueuePickup h true x) s = .next (s.refusedWith h 0x54#8 .unknown [])))

/-- What Read Compartment returns (R1, R5, R186, R209): the entry, its holding, the scanner's record and the three
marks. An absent holding is sent as 37 bytes of 0, an origin CONSOLE as 32, and an enumerated value as its position
among the values of its set, which is log 17; a time left is in whole seconds rounded up. -/
def Claims.CompartmentIsRead : Prop :=
  ∀ (s : State) (c : Comp),
    let e := s.entry c
    let seconds := fun left : Nat => (left + 32767999) / 32768000
    let entry : Bool → List Field := fun holds =>
      [.mark e.fitted, .u8 e.size.ctorIdx, .u8 e.use.ctorIdx, .u8 e.state.ctorIdx,
        .opt8 (e.cause.map fun k => k.ctorIdx), .presence holds]
    let holding : Holding → List Field := fun x =>
      [.u8 x.record.val, .parcel x.parcelRef, .u8 x.size.ctorIdx, .u8 x.tariffClass.val, .opt32 x.depositMinute,
        .opt8 (x.rest.map fun r => r.ctorIdx), .opt8 (x.claimant.map fun k => k.ctorIdx),
        .u8 (match x.origin with
          | .slot n => n.val
          | .console => 32),
        .u8 x.causes.length] ++ x.causes.map (fun k => .u8 k.ctorIdx) ++
        [.mark x.releaseInterrupted, .mark x.collectIncomplete]
    let door : List Field := match s.door c with
      | none => [.opt8 none, .opt8 none, .opt8 none, .opt8 none, .opt16 none, .opt8 none]
      | some .shut => [.opt8 (some 0), .opt8 none, .opt8 none, .opt8 none, .opt16 none, .opt8 none]
      | some (.released k left) =>
        [.opt8 (some 1), .opt8 (some k.ctorIdx), .opt8 none, .opt8 (some (seconds left)), .opt16 none, .opt8 none]
      | some (.opened k left p) => [.opt8 (some 2), .opt8 none, .opt8 (k.map fun x => x.ctorIdx), .opt8 none,
          .opt16 (some (seconds left)), .opt8 (p.map fun x => x.ctorIdx)]
      | some (.ajar k p) => [.opt8 (some 3), .opt8 none, .opt8 (k.map fun x => x.ctorIdx), .opt8 none, .opt16 none,
          .opt8 (p.map fun x => x.ctorIdx)]
      | some (.forced p) =>
        [.opt8 (some 4), .opt8 none, .opt8 none, .opt8 none, .opt16 none, .opt8 (p.map fun x => x.ctorIdx)]
    let marks : List Field := [.mark (s.scanner.owed.get c.column), .mark (s.hasEntry c), .mark (s.pendingFor c)]
    (e.holding = none → s.compFields c = entry false ++ [.blank 37] ++ door ++ marks) ∧
    (∀ x, e.holding = some x → s.compFields c = entry true ++ holding x ++ door ++ marks)

/-- What Read Consignment and Read Charge return (R9, R125, R144, R209). A slot's position in the ended list counts from
0, which is log 42, and the end cause has a presence byte before its position among the causes, which is log 17. -/
def Claims.RecordsAreRead : Prop :=
  (∀ (n : RecordNo) (k : Consignment), k.fields n =
    [.u8 n.val, .optCode k.code, .u8 k.kind.ctorIdx, .u8 k.carrier.val, .comps k.pieces, .u32 k.cod, .u32 k.laneO,
      .u32 k.laneK, .u32 k.paidO, .u32 k.paidK, .opt32 k.paidThrough, .mark k.waived, .optRef k.openRef]) ∧
  ∀ (s : State) (i : ChargeSlot),
    let r := s.charge i
    let fields : Option Nat → List Field := fun position =>
      [.u8 i.val, .u8 (s.charges.gens.get i), .u8 r.state.ctorIdx, .opt8 (r.record.map fun n => n.val), .u32 r.laneO,
        .u32 r.laneK, .u32 r.creation, .u8 ((r.expiry + 32767999) / 32768000), .opt32 r.paymentMinute,
        .opt8 (r.cause.map fun k => k.ctorIdx), .opt8 position]
    (i ∉ s.charges.ended → s.chargeFields i = fields none) ∧
    (∀ older younger, s.charges.ended = older ++ i :: younger → i ∉ older →
      s.chargeFields i = fields (some older.length))

/-- What the parts of Read Queue return (R46, R71, R78, R145, R149, R163, R166, R168, R210): each list as its length and
then its records, which is log 17, and the flight record in the order of the takings, which is log 56. A
record's progress, STARTED 0 and COMPLETE 1, is log 58. The PICKUP part names the STARTED PICKUP of a window slot. -/
def Claims.QueuesAreRead : Prop :=
  ∀ s : State,
    let entry : Entry → List Field := fun e =>
      [.u8 e.comp.val, .u8 e.cls.ctorIdx, .u8 e.purpose.ctorIdx,
        .u8 (match e.origin with
          | .console => 0
          | .courier => 1
          | .operations => 2
          | .payment => 3),
        .u8 e.attempt, .u8 e.passOver, .mark e.restore, .mark e.inFlight]
    let record : WindowRecord → List Field := fun r =>
      [.u8 r.slot.val, .u8 r.kind.ctorIdx, .u8 (if r.outcome = none then 0 else 1), .opt8 (r.outcome.map fun x => x.ctorIdx),
        .opt8 (r.carrier.map fun i => i.val), .opt8 (r.comp.map fun c => c.val), .optCode r.code, .opt32 r.depositMinute,
        .mark r.codClamped] ++
        if r.kind = .pickup then [.u8 r.claimed, .u8 r.retrieved, .u8 r.notOpened] else []
    s.queueFields = [.u8 s.seq.queue.length] ++ s.seq.queue.flatMap entry ++
      (s.seq.columns.toList.map fun x => .u8 x.ctorIdx) ++
      [.u8 s.seq.budget, .u16 s.seq.pulseLength, .mark s.seq.svcKey, .comps s.seq.pendingService,
        .u8 s.seq.flight.length] ++
      s.seq.flight.flatMap (fun f => [.u8 f.comp.val, .u8 f.purpose.ctorIdx]) ∧
    s.engineFields = [.u8 s.engine.state.ctorIdx, .u8 s.engine.pointer.val, .u8 s.engine.window.length] ++
      s.engine.window.flatMap record ∧
    s.listFields = [.u8 s.paidReturns.length] ++ (s.paidReturns.map fun n => .u8 n.val) ++
      [.u8 s.charges.ended.length] ++ (s.charges.ended.map fun i => .u8 i.val) ∧
    ∀ slot : Nat,
      let at_ := fun r : WindowRecord => r.slot.val = slot ∧ r.outcome = none ∧ r.kind = .pickup
      (∀ r, s.pickupAt slot = some r ↔ ∃ older younger, s.engine.window = older ++ r :: younger ∧ at_ r ∧
        ∀ q ∈ older, ¬ at_ q) ∧
      (s.pickupAt slot = none ↔ ∀ q ∈ s.engine.window, ¬ at_ q)

/-- What the reads of settings return (R49, R65, R92, R93, R96, R115, R124): the fields of a carrier entry, of a tariff
class and of the bank in the widths of log 40, and the sticky set with the first-raised minute of each condition in it,
in their order, which is log 17. -/
def Claims.SettingsAreRead : Prop :=
  (∀ e : CarrierEntry, e.fields =
    [.u32 e.id, .mark e.enabled,
      .u8 (e.rights.deliver.toNat + 2 * e.rights.pickupReturns.toNat + 4 * e.rights.cod.toNat +
        8 * e.rights.acceptReturns.toNat),
      .u8 (e.sizes.s.toNat + 2 * e.sizes.m.toNat + 4 * e.sizes.l.toNat + 8 * e.sizes.xl.toNat),
      .u8 e.tariffClass.val, .u8 e.mode.ctorIdx, .u8 e.quota]) ∧
  (∀ t : ClassValues, classFields t = [.u16 t.f, .u8 t.u, .u8 t.b, .u16 t.r1, .u16 t.r2, .u32 t.c, .u16 t.l]) ∧
  (∀ b : BankSettings, b.fields =
    [.u8 b.mult.s, .u8 b.mult.m, .u8 b.mult.l, .u8 b.mult.xl, .u32 b.fee.s, .u32 b.fee.m, .u32 b.fee.l, .u32 b.fee.xl,
      .u8 b.rounding.ctorIdx, .u8 b.grace]) ∧
  ∀ s : State,
    let p := s.tariff.sticky
    s.stickyFields = .conds ⟨p.clock.isSome, p.tariff.isSome, p.sat.isSome, p.capped.isSome, p.round.isSome,
      p.overpaid.isSome⟩ :: ([p.clock, p.tariff, p.sat, p.capped, p.round, p.overpaid].filterMap id).map .u32

/-! ### Settings -/

/-- Set Masks masks exactly the conditions of its set; a set naming anything else is refused FORMAT (R117). That the
answer carries the masks as one condition set is log 41. -/
def Claims.SetMasksMasksTheSet : Prop :=
  ∀ (h : Head) (set : Byte) (s : State), s.FramePasses h .operations 1 →
    (∀ c : CondSet, condsOf set = some c →
      exec (.setMasks h set) s =
        .next (({ s with tariff := { s.tariff with masks := c } } : State).answeredDone h 0x49#8 [.conds c])) ∧
    (64 ≤ set.toNat → exec (.setMasks h set) s = .next (s.refusedWith h 0x49#8 .format []))

/-- Clear Conditions removes the conditions of its set from the sticky set with their first-raised minutes, and leaves
the others (R122). That the answer carries the first-raised minutes of the conditions present, in order, is log 17. -/
def Claims.ClearConditionsClearsTheSet : Prop :=
  ∀ (h : Head) (set : Byte) (s : State), s.FramePasses h .operations 1 →
    (∀ c : CondSet, condsOf set = some c →
      exec (.clearConditions h set) s = .next ((s.clearSticky c).answeredDone h 0x4A#8 (s.clearSticky c).stickyFields) ∧
      ∀ k : Condition, condAt (s.clearSticky c).tariff.sticky k =
        if condAt c k then none else condAt s.tariff.sticky k) ∧
    (64 ≤ set.toNat → exec (.clearConditions h set) s = .next (s.refusedWith h 0x4A#8 .format []))

/-- Set Tariff of a class writes the selected fields, each clamped to the top of its range, and no other; a set naming
another field is refused FORMAT, and so is a target above 4 (R94). The answer carries the fields as they stand (log
31), in the widths of log 40. -/
def Claims.SetTariffWritesTheClass : Prop :=
  ∀ (h : Head) (i : Fin 4) (sel : BitVec 16) (v : ClassValues) (b : BankValues) (s : State),
    s.FramePasses h .operations 25 →
    let old := s.tariff.classes.get i
    let new : ClassValues :=
      { f := if sel.getLsbD 0 then min v.f 1440 else old.f, u := if sel.getLsbD 1 then min v.u 255 else old.u
        b := if sel.getLsbD 2 then min v.b 255 else old.b, r1 := if sel.getLsbD 3 then min v.r1 9999 else old.r1
        r2 := if sel.getLsbD 4 then min v.r2 9999 else old.r2, c := if sel.getLsbD 5 then min v.c 99999 else old.c
        l := if sel.getLsbD 6 then min v.l 10080 else old.l }
    (sel.toNat < 128 → exec (.setTariff h i.val sel v b) s =
      .next (({ s with tariff := { s.tariff with classes := put s.tariff.classes i new } } : State).answeredDone h 0x47#8
        [.u16 new.f, .u8 new.u, .u8 new.b, .u16 new.r1, .u16 new.r2, .u32 new.c, .u16 new.l])) ∧
    (128 ≤ sel.toNat → exec (.setTariff h i.val sel v b) s = .next (s.refusedWith h 0x47#8 .format [])) ∧
    (∀ n, 4 < n → exec (.setTariff h n sel v b) s = .next (s.refusedWith h 0x47#8 .format []))

/-- Set Tariff of BANK writes the selected fields, each clamped, and no other; a rounding mode outside its set, when it
is selected, and a set naming another field are refused FORMAT (R93, R94). -/
def Claims.SetTariffWritesTheBank : Prop :=
  ∀ (h : Head) (sel : BitVec 16) (v : ClassValues) (b : BankValues) (s : State), s.FramePasses h .operations 25 →
    let old := s.tariff.bank
    let new : BankSettings :=
      { mult := ⟨if sel.getLsbD 0 then min b.mult.s 255 else old.mult.s,
          if sel.getLsbD 1 then min b.mult.m 255 else old.mult.m,
          if sel.getLsbD 2 then min b.mult.l 255 else old.mult.l,
          if sel.getLsbD 3 then min b.mult.xl 255 else old.mult.xl⟩
        fee := ⟨if sel.getLsbD 4 then min b.fee.s 99999 else old.fee.s,
          if sel.getLsbD 5 then min b.fee.m 99999 else old.fee.m,
          if sel.getLsbD 6 then min b.fee.l 99999 else old.fee.l,
          if sel.getLsbD 7 then min b.fee.xl 99999 else old.fee.xl⟩
        rounding := if sel.getLsbD 8 then b.rounding.getD old.rounding else old.rounding
        grace := if sel.getLsbD 9 then min b.grace 30 else old.grace }
    (sel.toNat < 1024 → (sel.getLsbD 8 = true → b.rounding ≠ none) →
      exec (.setTariff h 4 sel v b) s =
        .next (({ s with tariff := { s.tariff with bank := new } } : State).answeredDone h 0x47#8 new.fields)) ∧
    (1024 ≤ sel.toNat ∨ (sel.getLsbD 8 = true ∧ b.rounding = none) →
      exec (.setTariff h 4 sel v b) s = .next (s.refusedWith h 0x47#8 .format []))

/-- Set Carrier writes the selected fields, a quota above 144 as 144, and no other. It is refused FORMAT for an index
above 7, a set naming another field, and a selected value outside its set, OCCUPIED when it changes the ID of a
carrier with a live count, and DUPLICATE when it would leave two enabled entries with one ID (R51, R52). The bits of
its sets are log 23, the fields of its answer log 31. -/
def Claims.SetCarrierWritesTheEntry : Prop :=
  ∀ (h : Head) (i : Fin 8) (sel : BitVec 16) (v : CarrierFields) (s : State), s.FramePasses h .operations 13 →
    let old := s.carriers.get i
    let new := old.written sel v
    let malformed := 128 ≤ sel.toNat ∨ (sel.getLsbD 1 = true ∧ v.enabled = none) ∨
      (sel.getLsbD 2 = true ∧ 16 ≤ v.rights.toNat) ∨ (sel.getLsbD 3 = true ∧ 16 ≤ v.sizes.toNat) ∨
      (sel.getLsbD 4 = true ∧ 4 ≤ v.tariffClass) ∨ (sel.getLsbD 5 = true ∧ v.mode = none)
    let second := new.enabled = true ∧ ∃ j, j ≠ i ∧ (s.carriers.get j).enabled = true ∧ (s.carriers.get j).id = new.id
    (malformed → exec (.setCarrier h i.val sel v) s = .next (s.refusedWith h 0x45#8 .format [])) ∧
    (∀ n, 7 < n → exec (.setCarrier h n sel v) s = .next (s.refusedWith h 0x45#8 .format [])) ∧
    (¬ malformed → new.id ≠ old.id → 0 < old.live →
      exec (.setCarrier h i.val sel v) s = .next (s.refusedWith h 0x45#8 .occupied [])) ∧
    (¬ malformed → new.id = old.id ∨ old.live = 0 →
      (second → exec (.setCarrier h i.val sel v) s = .next (s.refusedWith h 0x45#8 .duplicate [])) ∧
      (¬ second → exec (.setCarrier h i.val sel v) s = .next ((s.putCarrier i new).answeredDone h 0x45#8 new.fields))) ∧
    new = { old with
      id := if sel.getLsbD 0 then v.id else old.id
      enabled := if sel.getLsbD 1 then v.enabled.getD old.enabled else old.enabled
      rights := if sel.getLsbD 2 then (rightsOf v.rights).getD old.rights else old.rights
      sizes := if sel.getLsbD 3 then (sizesOf v.sizes).getD old.sizes else old.sizes
      tariffClass := if sel.getLsbD 4 then (classOf v.tariffClass).getD old.tariffClass else old.tariffClass
      mode := if sel.getLsbD 5 then v.mode.getD old.mode else old.mode
      quota := if sel.getLsbD 6 then min v.quota 144 else old.quota }

/-- Set Timing writes the selected settings, each clamped at both ends of its range, and lets the arbiter look (R166,
R167, R183); a budget below the in-flight set is refused OCCUPIED, a set naming another field FORMAT. -/
def Obligations.SetTimingWritesTheSettings : Prop :=
  ∀ (h : Head) (sel : BitVec 16) (v : TimingFields) (s : State), s.FramePasses h .operations 8 →
    (sel.toNat < 16 → (sel.getLsbD 1 = true → s.flying.length ≤ max 1 (min v.budget 3)) →
      let u : State := { s with
        arbiterDue := true
        seq := { s.seq with
          pulseLength := if sel.getLsbD 0 then max 80 (min v.pulseLength 300) else s.seq.pulseLength
          budget := if sel.getLsbD 1 then max 1 (min v.budget 3) else s.seq.budget }
        scanner := { s.scanner with
          openWindow := if sel.getLsbD 2 then max 5 (min v.openWindow 60) else s.scanner.openWindow
          ajarTime := if sel.getLsbD 3 then max 30 (min v.ajarTime 600) else s.scanner.ajarTime } }
      exec (.setTiming h sel v) s = .next (((u.frameTaken h.port).complete).respond h 0x50#8
        (done [.u16 u.seq.pulseLength, .u8 u.seq.budget, .u8 u.scanner.openWindow, .u16 u.scanner.ajarTime]))) ∧
    (sel.toNat < 16 → sel.getLsbD 1 = true → max 1 (min v.budget 3) < s.flying.length →
      exec (.setTiming h sel v) s = .next (s.refusedWith h 0x50#8 .occupied [])) ∧
    (16 ≤ sel.toNat → exec (.setTiming h sel v) s = .next (s.refusedWith h 0x50#8 .format []))

/-! ### The console (chapters 2 and 7) -/

/-- Lookup of a known code: the limiter's count becomes 0, the evaluation's conditions join the sticky set, and the
response carries the consignment summary; nothing else changes (R35 to R37, R97, R115). -/
def Claims.LookupReadsTheConsignment : Prop :=
  ∀ (h : Head) (code : Text) (n : Nat) (r : RecordNo) (k : Consignment) (s : State),
    s.FramePasses h .console 8 → s.InService → parseCode code = some n → s.limiter.lockout = none →
    s.findCode n = some r → s.record r = some k →
    let ev := s.evaluate k
    exec (.lookup h code) s = .next (((s.knownAttempt).addSticky ev.raised).answeredDone h 0x10#8
      [.summary (s.summary r k ev)])

/-- The consignment summary (R37), with what it takes from the evaluation: the pieces in list order, collectable where
every piece has left RESERVED and LOADING (R11), the open charge with its state (R127), and the raised conditions with
those of them that no mask holds (R117). -/
def Claims.SummaryOfAConsignment : Prop :=
  ∀ (s : State) (n : RecordNo) (k : Consignment) (ev : Evaluation),
    s.summary n k ev =
      { record := n, carrierId := (s.carriers.get k.carrier).id, collectable := s.collectable k
        pieces := k.pieces.filterMap fun c => (s.holding c).map fun x =>
          { comp := c, size := x.size, state := s.custodyState c, depositMinute := x.depositMinute
            collectIncomplete := x.collectIncomplete, releaseInterrupted := x.releaseInterrupted }
        laneO := ev.laneO, laneK := ev.laneK, paidO := k.paidO, paidK := k.paidK, dueO := ev.dueO, dueK := ev.dueK
        total := ev.total, waived := k.waived, paidThrough := k.paidThrough
        openRef := k.openRef.bind fun ref =>
          (s.chargeNamed ref.slot ref.gen).map fun r => (ref, r.state)
        minute := s.clock.minute, raised := ev.raised, unmasked := s.unmaskedOf ev.raised } ∧
    (s.collectable k = true ↔ k.pieces ≠ [] ∧
      ∀ c ∈ k.pieces, s.custodyState c ≠ .reserved ∧ s.custodyState c ≠ .loading) ∧
    ∀ (raised : CondSet) (q : Condition),
      condAt (s.unmaskedOf raised) q = (condAt raised q && !condAt s.tariff.masks q)

/-- What an evaluation adds to the sticky set (R115): a condition that enters it takes the present minute as its
first-raised minute, and one in it keeps its own. A known code sets the limiter's count to 0 (R35). -/
def Claims.EvaluationsAddToTheStickySet : Prop :=
  ∀ (s : State) (raised : CondSet) (q : Condition),
    condAt (s.addSticky raised).tariff.sticky q =
      (match condAt s.tariff.sticky q with
        | some m => some m
        | none => if condAt raised q then some s.clock.minute else none) ∧
    s.addSticky raised =
      { s with tariff := { s.tariff with sticky := (s.addSticky raised).tariff.sticky } } ∧
    s.knownAttempt = { s with limiter := { s.limiter with count := 0 } }

/-- The checks of a code, for Lookup, Quote and Collect alike: not 8 digits FORMAT; limiter locked LOCKED with the whole
seconds left, rounded up, in the two bytes of log 17; code not in use UNKNOWN, one wrong attempt more, and at the fifth
the lockout timer starts at 300 s (R32 to R35). -/
def Claims.CodeChecks : Prop :=
  ∀ (h : Head) (code : Text) (s : State), s.FramePasses h .console 8 → s.InService →
    ∀ p ∈ [(Instr.lookup h code, 0x10#8), (Instr.quote h code, 0x11#8), (Instr.collect h code, 0x13#8)],
      (parseCode code = none → exec p.1 s = .next (s.refusedWith h p.2 .format [])) ∧
      (∀ n left, parseCode code = some n → s.limiter.lockout = some left →
        exec p.1 s = .next (s.refusedWith h p.2 .locked [.u16 ((left + 32767999) / 32768000)])) ∧
      (∀ n, parseCode code = some n → s.limiter.lockout = none → s.findCode n = none →
        let count := s.limiter.count + 1
        exec p.1 s = .next (({ s with limiter :=
          { count := count, lockout := if 5 ≤ count then some (secUnits 300) else none } } : State).refusedWith
            h p.2 .unknown []))

/-- An accepted Quote: an OPEN charge of the consignment is voided REQUOTE, the charge is opened for due O and due K in
the slot R128 names with the next generation and 120 s, and the answer carries it (R128, R129). -/
def Claims.QuoteOpensACharge : Prop :=
  ∀ (h : Head) (code : Text) (n : Nat) (r : RecordNo) (k : Consignment) (i : ChargeSlot) (s : State),
    s.FramePasses h .console 8 → s.InService → parseCode code = some n → s.limiter.lockout = none →
    s.findCode n = some r → s.record r = some k → s.collectable k = true →
    s.openChargeIs k .presented = false →
    let ev := s.evaluate k
    (s.unmaskedOf ev.raised).any = false → ev.total ≠ 0 →
    let s1 := ((s.knownAttempt).addSticky ev.raised).voidOpen k .requote
    s1.slotToTake = some i →
    let s2 := s1.openIn i r ev.dueO ev.dueK
    exec (.quote h code) s = .next ((s2.frameTaken h.port).respond h 0x11#8
        (accepted [.u8 i.val, .u8 (s2.charges.gens.get i), .u32 ev.dueO, .u32 ev.dueK, .u32 ev.total,
          .u32 s.clock.minute, .conds ev.raised])) ∧
      (s2.charge i).state = .opened ∧ (s2.charge i).laneO = ev.dueO ∧ (s2.charge i).laneK = ev.dueK ∧
      (s2.charge i).expiry = secUnits 120 ∧
      s2.charges.gens.get i = (s1.charges.gens.get i + 1) % 256

/-- What the opening of a charge writes (R125, R128): its slot leaves the ended list and takes the next generation, its
record is OPEN for the consignment with the lanes, the present second and 120 s, with neither payment minute nor end
cause, and the consignment's open charge reference names it. -/
def Claims.OpeningAChargeWrites : Prop :=
  ∀ (s : State) (i : ChargeSlot) (n : RecordNo) (laneO laneK : Nat),
    let t := s.openIn i n laneO laneK
    let gen := (s.charges.gens.get i + 1) % 256
    t.charge i = { state := .opened, record := some n, laneO := laneO, laneK := laneK, creation := s.charges.second
                   expiry := secUnits 120, paymentMinute := none, cause := none
                   code := (s.record n).bind fun k => k.code } ∧
    (∀ j, j ≠ i → t.charge j = s.charge j) ∧
    t.charges.gens = put s.charges.gens i gen ∧ t.charges.ended = s.charges.ended.filter (· != i) ∧
    t.record n = (s.record n).map (fun k => { k with openRef := some { slot := i, gen := gen } }) ∧
    (∀ m, m ≠ n → t.record m = s.record m)

/-- The refusals of a Quote or Collect that follow the code's checks, in their order: not collectable NOT_READY, a
PRESENTED charge PAYING, an unmasked condition REVIEW, then for a Quote of nothing NOTHING_DUE and for a Collect with
dues DUE with the amounts (R38, R40, R129). With an unmasked condition the pieces are taken in list order, then a
CONDITION notice with the conditions and the request goes to operations, and the refusal carries the conditions (R119,
R120). -/
def Claims.QuoteAndCollectChecks : Prop :=
  ∀ (h : Head) (code : Text) (n : Nat) (r : RecordNo) (k : Consignment) (s : State),
    s.FramePasses h .console 8 → s.InService → parseCode code = some n → s.limiter.lockout = none →
    s.findCode n = some r → s.record r = some k →
    let ev := s.evaluate k
    let s0 := s.knownAttempt
    let s1 := s0.addSticky ev.raised
    let u := s.unmaskedOf ev.raised
    let stopped := fun by_ : Detail => ((k.pieces.foldl State.feeConditionPiece (s1.frameTaken h.port)).post .operations
      { kind := .condition, minute := s.clock.minute, comp := s.conditionComp k ev, cons := k.code.map ConsForm.code,
        slot := none, ref := none, detail := none, qualifier := some by_, set := u, amount := 0 }).complete
    (s.collectable k = false →
      exec (.quote h code) s = .next (s0.refusedWith h 0x11#8 .notReady []) ∧
      exec (.collect h code) s = .next (s0.refusedWith h 0x13#8 .notReady [])) ∧
    (s.collectable k = true → s.openChargeIs k .presented = true →
      exec (.quote h code) s = .next (s0.refusedWith h 0x11#8 .paying []) ∧
      exec (.collect h code) s = .next (s0.refusedWith h 0x13#8 .paying [])) ∧
    (s.collectable k = true → s.openChargeIs k .presented = false → u.any = true →
      exec (.quote h code) s = .next ((stopped .quote).respond h 0x11#8 (refuseWith .review [.conds u])) ∧
      exec (.collect h code) s = .next ((stopped .collect).respond h 0x13#8 (refuseWith .review [.conds u]))) ∧
    (s.collectable k = true → s.openChargeIs k .presented = false → u.any = false →
      (ev.total = 0 → exec (.quote h code) s = .next (s1.refusedWith h 0x11#8 .nothingDue [])) ∧
      (ev.total ≠ 0 → exec (.collect h code) s =
        .next (s1.refusedWith h 0x13#8 .due [.u32 ev.dueO, .u32 ev.dueK, .u32 ev.total])))

/-- The refusals of a Quote and a Collect that follow those: a Quote whose charge finds no slot is refused QFULL
(R128, R129); a Collect of nothing due is refused for its first piece, in list order, that a Collect's claim does not
admit, CLAIMED, REVIEW or OUT_OF_SERVICE by its state, then OCCUPIED where a piece has a release entry, then QFULL
where the queue has fewer free entries than pieces (R21, R22, R38, R41). -/
def Claims.LaterQuoteAndCollectChecks : Prop :=
  ∀ (h : Head) (code : Text) (n : Nat) (r : RecordNo) (k : Consignment) (s : State),
    s.FramePasses h .console 8 → s.InService → parseCode code = some n → s.limiter.lockout = none →
    s.findCode n = some r → s.record r = some k → s.collectable k = true → s.openChargeIs k .presented = false →
    let ev := s.evaluate k
    (s.unmaskedOf ev.raised).any = false →
    let s1 := s.knownAttempt.addSticky ev.raised
    let refused := fun x : Reason => exec (.collect h code) s = .next (s1.refusedWith h 0x13#8 x [])
    let admits := fun c : Comp => s.custodyState c = .held ∨ s.custodyState c = .overstayed
    (ev.total ≠ 0 → (s1.voidOpen k .requote).slotToTake = none →
      exec (.quote h code) s = .next (s1.refusedWith h 0x11#8 .qfull [])) ∧
    (ev.total = 0 →
      (∀ older c younger, k.pieces = older ++ c :: younger → (∀ d ∈ older, admits d) →
        (s.custodyState c = .releasing ∨ s.custodyState c = .emptying → refused .claimed) ∧
        (s.custodyState c = .review → refused .review) ∧
        (s.custodyState c = .outOfService → refused .outOfService)) ∧
      ((∀ c ∈ k.pieces, admits c) →
        ((∃ c ∈ k.pieces, s.hasEntry c = true) → refused .occupied) ∧
        ((∀ c ∈ k.pieces, s.hasEntry c = false) → 16 < k.pieces.length + s.seq.queue.length → refused .qfull)))

/-- What an unmasked condition does to a piece, by its custody state: at rest it enters REVIEW with FEE_CONDITION
appended and its rest state kept, and a REVIEW notice goes to operations; in REVIEW the cause is appended without a
notice; in every other state nothing changes (R6, R26, R119). The notice names the first piece whose own evaluation
raised an unmasked condition, or the first piece (R120). -/
def Claims.ConditionsReachThePieces : Prop :=
  (∀ (s : State) (c : Comp) (x : Holding), s.holding c = some x →
    ((s.custodyState c).isRest = true → (s.feeConditionPiece c).entry c = { s.entry c with
        state := .review, holding := some { x.addCause .feeCondition with claimant := none } } ∧
      ∃ m : Notice, m.kind = .review ∧ m.comp = some c ∧ m.detail = some (.word .feeCondition) ∧
        m.cons = s.codeForm c ∧ m.minute = s.clock.minute ∧
        (s.feeConditionPiece c).ports = (s.post .operations m).ports) ∧
    (s.custodyState c = .review → (s.feeConditionPiece c).entry c =
        { s.entry c with holding := some (x.addCause .feeCondition) } ∧ (s.feeConditionPiece c).ports = s.ports) ∧
    ((s.custodyState c).isRest = false → s.custodyState c ≠ .review → s.feeConditionPiece c = s) ∧
    (∀ d, d ≠ c → (s.feeConditionPiece c).entry d = s.entry d) ∧
    (x.causes.contains .feeCondition = false → x.causes.length < 4 →
      (x.addCause .feeCondition).causes = x.causes ++ [.feeCondition])) ∧
  ∀ (s : State) (k : Consignment),
    let found := (s.evaluate k).pieces.filter fun p => (s.unmaskedOf p.raised).any
    (∀ p rest, found = p :: rest → s.conditionComp k (s.evaluate k) = some p.comp) ∧
    (found = [] → s.conditionComp k (s.evaluate k) = k.pieces.head?)

/-- An accepted Collect: every piece is claimed by the customer, an OPEN charge is voided COLLECT, one COLLECT release
is asked for each piece in list order, and the answer is ACCEPTED with the record number and the pieces (R38, R41). -/
def Claims.CollectClaimsEveryPiece : Prop :=
  ∀ (h : Head) (code : Text) (n : Nat) (r : RecordNo) (k : Consignment) (s : State),
    s.FramePasses h .console 8 → s.InService → parseCode code = some n → s.limiter.lockout = none →
    s.findCode n = some r → s.record r = some k → s.collectable k = true → s.openChargeIs k .presented = false →
    (s.unmaskedOf (s.evaluate k).raised).any = false → (s.evaluate k).total = 0 →
    (∀ c ∈ k.pieces, s.custodyState c = .held ∨ s.custodyState c = .overstayed) →
    (∀ c ∈ k.pieces, s.hasEntry c = false) → k.pieces.length + s.seq.queue.length ≤ 16 →
    let s1 := ((s.frameTaken h.port).knownAttempt).addSticky (s.evaluate k).raised
    let s2 := (k.pieces.foldl (fun t c => t.claim c .customer) s1).voidOpen k .collect
    exec (.collect h code) s = .next (((k.pieces.foldl (fun t c =>
      t.request { comp := c, cls := .custody, purpose := .collect, origin := .console, attempt := 1, passOver := 0,
                  restore := false, inFlight := false }) s2).complete).respond h 0x13#8
        (accepted [.u8 r.val, .comps k.pieces]))

/-- A claim moves a holding to RELEASING, sets its claimant, clears COLLECT_INCOMPLETE, and changes no other field of it
and no other compartment (R21). -/
def Claims.ClaimMakesReleasing : Prop :=
  ∀ (s : State) (c : Comp) (w : Claimant) (x : Holding), s.holding c = some x →
    (s.claim c w).custodyState c = .releasing ∧
    (s.claim c w).holding c = some { x with claimant := some w, collectIncomplete := false } ∧
    (∀ d, d ≠ c → (s.claim c w).entry d = s.entry d) ∧ (s.claim c w).ports = s.ports ∧
    (s.claim c w).seq = s.seq ∧ (s.claim c w).carriers = s.carriers

/-- An accepted Return Begin commits the drop, with the fee lanes of R105; without a fee its release is asked for at
once, and with one its charge is opened in the slot R128 names (R43 to R45). That the answer carries the charge
reference as an optional field, absent without a fee, is log 52. -/
def Claims.ReturnBeginCommitsTheDrop : Prop :=
  ∀ (h : Head) (id : Nat) (z : SizeClass) (ref : Text) (i : Fin 8) (c : Comp) (n : RecordNo) (s : State),
    s.FramePasses h .console 26 → s.InService → parcelOk ref = true → s.matchCarrier id = .found i →
    (s.carriers.get i).rights.acceptReturns = true → sizeAt (s.carriers.get i).sizes z = true →
    s.quotaAdmits i 1 = true → s.placeOne .returnDrop z [] = some c → s.freeRecord = some n →
    let lanes := returnLanes (s.carriers.get i).mode (sizeAt s.tariff.bank.fee z)
    let s1 := (s.frameTaken h.port).commitReturn n i c z (parcelOf ref)
    (lanes.1 + lanes.2 = 0 → s.seq.queue.length < 16 →
      exec (.returnBegin h id (some z) ref) s = .next (((s1.request (returnEntry c)).complete).respond h 0x14#8
        (accepted [.u8 c.val, .u8 n.val, .u32 lanes.1, .u32 lanes.2, .optRef none]))) ∧
    (∀ j : ChargeSlot, lanes.1 + lanes.2 ≠ 0 → s.slotToTake = some j →
      exec (.returnBegin h id (some z) ref) s =
        .next (((s1.openIn j n lanes.1 lanes.2).complete).respond h 0x14#8
          (accepted [.u8 c.val, .u8 n.val, .u32 lanes.1, .u32 lanes.2,
            .optRef (some { slot := j, gen := (s.charges.gens.get j + 1) % 256 })])))

/-- The commitment of a return drop (R10, R44, R50, R105): its record of kind RETURN without a code, with the two
lanes of the carrier's return mode; its holding in RESERVED with the requested size class and the carrier's tariff
class; the live count raised by one; and no other record, entry, carrier or code. -/
def Claims.ReturnIsCommitted : Prop :=
  ∀ (s : State) (n : RecordNo) (i : Fin 8) (c : Comp) (z : SizeClass) (ref : Option Text),
    let t := s.commitReturn n i c z ref
    let e := s.carriers.get i
    let lanes := returnLanes e.mode (sizeAt s.tariff.bank.fee z)
    t.record n = some
      { code := none, kind := .returnDrop, carrier := i, pieces := [c], cod := 0, laneO := lanes.1, laneK := lanes.2,
        paidO := 0, paidK := 0, paidThrough := none, waived := false, openRef := none } ∧
    (∀ m, m ≠ n → t.record m = s.record m) ∧ t.custody.codeMap = s.custody.codeMap ∧
    t.entry c = { s.entry c with
      state := .reserved, cause := none
      holding := some { record := n, parcelRef := ref, size := z, tariffClass := e.tariffClass, depositMinute := none,
                        rest := none, claimant := none, origin := .console, causes := [],
                        releaseInterrupted := false, collectIncomplete := false } } ∧
    (∀ d, d ≠ c → t.entry d = s.entry d) ∧ t.carriers.get i = { e with live := e.live + 1 } ∧
    (∀ j, j ≠ i → t.carriers.get j = s.carriers.get j) ∧ t.charges = s.charges ∧ t.seq = s.seq ∧ t.ports = s.ports

/-- The refusals of Return Begin, in their order (R43): FORMAT, the carrier's match and its right UNKNOWN, the size
class NO_SPACE, the quota QUOTA, no compartment NO_SPACE, and QFULL, for the release where the fee total is 0 and for
the charge where it is not. The slot that a charge takes is the lowest-numbered FREE one, or else the head of the
ended list (R128). -/
def Claims.ReturnBeginRefuses : Prop :=
  (∀ (h : Head) (id : Nat) (z : SizeClass) (ref : Text) (s : State), s.FramePasses h .console 26 → s.InService →
    let refused := fun (size : Option SizeClass) (r : Reason) =>
      exec (.returnBegin h id size ref) s = .next (s.refusedWith h 0x14#8 r [])
    refused none .format ∧ (parcelOk ref = false → refused (some z) .format) ∧
    (parcelOk ref = true →
      (s.matchCarrier id = .notPermitted ∨ s.matchCarrier id = .unknown → refused (some z) .unknown) ∧
      (∀ i, s.matchCarrier id = .found i →
        let e := s.carriers.get i
        let lanes := returnLanes e.mode (sizeAt s.tariff.bank.fee z)
        (e.rights.acceptReturns = false → refused (some z) .unknown) ∧
        (e.rights.acceptReturns = true →
          (sizeAt e.sizes z = false → refused (some z) .noSpace) ∧
          (sizeAt e.sizes z = true →
            (e.quota < e.live + 1 → refused (some z) .quota) ∧
            (e.live + 1 ≤ e.quota →
              (s.placeOne .returnDrop z [] = none → refused (some z) .noSpace) ∧
              (∀ c n, s.placeOne .returnDrop z [] = some c → s.freeRecord = some n →
                (lanes.1 + lanes.2 = 0 → 16 ≤ s.seq.queue.length → refused (some z) .qfull) ∧
                (lanes.1 + lanes.2 ≠ 0 → s.slotToTake = none → refused (some z) .qfull)))))))) ∧
  ∀ s : State,
    (∀ i, (s.charge i).state = .free → (∀ j, j < i → (s.charge j).state ≠ .free) → s.slotToTake = some i) ∧
    ((∀ i, (s.charge i).state ≠ .free) → s.slotToTake = s.charges.ended.head?)

/-- Return Cancel of a RESERVED, unpaid return: its queued entry is withdrawn, its OPEN charge voided RETURN_CANCEL, its
reservation dropped, and the answer is DONE (R48); with its pulse in progress it is refused OCCUPIED, and once it is
being paid PAYING. -/
def Claims.ReturnCancelDropsTheReservation : Prop :=
  ∀ (h : Head) (n : RecordNo) (x : Sense) (k : Consignment) (c : Comp) (rest : List Comp) (s : State),
    s.FramePasses h .console 1 → s.InService → s.record n = some k → k.kind = .returnDrop → k.pieces = c :: rest →
    s.custodyState c = .reserved →
    (s.entryInFlight c = false → s.returnPaying k = false →
      exec (.returnCancel h n.val x) s = .next
        ((((((s.frameTaken h.port).latch x).withdraw c).voidOpen k .returnCancel).dropReserved c).complete.respond h
          0x15#8 (done []))) ∧
    (s.entryInFlight c = true →
      exec (.returnCancel h n.val x) s = .next ((s.latch x).refusedWith h 0x15#8 .occupied [])) ∧
    (s.entryInFlight c = false → s.returnPaying k = true →
      exec (.returnCancel h n.val x) s = .next ((s.latch x).refusedWith h 0x15#8 .paying []))

/-- The first refusals of Return Cancel, in their order (R48): a record number above 143 FORMAT; a record that is not
in use, or of a delivery, UNKNOWN; a holding that is not RESERVED NOT_READY. -/
def Claims.ReturnCancelRefuses : Prop :=
  ∀ (h : Head) (x : Sense) (s : State), s.FramePasses h .console 1 → s.InService →
    let refused := fun (n : Nat) (r : Reason) =>
      exec (.returnCancel h n x) s = .next ((s.latch x).refusedWith h 0x15#8 r [])
    (∀ n, 143 < n → refused n .format) ∧
    (∀ n : RecordNo, s.record n = none → refused n.val .unknown) ∧
    (∀ (n : RecordNo) k, s.record n = some k → k.kind = .delivery → refused n.val .unknown) ∧
    (∀ (n : RecordNo) k c rest, s.record n = some k → k.kind = .returnDrop → k.pieces = c :: rest →
      s.custodyState c ≠ .reserved → refused n.val .notReady)

/-- Void Quote by the state of the named charge: an OPEN one is voided, with the reservation that waits on it dropped,
a PRESENTED one refused PAYING, a VOID one DONE, every other LATE with its state; a stale reference UNKNOWN, a charge
slot above 7 FORMAT (R126, R127, R130). That the answer has no byte for the compartment and the mark DROPPED where no
reservation was dropped is log 52. -/
def Obligations.VoidQuoteByState : Prop :=
  ∀ (h : Head) (i : ChargeSlot) (g : Nat) (s : State), s.FramePasses h .console 2 → s.InService →
    (∀ r, s.chargeNamed i g = some r →
      (r.state = .opened → exec (.voidQuote h i.val g) s =
        .next ((((s.frameTaken h.port).voidCharge i .voidQuote).1.complete).respond h 0x12#8
          (done (match r.record.bind s.waitingReturn with
            | some c => [.u8 c.val, .mark true]
            | none => [])))) ∧
      (r.state = .presented → exec (.voidQuote h i.val g) s = .next (s.refusedWith h 0x12#8 .paying [])) ∧
      (r.state = .void → exec (.voidQuote h i.val g) s = .next (s.answeredDone h 0x12#8 [])) ∧
      (r.state = .paid ∨ r.state = .declined ∨ r.state = .expired →
        exec (.voidQuote h i.val g) s = .next (s.refusedWith h 0x12#8 .late [.u8 r.state.ctorIdx]))) ∧
    (s.chargeNamed i g = none → exec (.voidQuote h i.val g) s = .next (s.refusedWith h 0x12#8 .unknown [])) ∧
    (∀ n, 7 < n → exec (.voidQuote h n g) s = .next (s.refusedWith h 0x12#8 .format []))

/-- Release Charge frees the slot of an ended charge and keeps its generation; a live charge is refused PAYING, a stale
reference UNKNOWN, a charge slot above 7 FORMAT (R126); it is taken in RESTORING and while no compartment is fitted
(R131). -/
def Obligations.ReleaseChargeFreesTheSlot : Prop :=
  ∀ (h : Head) (i : ChargeSlot) (g : Nat) (s : State), s.FramePasses h .console 2 →
    (∀ r, s.chargeNamed i g = some r → r.state.isEnded = true →
      exec (.releaseCharge h i.val g) s = .next ((s.freeSlot i).answeredDone h 0x16#8 []) ∧
      ((s.freeSlot i).charge i).state = .free ∧ (s.freeSlot i).charges.gens = s.charges.gens ∧
      (s.freeSlot i).charges.ended = s.charges.ended.filter (· != i) ∧
      (∀ j, j ≠ i → (s.freeSlot i).charge j = s.charge j) ∧ (s.freeSlot i).chargeNamed i g = none) ∧
    (∀ r, s.chargeNamed i g = some r → r.state.isLive = true →
      exec (.releaseCharge h i.val g) s = .next (s.refusedWith h 0x16#8 .paying [])) ∧
    (s.chargeNamed i g = none → exec (.releaseCharge h i.val g) s = .next (s.refusedWith h 0x16#8 .unknown [])) ∧
    (∀ n, 7 < n → exec (.releaseCharge h n g) s = .next (s.refusedWith h 0x16#8 .format []))

/-! ### The courier (chapter 4) -/

/-- Slot Write of a COURIER-owned slot writes its kind, flags and request fields and clears its write-back fields; an
ENGINE-owned slot is refused OWNED, and a field no slot can hold FORMAT. Slot Read returns the slot and its progress.
A slot above 31 is refused FORMAT (R68, R69). Each answer DONE carries the engine's state (R71), and a refusal does
not, which is log 49. -/
def Obligations.SlotWriteAndSlotRead : Prop :=
  ∀ (h : Head) (i : RingSlot) (f : SlotFields) (s : State),
    (s.FramePasses h .courier 43 →
      (∀ d, SlotFields.descriptor f = some d → (s.slot i).owner = .courier →
        exec (.slotWrite h i.val f) s = .next
          ((s.putSlot i { owner := .courier, desc := d, back := WriteBack.blank }).answeredDone h 0x20#8
            [.u8 s.engine.state.ctorIdx])) ∧
      (∀ d, SlotFields.descriptor f = some d → (s.slot i).owner = .engine →
        exec (.slotWrite h i.val f) s = .next (s.refusedWith h 0x20#8 .owned [])) ∧
      (SlotFields.descriptor f = none → exec (.slotWrite h i.val f) s = .next (s.refusedWith h 0x20#8 .format [])) ∧
      (∀ n, 31 < n → exec (.slotWrite h n f) s = .next (s.refusedWith h 0x20#8 .format []))) ∧
    (s.FramePasses h .courier 1 →
      exec (.slotRead h i.val) s = .next
        (s.answeredDone h 0x21#8 [.slot i (s.slot i) (s.progressOf i), .u8 s.engine.state.ctorIdx]) ∧
      ∀ n, 31 < n → exec (.slotRead h n) s = .next (s.refusedWith h 0x21#8 .format []))

/-- Hand Over makes its run of COURIER-owned slots ENGINE-owned and changes no other slot, and the engine looks at its
pointer (R70, R75). A slot above 31 and a count outside 1 to 32 are refused FORMAT (R70). A refusal carries no engine
state, which is log 49. -/
def Obligations.HandOverGivesSlotsToTheEngine : Prop :=
  ∀ (h : Head) (i : RingSlot) (count : Nat) (s : State), s.FramePasses h .courier 2 → 1 ≤ count → count ≤ 32 →
    let u := (slotRun i count).foldl State.handSlot s
    ((∀ j ∈ slotRun i count, (s.slot j).owner = .courier) →
      exec (.handOver h i.val count) s = .next (((((u.frameTaken h.port).emit .look).complete).respond h 0x22#8
        (done [.u8 (((u.frameTaken h.port).emit .look).complete).engine.state.ctorIdx]))) ∧
      (∀ j ∈ slotRun i count, u.slot j = { s.slot j with owner := .engine }) ∧
      (∀ j, j ∉ slotRun i count → u.slot j = s.slot j)) ∧
    ((∃ j ∈ slotRun i count, (s.slot j).owner = .engine) →
      exec (.handOver h i.val count) s = .next (s.refusedWith h 0x22#8 .owned [])) ∧
    (∀ n m, 31 < n ∨ m = 0 ∨ 32 < m → exec (.handOver h n m) s = .next (s.refusedWith h 0x22#8 .format []))

/-- Start in STOPPED sets the pointer and moves the engine to RUNNING, and the engine looks; in every other engine state
it is refused NOT_READY, and a slot above 31 FORMAT (R72), without the engine's state, which is log 49. -/
def Claims.StartRunsTheEngine : Prop :=
  ∀ (h : Head) (i : RingSlot) (s : State), s.FramePasses h .courier 1 → s.InService →
    (s.engine.state = .stopped →
      let u := ((((s.frameTaken h.port).setPointer i).setEngine .running).emit .look).complete
      exec (.start h i.val) s = .next (u.respond h 0x23#8 (done [.u8 u.engine.state.ctorIdx]))) ∧
    (s.engine.state ≠ .stopped → exec (.start h i.val) s = .next (s.refusedWith h 0x23#8 .notReady [])) ∧
    (∀ n, 31 < n → exec (.start h n) s = .next (s.refusedWith h 0x23#8 .format []))

/-- Resume moves a SUSPENDED engine to RUNNING, and it looks again; in RUNNING it is DONE with no change, in STOPPED and
STOPPING refused NOT_READY (R73), without the engine's state, which is log 49. -/
def Claims.ResumeByEngineState : Prop :=
  ∀ (h : Head) (s : State), s.FramePasses h .courier 0 → s.power.restoring = false →
    (s.engine.state = .suspended →
      let u := (((s.frameTaken h.port).setEngine .running).emit .look).complete
      exec (.resume h) s = .next (u.respond h 0x24#8 (done [.u8 u.engine.state.ctorIdx]))) ∧
    (s.engine.state = .running →
      exec (.resume h) s = .next (s.answeredDone h 0x24#8 [.u8 EngineState.running.ctorIdx])) ∧
    (s.engine.state = .stopped ∨ s.engine.state = .stopping →
      exec (.resume h) s = .next (s.refusedWith h 0x24#8 .notReady []))

/-- In RUNNING, an engine whose pointer stands at a COURIER-owned slot goes to SUSPENDED and posts RING_SUSPENDED with
that slot; an engine in any other state looks at nothing (R75). -/
def Claims.EngineSuspendsAtACourierSlot : Prop :=
  ∀ s : State,
    (s.engine.state = .running → (s.slot s.engine.pointer).owner = .courier →
      s.lookNow = (s.setEngine .suspended).post .courier
        { s.note .ringSuspended with slot := some s.engine.pointer }) ∧
    (s.engine.state ≠ .running → s.lookNow = s)

/-- A group is read forward from its FIRST, at most four slots (R76). It reads well with n descriptors when all n are
the engine's, the second and later ones are DROPs without FIRST, and the n-th is the first with LAST; it waits at the
first slot that is still the courier's; and it is broken after n descriptors where the next is no DROP, or a FIRST, or
where four had no LAST. -/
def Claims.GroupIsReadForward : Prop :=
  ∀ (s : State) (p : RingSlot),
    let d := fun j => (s.slot (slotAfter p j)).desc
    let owned := fun j => s.engineOwns (slotAfter p j) = true
    let follows := fun j => (d j).kind = .drop ∧ (d j).first = false
    let reads := fun n => ∀ j, j < n → owned j ∧ (d j).last = false ∧ (0 < j → follows j)
    (∀ n, s.scanGroup 4 p 0 = .good n ↔
      ∃ m, n = m + 1 ∧ m < 4 ∧ reads m ∧ owned m ∧ (0 < m → follows m) ∧ (d m).last = true) ∧
    (∀ i, s.scanGroup 4 p 0 = .incomplete i ↔ ∃ m, m < 4 ∧ i = slotAfter p m ∧ reads m ∧ ¬ owned m) ∧
    (∀ n, s.scanGroup 4 p 0 = .bad n ↔
      reads n ∧ (n = 4 ∨ (0 < n ∧ n < 4 ∧ owned n ∧ ¬ follows n)))

/-- The look of a RUNNING engine at a DROP that is its own (R75 to R78): a DROP without FIRST, and a group that reads
broken, take GROUP_SIZE in one record for each slot read, without COD_CLAMPED, which is log 48, when the window has
room; a group that waits at a courier's slot suspends the engine with that slot; and a group that reads well starts
when the window has room for it, the release room holds it, and no pending PICKUP release could be fed at once. -/
def Claims.EngineLooksAtADrop : Prop :=
  ∀ s : State, s.engine.state = .running → s.engineOwns s.engine.pointer = true →
    (s.slot s.engine.pointer).desc.kind = .drop →
    let p := s.engine.pointer
    let room := fun n => s.engine.window.length + n ≤ 8
    let may := fun n => s.releaseRoom n = true ∧ (s.releaseRoom 1 = true → s.feedable = none)
    let broken := fun n => (s.started ((slotRun p n).map fun i => WindowRecord.fresh i .drop (some .groupSize))).afterStart
    ((s.slot p).desc.first = false → (room 1 → s.lookNow = broken 1) ∧ (¬ room 1 → s.lookNow = s)) ∧
    ((s.slot p).desc.first = true →
      (∀ i, s.scanGroup 4 p 0 = .incomplete i → s.lookNow = s.suspend i) ∧
      (∀ n, s.scanGroup 4 p 0 = .bad n → (room n → s.lookNow = broken n) ∧ (¬ room n → s.lookNow = s)) ∧
      (∀ n, s.scanGroup 4 p 0 = .good n →
        (room n ∧ may n → s.lookNow = s.startGroup n) ∧ (¬ (room n ∧ may n) → s.lookNow = s))) ∧
    (∀ n, s.releaseRoom n = true ↔ s.engineHolds + n ≤ 12 ∧ s.seq.queue.length + n ≤ 16)

/-- The look of a RUNNING engine at a RECALL and at a PICKUP that is its own: a RECALL starts when the window has room
for one descriptor, the release room holds one entry, and no pending PICKUP release could be fed at once; a PICKUP
starts when the window has room; otherwise the engine waits (R75, R77). -/
def Claims.EngineLooksAtARecallOrPickup : Prop :=
  ∀ s : State, s.engine.state = .running → s.engineOwns s.engine.pointer = true →
    let kind := (s.slot s.engine.pointer).desc.kind
    let room := s.engine.window.length + 1 ≤ 8
    let may := s.releaseRoom 1 = true ∧ s.feedable = none
    (kind = .recall → (room ∧ may → s.lookNow = s.startRecall) ∧ (¬ (room ∧ may) → s.lookNow = s)) ∧
    (kind = .pickup → (room → s.lookNow = s.startPickup) ∧ (¬ room → s.lookNow = s))

/-- The start of a DROP group (R79): a piece without a parcel reference takes FORMAT, a failed check of the allocator
its status, each for every descriptor of the group; a group that passes is committed with the lowest free record.
COD_CLAMPED is told in the first record, also of a group that fails, which keeps no carrier index (log 37). -/
def Claims.DropGroupStarts : Prop :=
  ∀ (s : State) (n : Nat),
    let slots := slotRun s.engine.pointer n
    let group := slots.map fun i => (s.slot i).desc
    let first := (s.slot s.engine.pointer).desc
    let fails := fun st : Status => (s.started (clampFirst (decide (999999 < first.cod.getD 0))
      (slots.map fun i => WindowRecord.fresh i .drop (some st)))).afterStart
    ((∃ d ∈ group, d.parcelRef = none) → s.startGroup n = fails .format) ∧
    ((∀ d ∈ group, d.parcelRef ≠ none) →
      (∀ st, s.checkGroup first group = .fails st → s.startGroup n = fails st) ∧
      (∀ i comps r, s.checkGroup first group = .passes i comps → s.freeRecord = some r →
        s.startGroup n = (s.startPlaced first i (placedOf s slots comps) r).afterStart))

/-- The allocator's checks of a DROP group, in their order (R54, R56, R59, R60, R62): the carrier's match, its rights,
the size classes it is given, the supplied code, the quota, and the placement of every piece. -/
def Claims.GroupChecks : Prop :=
  ∀ (s : State) (first : Descriptor) (group : List Descriptor),
    (s.matchCarrier first.carrierId = .unknown → s.checkGroup first group = .fails .unknownCarrier) ∧
    (s.matchCarrier first.carrierId = .notPermitted → s.checkGroup first group = .fails .notPermitted) ∧
    (∀ i, s.matchCarrier first.carrierId = .found i →
      let e := s.carriers.get i
      let entitled := e.rights.deliver = true ∧ (min (first.cod.getD 0) 999999 = 0 ∨ e.rights.cod = true)
      let sized := ∀ d ∈ group, sizeAt e.sizes d.size = true
      (¬ entitled → s.checkGroup first group = .fails .notPermitted) ∧
      (entitled → ¬ sized → s.checkGroup first group = .fails .noSpace) ∧
      (entitled → sized → first.code = some 0 → s.checkGroup first group = .fails .format) ∧
      (∀ x, entitled → sized → first.code = some x → x ≠ 0 → (s.findCode x).isSome = true →
        s.checkGroup first group = .fails .codeClash) ∧
      (entitled → sized → (∀ x, first.code = some x → x ≠ 0 ∧ s.findCode x = none) →
        (e.quota < e.live + group.length → s.checkGroup first group = .fails .quota) ∧
        (e.live + group.length ≤ e.quota →
          (s.placeAll (group.map fun d => d.size) [] = none → s.checkGroup first group = .fails .noSpace) ∧
          (∀ comps, s.placeAll (group.map fun d => d.size) [] = some comps →
            s.checkGroup first group = .passes i comps)))) ∧
    (∀ z rest taken, s.placeAll [] taken = some taken ∧
      (s.placeOne .delivery z taken = none → s.placeAll (z :: rest) taken = none) ∧
      (∀ c, s.placeOne .delivery z taken = some c → s.placeAll (z :: rest) taken = s.placeAll rest (taken ++ [c])))

/-- A group that is committed (R10, R50, R61, R79): its record with its code, the code map, one RESERVED holding for
each piece, the live count, one STARTED record for each descriptor, the pointer past them, and one deposit release for
each piece at the end of the queue; the code generator moves only where it drew the code. -/
def Claims.GroupIsCommitted : Prop :=
  ∀ (s : State) (first : Descriptor) (i : Fin 8) (pieces : List Placed) (n : RecordNo),
    (pieces.map fun p => p.comp).Nodup →
    (∀ p ∈ pieces, s.hasEntry p.comp = false ∧ s.column p.comp.column ≠ .disabled) →
    pieces.length + s.seq.queue.length ≤ 16 →
    let t := s.startPlaced first i pieces n
    let code := first.code.getD s.draw.1
    t.record n = some
      { code := some code, kind := .delivery, carrier := i, pieces := pieces.map fun p => p.comp,
        cod := min (first.cod.getD 0) 999999, laneO := 0, laneK := 0, paidO := 0, paidK := 0, paidThrough := none,
        waived := false, openRef := none } ∧
    (∀ m, m ≠ n → t.record m = s.record m) ∧ t.custody.codeMap = mapInsert code n s.custody.codeMap ∧
    (∀ p ∈ pieces, t.entry p.comp = { s.entry p.comp with
      state := .reserved, cause := none
      holding := some { record := n, parcelRef := p.desc.parcelRef, size := p.desc.size,
                        tariffClass := (s.carriers.get i).tariffClass, depositMinute := none, rest := none,
                        claimant := none, origin := .slot p.slot, causes := [], releaseInterrupted := false,
                        collectIncomplete := false } }) ∧
    (∀ c, (∀ p ∈ pieces, p.comp ≠ c) → t.entry c = s.entry c) ∧
    t.carriers.get i = { s.carriers.get i with live := (s.carriers.get i).live + pieces.length } ∧
    t.seq.queue = s.seq.queue ++ (pieces.map fun p =>
      { comp := p.comp, cls := .custody, purpose := .deposit, origin := .courier, attempt := 1, passOver := 0,
        restore := false, inFlight := false }) ∧
    t.engine.window = s.engine.window ++ clampFirst (decide (999999 < first.cod.getD 0)) (pieces.map fun p =>
      { WindowRecord.fresh p.slot .drop none with carrier := some i, comp := some p.comp, code := some code }) ∧
    t.engine.pointer = slotAfter s.engine.pointer pieces.length ∧
    (first.code = none → t.codeGen = { s.codeGen with position := s.draw.2 }) ∧
    (first.code ≠ none → t.codeGen = s.codeGen)

/-- The code generator gives the first candidate after its position that is not 00000000 and not in use, and stands at
it then (R63, R64); the sequence itself is a free value (log 7). -/
def Claims.DrawnCodeIsFree : Prop :=
  ∀ s : State, s.custody.codeMap.length ≤ 144 →
    let at_ := fun j => (s.codeGen.position + 1 + j) % 100000000
    let taken := fun x : Nat => x = 0 ∨ ∃ p ∈ s.custody.codeMap, p.1 = x
    ∃ j, s.draw = (candidateAt s.codeGen.seed (at_ j), at_ j) ∧ s.draw.1 < 100000000 ∧ ¬ taken s.draw.1 ∧
      ∀ m, m < j → taken (candidateAt s.codeGen.seed (at_ m))

/-- The start of a RECALL (R81): without a parcel reference FORMAT, then the carrier's match and its right, in records
that keep no carrier index (log 37). Of the deliveries of the carrier with that reference, the lowest-numbered whose
claim is admitted and which has no release entry is claimed and its release asked for; where none is, the
lowest-numbered of all gives the status, and none at all NOT_FOUND. -/
def Claims.RecallStarts : Prop :=
  ∀ s : State, (s.slot s.engine.pointer).desc.kind = .recall →
    let d := (s.slot s.engine.pointer).desc
    let blank := WindowRecord.fresh s.engine.pointer .recall
    let fails := fun st : Status => (s.started [blank (some st)]).afterStart
    (d.parcelRef = none → s.startRecall = fails .format) ∧
    (∀ ref, d.parcelRef = some ref →
      (s.matchCarrier d.carrierId = .unknown → s.startRecall = fails .unknownCarrier) ∧
      (s.matchCarrier d.carrierId = .notPermitted → s.startRecall = fails .notPermitted) ∧
      (∀ i, s.matchCarrier d.carrierId = .found i →
        let claimable := fun c => (s.custodyState c = .held ∨ s.custodyState c = .overstayed) ∧ s.hasEntry c = false
        let cs := s.recallCandidates i ref
        ((s.carriers.get i).rights.deliver = false → s.startRecall = fails .notPermitted) ∧
        ((s.carriers.get i).rights.deliver = true →
          (∀ c ∈ cs, claimable c → (∀ x ∈ cs, x < c → ¬ claimable x) → s.startRecall =
            ((((s.started [{ blank none with carrier := some i, comp := some c }]).claim c .carrier).request
              { comp := c, cls := .custody, purpose := .recall, origin := .courier, attempt := 1, passOver := 0,
                restore := false, inFlight := false }).afterStart)) ∧
          ((∀ x ∈ cs, ¬ claimable x) →
            (∀ c rest, cs = c :: rest → s.startRecall = (s.started
              [{ blank (some (s.recallStatus c)) with carrier := some i, comp := some c }]).afterStart) ∧
            (cs = [] → s.startRecall = (s.started [{ blank (some .notFound) with carrier := some i }]).afterStart))) ∧
        (∀ c, c ∈ cs ↔ ∃ x k, s.holding c = some x ∧ s.record x.record = some k ∧ k.carrier = i ∧
          k.kind = .delivery ∧ x.parcelRef = some ref) ∧ cs.Pairwise (· < ·))) ∧
    (∀ c, ((s.custodyState c).isRest = true → s.hasEntry c = true → s.recallStatus c = .occupied) ∧
      (s.custodyState c = .releasing ∨ s.custodyState c = .emptying → s.recallStatus c = .claimed) ∧
      (s.custodyState c = .review → s.recallStatus c = .review) ∧
      (s.custodyState c = .outOfService → s.recallStatus c = .outOfService) ∧
      (s.custodyState c = .reserved ∨ s.custodyState c = .loading → s.recallStatus c = .notReady))

/-- The start of a PICKUP (R83): the carrier's match and its right, in records that keep no carrier index (log 37);
then every holding of the carrier that its claim admits and that has no release entry is claimed at once, in
compartment number order, its record holding them as outstanding and as pending with their count; without any it is
COMPLETE with DONE. -/
def Claims.PickupStarts : Prop :=
  ∀ s : State,
    let d := (s.slot s.engine.pointer).desc
    let blank := WindowRecord.fresh s.engine.pointer .pickup
    let fails := fun st : Status => (s.started [blank (some st)]).afterStart
    (s.matchCarrier d.carrierId = .unknown → s.startPickup = fails .unknownCarrier) ∧
    (s.matchCarrier d.carrierId = .notPermitted → s.startPickup = fails .notPermitted) ∧
    (∀ i, s.matchCarrier d.carrierId = .found i →
      let cs := s.pickupClaims i
      ((s.carriers.get i).rights.pickupReturns = false → s.startPickup = fails .notPermitted) ∧
      ((s.carriers.get i).rights.pickupReturns = true → s.startPickup =
        (cs.foldl (fun t c => t.claim c .carrier) (s.started
          [{ blank (if cs = [] then some .done else none) with
            carrier := some i, outstanding := cs, waiting := cs, claimed := cs.length }])).afterStart) ∧
      (∀ c, c ∈ cs ↔ (s.custodyState c = .returnHeld ∨ s.custodyState c = .overstayed) ∧ s.hasEntry c = false ∧
        ∃ x k, s.holding c = some x ∧ s.record x.record = some k ∧ k.carrier = i) ∧ cs.Pairwise (· < ·))

/-- Feeding (R77, R84): with release room for one entry, the first pending compartment without a release entry, of the
oldest STARTED PICKUP that has one, leaves its pending list, and a PICKUP release is asked for it; and the engine feeds
again. Without room or without such a compartment nothing is fed. -/
def Claims.FeedingAsksForReleases : Prop :=
  ∀ s : State,
    (s.releaseRoom 1 = false ∨ s.feedable = none → s.feedOne = s) ∧
    (∀ c, s.feedable = some c → ∃ older r younger before after, s.engine.window = older ++ r :: younger ∧
      r.outcome = none ∧ r.kind = .pickup ∧ r.waiting = before ++ c :: after ∧ s.hasEntry c = false ∧
      (∀ x ∈ before, s.hasEntry x = true) ∧
      (∀ q ∈ older, q.outcome = none → q.kind = .pickup → ∀ x ∈ q.waiting, s.hasEntry x = true) ∧
      ((∀ q ∈ older, q.outcome = none → c ∉ q.waiting) → s.releaseRoom 1 = true → s.feedOne =
        ((s.setWindow (older ++ { r with waiting := r.waiting.filter (· != c) } :: younger)).request
          { comp := c, cls := .custody, purpose := .pickup, origin := .courier, attempt := 1, passOver := 0,
            restore := false, inFlight := false }).emit .feed))

/-- The reports that reach the window (R80, R82, R85, R90): the outcome of a DROP holding goes to the STARTED DROP of
its slot and compartment, with the deposit minute; the end of a CARRIER claim to the STARTED RECALL of its
compartment, which takes its status, or to the STARTED PICKUP that has it outstanding, which counts it and is DONE
when none is left. A report that meets no such record is discarded. -/
def Claims.ReportsReachTheWindow : Prop :=
  ∀ (s : State) (c : Comp) (older younger : List WindowRecord) (r : WindowRecord),
    s.engine.window = older ++ r :: younger →
    (∀ (n : RingSlot) (st : Status) (m : Option Nat), (∀ q ∈ older, WindowRecord.takesDrop n c q = false) →
      r.outcome = none → r.kind = .drop → r.slot = n → r.comp = some c → (s.reportDrop n c st m).engine.window =
        older ++ { r with outcome := some st, depositMinute := m } :: younger) ∧
    (∀ e : ClaimEnd, (∀ q ∈ older, WindowRecord.takesClaim c q = false) → r.outcome = none →
      (r.kind = .recall → r.comp = some c → (s.reportClaim c e).engine.window =
        older ++ { r with outcome := some e.status } :: younger) ∧
      (r.kind = .pickup → c ∈ r.outstanding → (s.reportClaim c e).engine.window = older ++ { r with
        outstanding := r.outstanding.filter (· != c), waiting := r.waiting.filter (· != c)
        retrieved := if e = .retrieved then r.retrieved + 1 else r.retrieved
        notOpened := if e = .notOpened ∨ e = .forced then r.notOpened + 1 else r.notOpened
        outcome := if r.outstanding.filter (· != c) = [] then some .done else none } :: younger)) ∧
    (∀ n st m, (∀ q ∈ s.engine.window, WindowRecord.takesDrop n c q = false) →
      (s.reportDrop n c st m).engine = s.engine) ∧
    (∀ e, (∀ q ∈ s.engine.window, WindowRecord.takesClaim c q = false) → (s.reportClaim c e).engine = s.engine)

/-- Stop in RUNNING and SUSPENDED moves the engine to STOPPING and goes through the window in its order: the queued
entry of each STARTED DROP is withdrawn and its reservation dropped, an entry in flight and every other record are
left (R74, R88). In STOPPED and STOPPING it is DONE with no change. The order of the withdrawals is log 33. -/
def Claims.StopWithdrawsQueuedDrops : Prop :=
  (∀ (h : Head) (x : Sense) (s : State), s.FramePasses h .courier 0 →
    let s0 := (s.frameTaken h.port).latch x
    (s.engine.state = .running ∨ s.engine.state = .suspended →
      let u := ((s.engine.window.foldl State.stopRecord (s0.setEngine .stopping)).emit .retire).complete
      exec (.stop h x) s = .next (u.respond h 0x25#8 (done [.u8 u.engine.state.ctorIdx]))) ∧
    (s.engine.state = .stopped ∨ s.engine.state = .stopping →
      exec (.stop h x) s = .next ((s.latch x).answeredDone h 0x25#8 [.u8 s.engine.state.ctorIdx]))) ∧
  ∀ (s : State) (r : WindowRecord) (c : Comp),
    (r.outcome = none → r.kind = .drop → r.comp = some c →
      (∀ e, s.entryOf c = some e → e.inFlight = false → s.stopRecord r = (s.withdraw c).dropReserved c) ∧
      (∀ e, s.entryOf c = some e → e.inFlight = true → s.stopRecord r = s) ∧
      (s.entryOf c = none → s.stopRecord r = s)) ∧
    (r.outcome ≠ none ∨ r.kind ≠ .drop ∨ r.comp = none → s.stopRecord r = s)

/-- Retiring a COMPLETE descriptor writes back its status with its error summary, COD_CLAMPED, compartment, code,
deposit minute and counts, gives its slot to the courier with its request fields as they were, takes its record from
the window, and posts DESCRIPTOR_DONE to the courier when NOTIFY is set, and nothing when it is clear (R86, R87). -/
def Claims.RetirementWritesBack : Prop :=
  ∀ (s : State) (r : WindowRecord) (rest : List WindowRecord) (st : Status),
    let t := s.retireOne r rest st
    t.engine.window = rest ∧ (∀ j, j ≠ r.slot → t.slot j = s.slot j) ∧
    t.slot r.slot = { owner := .courier, desc := (s.slot r.slot).desc,
                      back := { status := st, summary := Status.errorSummary st, codClamped := r.codClamped,
                                comp := r.comp, code := r.code, depositMinute := r.depositMinute, claimed := r.claimed,
                                retrieved := r.retrieved, notOpened := r.notOpened } } ∧
    ((s.slot r.slot).desc.notify = false → t.ports = s.ports) ∧
    ((s.slot r.slot).desc.notify = true → t.ports = (s.post .courier
      { kind := .descriptorDone, minute := s.clock.minute, comp := r.comp, cons := r.code.map ConsForm.code,
        slot := some r.slot, ref := none, detail := some (.status st), qualifier := none, set := CondSet.none,
        amount := 0 }).ports)

/-- Descriptors retire from the oldest end of the window while it is COMPLETE (R86). After it an engine in STOPPING
whose window is empty enters STOPPED, with every slot the courier's and its fields as they were (R67, R88), and one in
RUNNING that has retired a descriptor looks at its pointer again (R75). -/
def Claims.RetirementIsInOrder : Prop :=
  ∀ s : State,
    (∀ r rest, r.outcome = none → State.retireAll (r :: rest) s = s) ∧ State.retireAll [] s = s ∧
    (∀ r rest st, r.outcome = some st →
      State.retireAll (r :: rest) s = State.retireAll rest (s.retireOne r rest st)) ∧
    let t := State.retireAll s.engine.window s
    (s.engine.state = .stopping → t.engine.window = [] → s.retireNow.engine.state = .stopped ∧
      (∀ j, s.retireNow.slot j = { t.slot j with owner := .courier }) ∧ s.retireNow.ports = t.ports) ∧
    (s.engine.state = .stopping → t.engine.window ≠ [] → s.retireNow = t) ∧
    (s.engine.state = .running → t.engine.window.length < s.engine.window.length → s.retireNow = t.emit .look) ∧
    (s.engine.state = .running → t.engine.window.length = s.engine.window.length → s.retireNow = t) ∧
    (s.engine.state = .stopped ∨ s.engine.state = .suspended → s.retireNow = t)

/-! ### The payment module (chapter 7) -/

/-- Fetch Charge, named, makes an OPEN charge PRESENTED and answers with its amounts and time left; a PRESENTED one
gives the same answer, in the form of log 47, and changes nothing; an ended one is refused LATE with its state, a stale
reference UNKNOWN, a charge slot above 7 FORMAT (R126, R132). Unnamed, it is the same on the OPEN charge that the rule
names, and UNKNOWN where there is none. -/
def Claims.FetchChargePresentsTheCharge : Prop :=
  ∀ (h : Head) (i : ChargeSlot) (g : Nat) (r : ChargeRecord) (s : State), s.FramePasses h .payment 3 →
    s.power.restoring = false →
    (s.chargeNamed i g = some r → r.state = .opened →
      exec (.fetchCharge h (some (i.val, g))) s = .next (((s.frameTaken h.port).putCharge i
        { r with state := .presented }).respond h 0x30#8 (s.fetched i r))) ∧
    (s.chargeNamed i g = some r → r.state = .presented →
      exec (.fetchCharge h (some (i.val, g))) s = .next ((s.frameTaken h.port).respond h 0x30#8 (s.fetched i r))) ∧
    (s.chargeNamed i g = some r → r.state.isEnded = true →
      exec (.fetchCharge h (some (i.val, g))) s = .next (s.refusedWith h 0x30#8 .late [.u8 r.state.ctorIdx])) ∧
    (s.oldestOpen = some i → s.charge i = r → r.state = .opened →
      exec (.fetchCharge h none) s = .next (((s.frameTaken h.port).putCharge i
        { r with state := .presented }).respond h 0x30#8 (s.fetched i r))) ∧
    (s.oldestOpen = none → exec (.fetchCharge h none) s = .next (s.refusedWith h 0x30#8 .unknown [])) ∧
    (s.chargeNamed i g = none →
      exec (.fetchCharge h (some (i.val, g))) s = .next (s.refusedWith h 0x30#8 .unknown [])) ∧
    (∀ n, 7 < n → exec (.fetchCharge h (some (n, g))) s = .next (s.refusedWith h 0x30#8 .format []))

/-- What Fetch Charge answers with (R132): the reference, the two lane amounts, the time to expiry in whole seconds
rounded up, and the code of a delivery, or the record number and the mark RETURN, which is log 47. A reference names its
slot's charge while the slot is not FREE and the generations agree (R126). The charge that the unnamed request takes is
the OPEN one of the smallest creation second, and among equals of the lowest slot. -/
def Claims.FetchedCharge : Prop :=
  ∀ (s : State) (i : ChargeSlot) (r : ChargeRecord),
    let head : List Field :=
      [.u8 i.val, .u8 (s.charges.gens.get i), .u32 r.laneO, .u32 r.laneK, .u8 ((r.expiry + 32767999) / 32768000)]
    (∀ n k, r.record = some n → s.record n = some k →
      (∀ x, k.code = some x → s.fetched i r = done (head ++ [.code x])) ∧
      (k.code = none → s.fetched i r = done (head ++ [.u8 n.val, .mark true]))) ∧
    (∀ g, s.chargeNamed i g = some r ↔ s.charge i = r ∧ r.state ≠ .free ∧ s.charges.gens.get i = g) ∧
    (s.oldestOpen = some i ↔ (s.charge i).state = .opened ∧ ∀ j, (s.charge j).state = .opened →
      (s.charge i).creation < (s.charge j).creation ∨ ((s.charge i).creation = (s.charge j).creation ∧ i ≤ j)) ∧
    (s.oldestOpen = none ↔ ∀ j, (s.charge j).state ≠ .opened)

/-- An APPROVED result with the amounts of a PRESENTED charge ends it PAID at the present minute, adds its lanes to the
consignment's paid lanes, sets the paid-through minute, asks for the release of a return that waits on it, tells the
console with CHARGE_PAID, the reference, the code of a delivery or the compartment of a return and the sum, and is
answered with the reverse mark clear (R134, R137, R141). -/
def Obligations.ApprovedResultSettlesTheCharge : Prop :=
  ∀ (h : Head) (i : ChargeSlot) (g : Nat) (r : ChargeRecord) (n : RecordNo) (k : Consignment) (s : State),
    s.FramePasses h .payment 11 → s.power.restoring = false → s.chargeNamed i g = some r → r.state = .presented →
    r.record = some n → s.record n = some k →
    let through := min (s.clock.minute + s.tariff.bank.grace) maxWord
    let s1 := ((s.frameTaken h.port).endCharge i .paid none (some s.clock.minute)).updRecord n fun k =>
      { k with paidO := min (k.paidO + r.laneO) 999999, paidK := min (k.paidK + r.laneK) 999999,
               paidThrough := some through }
    exec (.paymentResult h i.val g (some .approved) r.laneO r.laneK) s =
      .next ((((s1.paidReleases n).post .console (s.paidNotice i r)).complete).respond h 0x31#8
        (done [.u8 ChargeState.paid.ctorIdx, .u32 through, .mark false])) ∧
    (k.kind = .delivery → s1.paidReleases n = s1 ∧
      s.paidNotice i r = { s.note .chargePaid with
        ref := some (s.refOf i), cons := k.code.map ConsForm.code, amount := r.laneO + r.laneK }) ∧
    (k.kind = .returnDrop → s.paidNotice i r = { s.note .chargePaid with
      ref := some (s.refOf i), comp := k.pieces.head?, amount := r.laneO + r.laneK })

/-- A DECLINED result, and an APPROVED one whose amounts are not the charge's, end a PRESENTED charge DECLINED with end
cause MODULE or MISMATCH, tell the console, and drop a reservation that waits on it; the reverse mark is set at a
mismatch (R135, R137). -/
def Obligations.DeclinedResultEndsTheCharge : Prop :=
  ∀ (h : Head) (i : ChargeSlot) (g o k : Nat) (r : ChargeRecord) (s : State),
    s.FramePasses h .payment 11 → s.power.restoring = false → s.chargeNamed i g = some r → r.state = .presented →
    let ended := fun (cause : EndCause) (d : Detail) =>
      (((s.frameTaken h.port).endCharge i .declined (some cause) none).post .console
        { s.note .chargeDeclined with ref := some (s.refOf i), detail := some (.word d) }).dropForCharge r .declined
    exec (.paymentResult h i.val g (some .declined) o k) s = .next (((ended .byModule .byModule).complete).respond h
      0x31#8 (done [.u8 ChargeState.declined.ctorIdx, .opt8 (some EndCause.byModule.ctorIdx), .mark false])) ∧
    (r.laneO ≠ o ∨ r.laneK ≠ k →
      exec (.paymentResult h i.val g (some .approved) o k) s = .next (((ended .mismatch .mismatch).complete).respond h
        0x31#8 (done [.u8 ChargeState.declined.ctorIdx, .opt8 (some EndCause.mismatch.ctorIdx), .mark true])))

/-- Payment Results that settle nothing: OPEN is refused NOT_READY, a charge already ended by a result is answered DONE,
an EXPIRED or VOID one is refused LATE with LATE_PAYMENT to the payment and operations ports, a stale reference UNKNOWN,
RESTORING NOT_READY; the reverse mark is set exactly where an APPROVED result is not held by the part. A charge slot
above 7 and an outcome outside its set are refused FORMAT, the mark clear (R133, R136, R137, R139); that FORMAT and
NOT_READY come before UNKNOWN, also for a stale reference (R126), is log 57. LATE_PAYMENT carries
the reference, the outcome, the state of the charge, the sum, and the code of the consignment that the charge was opened
for where it still has one, which is log 14. -/
def Obligations.ResultsThatSettleNothing : Prop :=
  ∀ (h : Head) (i : ChargeSlot) (g o k : Nat) (out : CardOutcome) (s : State), s.FramePasses h .payment 11 →
    (s.power.restoring = true →
      exec (.paymentResult h i.val g (some out) o k) s = .next (s.refusedWith h 0x31#8 .notReady [.mark false])) ∧
    (s.power.restoring = false →
      (s.chargeNamed i g = none → exec (.paymentResult h i.val g (some out) o k) s =
        .next (s.refusedWith h 0x31#8 .unknown [.mark (out == .approved)])) ∧
      (∀ r, s.chargeNamed i g = some r → r.state = .opened → exec (.paymentResult h i.val g (some out) o k) s =
        .next (s.refusedWith h 0x31#8 .notReady [.mark (out == .approved)])) ∧
      (∀ r, s.chargeNamed i g = some r → r.state = .paid ∨ r.state = .declined →
        exec (.paymentResult h i.val g (some out) o k) s = .next (s.answeredDone h 0x31#8
          [.u8 r.state.ctorIdx, .opt8 (r.cause.map fun c => c.ctorIdx),
            .mark (out == .approved && !(r.state == .paid && (r.laneO == o && r.laneK == k)))])) ∧
      (∀ r, s.chargeNamed i g = some r → r.state = .expired ∨ r.state = .void →
        let n : Notice :=
          { kind := .latePayment, minute := s.clock.minute, comp := none, cons := s.chargeCode r, slot := none,
            ref := some (s.refOf i)
            detail := some (.word (match out with
              | .approved => .approved
              | .declined => .declined))
            qualifier := some (if r.state = .expired then .expired else .void), set := CondSet.none, amount := o + k }
        exec (.paymentResult h i.val g (some out) o k) s =
          .next (((((s.frameTaken h.port).post .payment n).post .operations n).respond h 0x31#8
            (refuseWith .late [.u8 r.state.ctorIdx, .mark (out == .approved)]))) ∧
        (∀ m x, r.record = some m → s.record m = some x →
          s.chargeCode r = if x.code = r.code then x.code.map ConsForm.code else none) ∧
        (r.record.bind s.record = none → s.chargeCode r = none))) ∧
    (∀ n x, 7 < n ∨ x = none →
      exec (.paymentResult h n g x o k) s = .next (s.refusedWith h 0x31#8 .format [.mark false]))

/-- A live charge that expires becomes EXPIRED with its timer stopped and joins the ended list, its consignment forgets
it, and CHARGE_EXPIRED goes to the console and payment ports, with the reference, the code of a delivery and the state
that the charge had; a charge that is not live is left (R127, R138). For a charge on which no reservation waits the
state that follows is given whole. -/
def Claims.ChargeExpiryEndsTheCharge : Prop :=
  ∀ (i : ChargeSlot) (s : State), s.Running →
    ((s.charge i).state = .opened ∨ (s.charge i).state = .presented →
      exec (.chargeExpiry i) s = .next ((((s.endCharge i .expired none none).postBoth .console .payment
        (s.expiredNotice i)).dropForCharge (s.charge i) .expired).complete) ∧
      ((s.charge i).record.bind s.waitingReturn = none →
        exec (.chargeExpiry i) s = .next ((s.endCharge i .expired none none).postBoth .console .payment
          (s.expiredNotice i)) ∧
        ((s.endCharge i .expired none none).charge i).state = .expired ∧
        ((s.endCharge i .expired none none).charge i).expiry = 0 ∧
        (s.endCharge i .expired none none).charges.ended = s.charges.ended ++ [i])) ∧
    ((s.charge i).state.isLive = false → exec (.chargeExpiry i) s = .next s) ∧
    (∀ n k, (s.charge i).record = some n → s.record n = some k → s.expiredNotice i =
      { kind := .chargeExpired, minute := s.clock.minute, comp := none, cons := k.code.map ConsForm.code, slot := none,
        ref := some (s.refOf i), detail := some (.word (if (s.charge i).state = .presented then .presented else .opened))
        qualifier := none, set := CondSet.none, amount := 0 })

/-- What the end of a charge does: its record takes the ended state, the end cause and the payment minute, with its
timer stopped, its slot joins the end of the ended list, its consignment forgets it, and no other charge, consignment,
compartment or port changes (R127). The OPEN charge of a consignment is voided so, and nothing else is (R129, R140).
-/
def Claims.ChargesEnd : Prop :=
  (∀ (s : State) (i : ChargeSlot) (st : ChargeState) (cause : Option EndCause) (paid : Option Nat),
    let t := s.endCharge i st cause paid
    t.charge i = { s.charge i with state := st, cause := cause, paymentMinute := paid, expiry := 0 } ∧
    (∀ j, j ≠ i → t.charge j = s.charge j) ∧ t.charges.ended = s.charges.ended ++ [i] ∧
    t.charges.gens = s.charges.gens ∧
    (∀ n k, (s.charge i).record = some n → s.record n = some k → t.record n =
      some { k with openRef := if k.openRef = some (s.refOf i) then none else k.openRef }) ∧
    (∀ m, (s.charge i).record ≠ some m → t.record m = s.record m) ∧ (∀ c, t.entry c = s.entry c) ∧ t.ports = s.ports) ∧
  ∀ (s : State) (k : Consignment) (cause : EndCause) (st : ChargeState),
    (s.openChargeIs k st = true ↔
      ∃ ref r, k.openRef = some ref ∧ s.chargeNamed ref.slot ref.gen = some r ∧ r.state = st) ∧
    (∀ ref, k.openRef = some ref → s.openChargeIs k .opened = true →
      s.voidOpen k cause = s.endCharge ref.slot .void (some cause) none) ∧
    (s.openChargeIs k .opened = false → s.voidOpen k cause = s)

/-- What becomes of the reservation that waits on a charge (R19, R45, R47, R138, R142). When the charge expires or is
declined, the reservation is dropped and the console is told RETURN_DONE with EXPIRED or DECLINED, the record and the
paid lane total; when it is voided, the reservation is dropped without a notice. A charge on which none waits ends
alone. -/
def Claims.ReservationsOfChargesThatEnd : Prop :=
  ∀ (s : State),
    (∀ (r : ChargeRecord) (d : Detail),
      (∀ c, r.record.bind s.waitingReturn = some c → s.dropForCharge r d = (s.dropReserved c).post .console
        { kind := .returnDone, minute := s.clock.minute, comp := some c, cons := s.form c, slot := none, ref := none,
          detail := some (.word d), qualifier := none, set := CondSet.none, amount := s.paidTotal c }) ∧
      (r.record.bind s.waitingReturn = none → s.dropForCharge r d = s)) ∧
    (∀ (i : ChargeSlot) (cause : EndCause),
      let t := s.endCharge i .void (some cause) none
      (∀ c, (s.charge i).record.bind s.waitingReturn = some c → s.voidCharge i cause = (t.dropReserved c, some c)) ∧
      ((s.charge i).record.bind s.waitingReturn = none → s.voidCharge i cause = (t, none)))

/-- A RESERVED holding that is dropped: it is removed and its compartment goes FREE, the outcome CANCELLED goes to the
manifest slot it came from, and no notice is posted; a compartment that is not RESERVED is left (R8, R19). -/
def Claims.ReservationsAreDropped : Prop :=
  ∀ (s : State) (c : Comp),
    (∀ x, s.custodyState c = .reserved → s.holding c = some x →
      (s.dropReserved c).entry c = { s.entry c with state := .free, cause := none, holding := none } ∧
      (∀ d, d ≠ c → (s.dropReserved c).entry d = s.entry d) ∧ (s.dropReserved c).ports = s.ports ∧
      (∀ n, x.origin = .slot n → s.dropReserved c = (s.removeHolding c .free none).reportDrop n c .cancelled none) ∧
      (x.origin = .console → s.dropReserved c = s.removeHolding c .free none)) ∧
    (s.custodyState c ≠ .reserved ∨ s.holding c = none → s.dropReserved c = s)

/-! ### Operations on custody (chapter 1) -/

/-- Set Compartment on a compartment without a holding or an entry writes its three values, and its custody state
follows by the table of R2: written not fitted it is NOT_FITTED, its cause cleared; written fitted it stays
OUT_OF_SERVICE with its cause, and is FREE from any other state. The door record goes when the fitted value changes
(R182). With a holding, a release entry or a pending service entry it is refused OCCUPIED; a compartment above 143 and
a value outside its set are refused FORMAT (R2). -/
def Obligations.SetCompartmentFits : Prop :=
  ∀ (h : Head) (c : Comp) (fitted : Bool) (z : SizeClass) (u : UseClass) (s : State),
    s.FramePasses h .operations 4 → s.power.restoring = false →
    let run := fun (n : Nat) (f : Option Bool) (z : Option SizeClass) (u : Option UseClass) =>
      exec (.setCompartment h n f z u) s
    let refused := fun r : Reason => Host.Outcome.next (s.refusedWith h 0x40#8 r [])
    (s.holding c = none → s.hasEntry c = false → s.pendingFor c = false →
      let st : CustodyState × Option OosCause :=
        if fitted = false then (.notFitted, none)
        else if s.custodyState c = .outOfService then (.outOfService, (s.entry c).cause)
        else (.free, none)
      let s1 := s.putEntry c
        { fitted := fitted, size := z, use := u, state := st.1, cause := st.2, holding := none }
      run c.val (some fitted) (some z) (some u) =
        .next ((if (s.entry c).fitted = fitted then s1 else s1.setDoor c none).answeredDone h 0x40#8 [])) ∧
    (s.holding c ≠ none ∨ s.hasEntry c = true ∨ s.pendingFor c = true →
      run c.val (some fitted) (some z) (some u) = refused .occupied) ∧
    (∀ n f z u, 143 < n ∨ f = none ∨ z = none ∨ u = none → run n f z u = refused .format)

/-- Withhold Compartment to REVIEW appends OPERATOR and sends a rest-state holding to REVIEW with its notice; a
compartment without a holding is refused UNKNOWN. To OUT_OF_SERVICE it takes a FREE, rest-state or REVIEW compartment
there with cause OPERATOR, leaves one that is there already, and is refused FORMAT on one that is not fitted. RESERVED
and LOADING are refused OCCUPIED, RELEASING and EMPTYING CLAIMED, for both targets; a compartment above 143 and a
target outside the set FORMAT (R26, R30). That a command carries such a target as a mark that is clear is log 25. -/
def Claims.WithholdByState : Prop :=
  ∀ (h : Head) (c : Comp) (s : State), s.FramePasses h .operations 2 → s.InService →
    let toReview := exec (.withholdToReview h true c.val) s
    let toOos := exec (.withholdToOutOfService h true c.val) s
    let refused := fun r : Reason => Host.Outcome.next (s.refusedWith h 0x41#8 r [])
    ((s.holding c).isSome = true →
      ((s.custodyState c).isRest = true → toReview =
        .next ((((s.frameTaken h.port).enterReview c .operator).complete).respond h 0x41#8 (done []))) ∧
      (s.custodyState c = .review → toReview = .next ((s.addCause c .operator).answeredDone h 0x41#8 [])) ∧
      (s.custodyState c = .reserved ∨ s.custodyState c = .loading → toReview = refused .occupied) ∧
      (s.custodyState c = .releasing ∨ s.custodyState c = .emptying → toReview = refused .claimed) ∧
      (s.custodyState c = .outOfService → toReview = refused .outOfService)) ∧
    (s.holding c = none → toReview = refused .unknown) ∧
    ((s.custodyState c).isRest = true ∨ s.custodyState c = .free ∨ s.custodyState c = .review → toOos =
        .next ((((s.frameTaken h.port).outOfService c .operator).complete).respond h 0x41#8 (done []))) ∧
    (s.custodyState c = .outOfService → toOos = .next (s.answeredDone h 0x41#8 [])) ∧
    (s.custodyState c = .notFitted → toOos = refused .format) ∧
    (s.custodyState c = .reserved ∨ s.custodyState c = .loading → toOos = refused .occupied) ∧
    (s.custodyState c = .releasing ∨ s.custodyState c = .emptying → toOos = refused .claimed) ∧
    (∀ n, exec (.withholdToReview h false n) s = refused .format ∧
      exec (.withholdToOutOfService h false n) s = refused .format) ∧
    (∀ n, 143 < n → exec (.withholdToReview h true n) s = refused .format ∧
      exec (.withholdToOutOfService h true n) s = refused .format)

/-- The refusals of Resolve Review, for each of its four actions: no holding UNKNOWN, RELEASING and EMPTYING CLAIMED,
OUT_OF_SERVICE by that name, every other state but REVIEW NOT_READY, and a compartment above 143 and an action outside
the set FORMAT (R27, R30). That a command carries such an action as a mark that is clear is log 25. -/
def Claims.ResolveReviewRefuses : Prop :=
  ∀ (h : Head) (c : Comp) (s : State), s.FramePasses h .operations 2 → s.InService →
    ∀ f ∈ [Instr.resolveReviewRestore h, .resolveReviewWaive h, .resolveReviewRetire h, .resolveReviewWithdraw h],
      let refused := fun r : Reason => Host.Outcome.next (s.refusedWith h 0x42#8 r [])
      (s.holding c = none → exec (f true c.val) s = refused .unknown) ∧
      ((s.holding c).isSome = true →
        (s.custodyState c = .releasing ∨ s.custodyState c = .emptying → exec (f true c.val) s = refused .claimed) ∧
        (s.custodyState c = .outOfService → exec (f true c.val) s = refused .outOfService) ∧
        (s.custodyState c = .reserved ∨ s.custodyState c = .loading ∨ (s.custodyState c).isRest = true →
          exec (f true c.val) s = refused .notReady)) ∧
      (∀ n, exec (f false n) s = refused .format ∧ (143 < n → exec (f true n) s = refused .format))

/-- Resolve Review of a REVIEW holding: RESTORE and WAIVE return it to rest with its causes and RELEASE_INTERRUPTED
cleared, WAIVE also sets the consignment's waived flag, RETIRE removes it, WITHDRAW takes it OUT_OF_SERVICE with its
causes (R27). -/
def Claims.ResolveReviewActions : Prop :=
  ∀ (h : Head) (c : Comp) (x : Holding) (s : State), s.FramePasses h .operations 2 → s.InService →
    s.custodyState c = .review → s.holding c = some x →
    let s0 := s.frameTaken h.port
    let cleared := fun t : State => t.updHolding c fun y => { y with causes := [], releaseInterrupted := false }
    exec (.resolveReviewRestore h true c.val) s =
      .next ((((cleared s0).toRest c).complete).respond h 0x42#8 (done [])) ∧
    exec (.resolveReviewWaive h true c.val) s =
      .next ((((cleared (s0.updRecord x.record fun k => { k with waived := true })).toRest c).complete).respond h
        0x42#8 (done [])) ∧
    exec (.resolveReviewRetire h true c.val) s =
      .next (((s0.removeHolding c .free none).complete).respond h 0x42#8 (done [])) ∧
    exec (.resolveReviewWithdraw h true c.val) s =
      .next (((s0.outOfService c .operator).complete).respond h 0x42#8 (done []))

/-- What the entries into REVIEW, OUT_OF_SERVICE and rest do to a compartment (R4 to R6, R24, R26). REVIEW appends the
cause to the holding, keeps its rest state, clears its claimant, and tells operations with a REVIEW notice of that
cause and of the code of a delivery; OUT_OF_SERVICE takes its cause and keeps the holding; a return to rest takes the
custody state of the rest state and clears the claimant. A review cause is appended unless it stands in the list or the
list holds four. No other compartment changes. -/
def Claims.ReviewRestAndOutOfService : Prop :=
  (∀ (s : State) (c : Comp) (x : Holding), s.holding c = some x →
    (∀ k : ReviewCause,
      (s.enterReview c k).entry c =
        { s.entry c with state := .review, holding := some { x.addCause k with claimant := none } } ∧
      (∀ d, d ≠ c → (s.enterReview c k).entry d = s.entry d) ∧
      (s.enterReview c k).ports = (s.post .operations
        { kind := .review, minute := s.clock.minute, comp := some c, cons := s.codeForm c, slot := none, ref := none
          detail := some (.word (match k with
            | .forced => .forced
            | .feeCondition => .feeCondition
            | .missing => .missing
            | .interrupted => .interrupted
            | .operator => .operator))
          qualifier := none, set := CondSet.none, amount := 0 }).ports ∧
      (s.addCause c k).entry c = { s.entry c with holding := some (x.addCause k) } ∧
      (∀ d, d ≠ c → (s.addCause c k).entry d = s.entry d) ∧ (s.addCause c k).ports = s.ports ∧
      x.addCause k = if k ∈ x.causes ∨ 4 ≤ x.causes.length then x else { x with causes := x.causes ++ [k] }) ∧
    (∀ r, x.rest = some r →
      (s.toRest c).entry c =
        { s.entry c with state := RestState.custody r, holding := some { x with claimant := none } } ∧
      (∀ d, d ≠ c → (s.toRest c).entry d = s.entry d) ∧ (s.toRest c).ports = s.ports)) ∧
  ∀ (s : State) (c : Comp) (k : OosCause),
    (s.outOfService c k).entry c = { s.entry c with state := .outOfService, cause := some k } ∧
    (∀ d, d ≠ c → (s.outOfService c k).entry d = s.entry d) ∧ (s.outOfService c k).ports = s.ports

/-- Return To Service of an OUT_OF_SERVICE compartment whose column is up and whose door is SHUT: FREE without a
holding; with one the rest state, its review causes and RELEASE_INTERRUPTED cleared; the cause cleared (R28). R28
lists the refusals without an order: that OUT_OF_SERVICE comes before NOT_READY is the model's reading, log 15. A
compartment above 143 is refused FORMAT (R30). -/
def Obligations.ReturnToServiceByState : Prop :=
  ∀ (h : Head) (c : Comp) (s : State), s.FramePasses h .operations 1 → s.InService →
    (s.column c.column ≠ .disabled → s.door c = some .shut → s.custodyState c = .outOfService →
      exec (.returnToService h c.val) s =
        .next (((((s.frameTaken h.port).returned c).complete).respond h 0x43#8 (done []))) ∧
      (s.holding c = none → (s.returned c).custodyState c = .free ∧ (s.returned c).entry c =
        { s.entry c with state := .free, cause := none }) ∧
      (∀ x r, s.holding c = some x → x.rest = some r → (s.returned c).entry c = { s.entry c with
        state := RestState.custody r, cause := none
        holding := some { x with causes := [], releaseInterrupted := false, claimant := none } })) ∧
    (s.column c.column = .disabled →
      exec (.returnToService h c.val) s = .next (s.refusedWith h 0x43#8 .outOfService [])) ∧
    (s.column c.column ≠ .disabled → s.door c ≠ some .shut ∨ s.custodyState c ≠ .outOfService →
      exec (.returnToService h c.val) s = .next (s.refusedWith h 0x43#8 .notReady [])) ∧
    (∀ n, 143 < n → exec (.returnToService h n) s = .next (s.refusedWith h 0x43#8 .format []))

/-- Amend Holding writes the selected fields of the holding and its consignment's COD amount, clamped, when each of
them passes the table of R29: a parcel reference of 1 to 20 printable characters, which are those of log 38, a tariff
class 0 to 3, a deposit minute where there is one, HELD or OVERSTAYED where the rest state is one of these, and a COD
amount for a delivery. A written rest state moves the custody state in HELD and OVERSTAYED, and in no other. A
compartment without a holding is refused UNKNOWN; a field that does not pass, a set that names another, and a
compartment above 143 FORMAT (R29, R30). That the answer carries all five fields as they stand, selected or not, with a
COD amount of 0 where no record is, is log 31. -/
def Obligations.AmendHoldingWritesTheFields : Prop :=
  ∀ (h : Head) (c : Comp) (sel : BitVec 16) (v : AmendFields) (s : State), s.FramePasses h .operations 34 →
    s.InService →
    let passes := fun x : Holding => sel.toNat < 32 ∧
      (sel.getLsbD 0 = true → v.parcelRef ≠ [] ∧ v.parcelRef.length ≤ 20 ∧
        ∀ b ∈ v.parcelRef, 0x20 ≤ b.toNat ∧ b.toNat ≤ 0x7E) ∧
      (sel.getLsbD 1 = true → v.tariffClass < 4) ∧
      (sel.getLsbD 2 = true → x.depositMinute ≠ none) ∧
      (sel.getLsbD 3 = true → (v.rest = some .held ∨ v.rest = some .overstayed) ∧
        (x.rest = some .held ∨ x.rest = some .overstayed)) ∧
      (sel.getLsbD 4 = true → ∃ k, s.record x.record = some k ∧ k.kind = .delivery)
    (∀ x, s.holding c = some x → passes x →
      let s1 := ((s.frameTaken h.port).updHolding c fun y =>
        { y with parcelRef := if sel.getLsbD 0 then parcelOf v.parcelRef else y.parcelRef
                 tariffClass := if sel.getLsbD 1 then (classOf v.tariffClass).getD y.tariffClass else y.tariffClass
                 depositMinute := if sel.getLsbD 2 then some v.depositMinute else y.depositMinute
                 rest := if sel.getLsbD 3 then v.rest else y.rest }).updRecord x.record fun k =>
        { k with cod := if sel.getLsbD 4 then min v.cod 999999 else k.cod }
      let moves := sel.getLsbD 3 = true ∧ (s.custodyState c = .held ∨ s.custodyState c = .overstayed)
      let s2 := if moves then s1.setCustody c (if v.rest = some .overstayed then .overstayed else .held) else s1
      exec (.amendHolding h c.val sel v) s = .next ((s2.complete).respond h 0x44#8 (done (s2.amendFields c)))) ∧
    (s.holding c = none → exec (.amendHolding h c.val sel v) s = .next (s.refusedWith h 0x44#8 .unknown [])) ∧
    (∀ x, s.holding c = some x → ¬ passes x →
      exec (.amendHolding h c.val sel v) s = .next (s.refusedWith h 0x44#8 .format [])) ∧
    (∀ n, 143 < n → exec (.amendHolding h n sel v) s = .next (s.refusedWith h 0x44#8 .format [])) ∧
    (∀ (t : State) (y : Holding), t.holding c = some y → t.amendFields c =
      [.parcel y.parcelRef, .u8 y.tariffClass.val, .opt32 y.depositMinute, .opt8 (y.rest.map fun r => r.ctorIdx),
        .u32 (match t.record y.record with
          | some k => k.cod
          | none => 0)])

/-- In RESTORING the requests on custody are refused NOT_READY (R193), and while no compartment is fitted
UNCOMMISSIONED (R30, R31, R72, R161, R162, R164, R165): the requests of operations with a compartment or a column, the
console's and the courier's Start. Set Compartment, Resume and Fetch Charge are refused NOT_READY in RESTORING alone.
That both come before the own refusals of the requests of R30, and UNCOMMISSIONED before Start's NOT_READY by the
engine's state, is the model's reading, log 15. -/
def Claims.NotInServiceRefuses : Prop :=
  ∀ (h : Head) (c : Comp) (col : Column) (code ref : Text) (n i g : Nat) (j : RingSlot) (z : SizeClass) (use : UseClass)
    (b : Bool) (sel : BitVec 16) (v : AmendFields) (x : Sense) (o : Option (Nat × Nat)) (s : State),
    (∀ p ∈ [(Instr.withholdToReview h true c.val, 0x41#8, Role.operations, 2),
            (.withholdToOutOfService h true c.val, 0x41#8, .operations, 2),
            (.resolveReviewRestore h true c.val, 0x42#8, .operations, 2),
            (.resolveReviewWaive h true c.val, 0x42#8, .operations, 2),
            (.resolveReviewRetire h true c.val, 0x42#8, .operations, 2),
            (.resolveReviewWithdraw h true c.val, 0x42#8, .operations, 2),
            (.returnToService h c.val, 0x43#8, .operations, 1), (.amendHolding h c.val sel v, 0x44#8, .operations, 34),
            (.serviceRelease h c.val (some b), 0x4C#8, .operations, 2),
            (.withdrawService h c.val, 0x4D#8, .operations, 1), (.testPulse h c.val, 0x4E#8, .operations, 1),
            (.columnRestore h col.val, 0x4F#8, .operations, 1), (.lookup h code, 0x10#8, .console, 8),
            (.quote h code, 0x11#8, .console, 8), (.voidQuote h i g, 0x12#8, .console, 2),
            (.collect h code, 0x13#8, .console, 8), (.returnBegin h n (some z) ref, 0x14#8, .console, 26),
            (.start h j.val, 0x23#8, .courier, 1)],
      s.FramePasses h p.2.2.1 p.2.2.2 →
        (s.power.restoring = true → exec p.1 s = .next (s.refusedWith h p.2.1 .notReady [])) ∧
        (s.power.restoring = false → s.anyFitted = false →
          exec p.1 s = .next (s.refusedWith h p.2.1 .uncommissioned []))) ∧
    (s.FramePasses h .console 1 →
      (s.power.restoring = true →
        exec (.returnCancel h n x) s = .next ((s.latch x).refusedWith h 0x15#8 .notReady [])) ∧
      (s.power.restoring = false → s.anyFitted = false →
        exec (.returnCancel h n x) s = .next ((s.latch x).refusedWith h 0x15#8 .uncommissioned []))) ∧
    (∀ p ∈ [(Instr.setCompartment h c.val (some b) (some z) (some use), 0x40#8, Role.operations, 4),
            (.resume h, 0x24#8, .courier, 0), (.fetchCharge h o, 0x30#8, .payment, 3)],
      s.FramePasses h p.2.2.1 p.2.2.2 → s.power.restoring = true →
        exec p.1 s = .next (s.refusedWith h p.2.1 .notReady []))

/-! ### Removal of a holding, and releases that end shut (chapters 1 to 3) -/

/-- The removal of a holding: its compartment takes the state and cause that the causing rule gives and holds nothing,
the carrier's live count falls by one, and the compartment leaves the consignment (R8, R50). While other pieces are
left the consignment stays; with its last piece its record goes out of use, its code out of the code map and it out of
the paid return list, and its live charge ends VOID with cause RETIRED (R10, R11, R46, R140). -/
def Claims.RemovalOfAHolding : Prop :=
  ∀ (s : State) (c : Comp) (st : CustodyState) (cause : Option OosCause) (x : Holding) (k : Consignment),
    s.holding c = some x → s.record x.record = some k →
    let n := x.record
    let t := s.removeHolding c st cause
    let left := k.pieces.filter (· != c)
    t.entry c = { s.entry c with state := st, cause := cause, holding := none } ∧
    (∀ d, d ≠ c → t.entry d = s.entry d) ∧
    t.carriers.get k.carrier = { s.carriers.get k.carrier with live := (s.carriers.get k.carrier).live - 1 } ∧
    (∀ i, i ≠ k.carrier → t.carriers.get i = s.carriers.get i) ∧ t.ports = s.ports ∧
    (left ≠ [] → t.record n = some { k with pieces := left } ∧ (∀ m, m ≠ n → t.record m = s.record m) ∧
      t.custody.codeMap = s.custody.codeMap ∧ t.charges = s.charges ∧ t.paidReturns = s.paidReturns) ∧
    (left = [] → t.record n = none ∧ t.custody.codeMap = s.custody.codeMap.filter (fun p => p.2 != n) ∧
      t.paidReturns = s.paidReturns.filter (· != n) ∧
      (s.openChargeIs k .opened = false → s.openChargeIs k .presented = false → t.charges = s.charges) ∧
      (∀ ref, k.openRef = some ref → s.openChargeIs k .opened = true ∨ s.openChargeIs k .presented = true →
        t.charge ref.slot = { s.charge ref.slot with
          state := .void, cause := some .retired, paymentMinute := none, expiry := 0 } ∧
        t.charges.ended = s.charges.ended ++ [ref.slot] ∧ ∀ j, j ≠ ref.slot → t.charge j = s.charge j))

/-- R14, R20 and R24, a release that ended with its door shut. A RESERVED holding is dropped, with the compartment
FREE and NOT_OPENED to its origin, with detail INTERRUPTED where the event carries that mark, and to the engine as the
outcome of a manifest slot (R80). A claim lapses: the
holding is at rest, the claimant cleared, and the claim's origin is told NOT_OPENED: the console by a notice,
operations by SERVICE_DONE, the engine by its report. An interrupted release marks the holding RELEASE_INTERRUPTED; a
second one sends it to REVIEW. A release of class SERVICE ends a claim of the service release, and any whose own
release does not wait still; where it ends none it tells operations alone (R147, R181), which is log 12. That
SERVICE_DONE carries the code of a delivery, as R12 has it and the table of section 11.4 does not, is log 36. -/
def Claims.WindowShutRows : Prop :=
  ∀ (s : State) (c : Comp) (x : Holding) (k : ReleaseClass) (b : Bool), s.holding c = some x →
    let t := s.custodyWindowShut c k b
    let ends := k = .custody ∨ x.claimant = some .service ∨ s.releaseWaits c = false
    let n : Notice := { s.noteFull .notOpened c with detail := if b then some (.word .interrupted) else none }
    let told := (s.post .operations ((s.noteCode .serviceDone c).withDetail .notOpened)).ports
    (∀ d, d ≠ c → t.entry d = s.entry d) ∧
    (s.custodyState c = .reserved → ends →
      t.entry c = { s.entry c with state := .free, cause := none, holding := none } ∧
      t.ports = (s.post (match x.origin with
        | .slot _ => .courier
        | .console => .console) n).ports ∧
      (∀ i, x.origin = .slot i → t.engine = (s.reportDrop i c .notOpened none).engine) ∧
      (x.origin = .console → t.engine = s.engine)) ∧
    (∀ r, s.custodyState c = .releasing → ends → x.rest = some r →
      (b = false ∨ x.releaseInterrupted = false → t.entry c = { s.entry c with
          state := RestState.custody r
          holding := some { x with claimant := none, releaseInterrupted := b || x.releaseInterrupted } } ∧
        (x.claimant = some .customer → t.ports = (s.post .console (s.noteFull .notOpened c)).ports) ∧
        (x.claimant = some .service → t.ports = told) ∧
        (x.claimant = some .carrier → t.ports = s.ports ∧
          t.engine = (s.reportClaim c .notOpened).engine)) ∧
      (b = true → x.releaseInterrupted = true → t.entry c = { s.entry c with
        state := .review, holding := some { x.addCause .interrupted with claimant := none } })) ∧
    (k = .service → s.custodyState c ≠ .notFitted →
      ¬ ends ∨ (s.custodyState c ≠ .reserved ∧ s.custodyState c ≠ .releasing) →
      t.entry c = s.entry c ∧ t.ports = told) ∧
    (k = .custody → s.custodyState c ≠ .reserved → s.custodyState c ≠ .releasing → t = s)

/-! ### Operations on releases (chapter 8) -/

/-- Test Pulse: the checks of R165 in their order, a compartment above 143 or one not fitted FORMAT first; one that
passes queues a TEST entry of purpose TEST, origin operations, restore mark clear, and is answered ACCEPTED. -/
def Claims.TestPulseChecksAndQueues : Prop :=
  ∀ (h : Head) (c : Comp) (s : State), s.FramePasses h .operations 1 → s.InService →
    (∀ n, 143 < n → exec (.testPulse h n) s = .next (s.refusedWith h 0x4E#8 .format [])) ∧
    (s.custodyState c = .notFitted → exec (.testPulse h c.val) s = .next (s.refusedWith h 0x4E#8 .format [])) ∧
    (s.custodyState c ≠ .notFitted →
      (s.holding c ≠ none → exec (.testPulse h c.val) s = .next (s.refusedWith h 0x4E#8 .occupied [])) ∧
      (s.holding c = none →
        (s.column c.column = .disabled →
          exec (.testPulse h c.val) s = .next (s.refusedWith h 0x4E#8 .outOfService [])) ∧
        (s.column c.column ≠ .disabled →
          (s.hasEntry c = true ∨ s.pendingFor c = true →
            exec (.testPulse h c.val) s = .next (s.refusedWith h 0x4E#8 .duplicate [])) ∧
          (s.hasEntry c = false → s.pendingFor c = false →
            (16 ≤ s.seq.queue.length → exec (.testPulse h c.val) s = .next (s.refusedWith h 0x4E#8 .qfull [])) ∧
            (s.seq.queue.length < 16 → exec (.testPulse h c.val) s = .next
              ((((s.frameTaken h.port).join
                { comp := c, cls := .test, purpose := .test, origin := .operations, attempt := 1,
                  passOver := 0, restore := false, inFlight := false }).complete).respond h 0x4E#8
                  (accepted [])))))))

/-- Service Release that passes its checks: queued, when SVC_KEY is on, nothing is pending and the queue has room;
otherwise made pending at the end of the set while it holds fewer than 8; otherwise refused QFULL. With clearance the
claim is made in the same step (R23, R162), and before its entry is made pending, so that it moves nothing itself,
which is log 50. -/
def Claims.ServiceReleaseQueuesOrWaits : Prop :=
  ∀ (h : Head) (c : Comp) (b : Bool) (s : State), s.FramePasses h .operations 2 → s.InService →
    s.custodyState c ≠ .notFitted → s.column c.column ≠ .disabled → s.releaseRefusal c b = none →
    s.hasEntry c = false → s.pendingFor c = false →
    let s0 := s.frameTaken h.port
    let s1 := if b then s0.claim c .service else s0
    (s.seq.svcKey = true → s.seq.pendingService = [] → s.seq.queue.length < 16 →
      exec (.serviceRelease h c.val (some b)) s = .next (((s1.join (serviceEntry c)).complete).respond h 0x4C#8
        (accepted [.u8 0]))) ∧
    (s.seq.svcKey = false ∨ s.seq.pendingService ≠ [] ∨ 16 ≤ s.seq.queue.length →
      (s.seq.pendingService.length < 8 → exec (.serviceRelease h c.val (some b)) s =
        .next ((((s1.setPending (s.seq.pendingService ++ [c])).complete).respond h 0x4C#8 (accepted [.u8 1])))) ∧
      (8 ≤ s.seq.pendingService.length →
        exec (.serviceRelease h c.val (some b)) s = .next (s.refusedWith h 0x4C#8 .qfull []))) ∧
    (s.releaseRefusal c true = none ↔ (s.custodyState c).isRest = true)

/-- The refusals of Service Release, in their order (R23, R162): an unknown clearance mark, a compartment above 143 or
one not fitted FORMAT; a DISABLED column OUT_OF_SERVICE; the custody refusals: OCCUPIED in RESERVED and LOADING,
CLAIMED in RELEASING and EMPTYING, and with clearance UNKNOWN without a holding, REVIEW and OUT_OF_SERVICE by the
holding's state; and DUPLICATE where the compartment has a present or a pending entry. -/
def Claims.ServiceReleaseRefuses : Prop :=
  ∀ (h : Head) (s : State), s.FramePasses h .operations 2 → s.InService →
    let run := fun (n : Nat) (b : Option Bool) => exec (.serviceRelease h n b) s
    let refused := fun r : Reason => Host.Outcome.next (s.refusedWith h 0x4C#8 r [])
    (∀ n, run n none = refused .format) ∧ (∀ n b, 143 < n → run n (some b) = refused .format) ∧
    ∀ (c : Comp) (b : Bool),
      (s.custodyState c = .notFitted → run c.val (some b) = refused .format) ∧
      (s.custodyState c ≠ .notFitted → s.column c.column = .disabled → run c.val (some b) = refused .outOfService) ∧
      (s.column c.column ≠ .disabled →
        (s.custodyState c = .reserved ∨ s.custodyState c = .loading → run c.val (some b) = refused .occupied) ∧
        (s.custodyState c = .releasing ∨ s.custodyState c = .emptying → run c.val (some b) = refused .claimed) ∧
        (s.custodyState c = .free ∨ (s.custodyState c = .outOfService ∧ s.holding c = none) →
          run c.val (some true) = refused .unknown) ∧
        (s.custodyState c = .review → run c.val (some true) = refused .review) ∧
        (s.custodyState c = .outOfService → s.holding c ≠ none → run c.val (some true) = refused .outOfService) ∧
        ((s.custodyState c).isRest = true ∨ (b = false ∧ (s.custodyState c = .free ∨ s.custodyState c = .review ∨
            s.custodyState c = .outOfService)) → s.releaseRefusal c b = none ∧
          (s.hasEntry c = true ∨ s.pendingFor c = true → run c.val (some b) = refused .duplicate)))

/-- Withdraw Service: a pending entry leaves the set and a holding it claimed returns to rest; a present SERVICE entry
is refused OCCUPIED, no service entry UNKNOWN, and a compartment above 143 FORMAT (R19, R164). -/
def Claims.WithdrawServiceByPlace : Prop :=
  ∀ (h : Head) (c : Comp) (s : State), s.FramePasses h .operations 1 → s.InService →
    (s.pendingFor c = true →
      let s1 := (s.frameTaken h.port).setPending (s.seq.pendingService.filter (· != c))
      (s.custodyState c = .releasing → (s.holding c).any (fun x => x.claimant == some .service) = true →
        exec (.withdrawService h c.val) s = .next (((s1.toRest c).complete).respond h 0x4D#8 (done []))) ∧
      (s.custodyState c ≠ .releasing ∨ (s.holding c).any (fun x => x.claimant == some .service) = false →
        exec (.withdrawService h c.val) s = .next (s1.respond h 0x4D#8 (done [])))) ∧
    (s.pendingFor c = false → s.hasService c = true →
      exec (.withdrawService h c.val) s = .next (s.refusedWith h 0x4D#8 .occupied [])) ∧
    (s.pendingFor c = false → s.hasService c = false →
      exec (.withdrawService h c.val) s = .next (s.refusedWith h 0x4D#8 .unknown [])) ∧
    (∀ n, 143 < n → exec (.withdrawService h n) s = .next (s.refusedWith h 0x4D#8 .format []))

/-- Column Restore: the checks of R161 in their order after the common ones, a column above 8 FORMAT first; one that
passes queues a TEST entry with the restore mark for the lowest-numbered fitted compartment of the column in FREE, or
in OUT_OF_SERVICE without a holding. -/
def Claims.ColumnRestoreChecksAndQueues : Prop :=
  ∀ (h : Head) (col : Column) (s : State), s.FramePasses h .operations 1 → s.InService →
    (∀ n, 8 < n → exec (.columnRestore h n) s = .next (s.refusedWith h 0x4F#8 .format [])) ∧
    (s.column col ≠ .disabled →
      exec (.columnRestore h col.val) s = .next (s.refusedWith h 0x4F#8 .notReady [])) ∧
    (s.column col = .disabled →
      (s.hasRestore col = true →
        exec (.columnRestore h col.val) s = .next (s.refusedWith h 0x4F#8 .duplicate [])) ∧
      (s.hasRestore col = false →
        (s.restoreComp col = none →
          exec (.columnRestore h col.val) s = .next (s.refusedWith h 0x4F#8 .unknown [])) ∧
        (∀ c, s.restoreComp col = some c →
          (16 ≤ s.seq.queue.length →
            exec (.columnRestore h col.val) s = .next (s.refusedWith h 0x4F#8 .qfull [])) ∧
          (s.seq.queue.length < 16 → s.hasEntry c = false → exec (.columnRestore h col.val) s = .next
            ((((s.frameTaken h.port).join
                { comp := c, cls := .test, purpose := .test, origin := .operations, attempt := 1,
                  passOver := 0, restore := true, inFlight := false }).complete).respond h 0x4F#8
                (accepted [.u8 c.val]))))))

/-! ### The sequencer (chapter 8) -/

/-- How the sequencer answers a release request, by the rows of R146 in their order, and what a taken one becomes. -/
def Claims.ReleaseRequestRows : Prop :=
  ∀ (s : State) (e : Entry),
    (s.hasEntry e.comp = true → s.requestAnswer e.comp = .duplicate ∧ s.request e = s) ∧
    (s.hasEntry e.comp = false → 16 ≤ s.seq.queue.length → s.requestAnswer e.comp = .qfull ∧ s.request e = s) ∧
    (s.hasEntry e.comp = false → s.seq.queue.length < 16 → s.requestAnswer e.comp = .taken ∧
      (e.cls = .custody → s.column e.comp.column = .disabled → s.request e = s.failEntry e .columnDown) ∧
      (e.cls ≠ .custody ∨ s.column e.comp.column ≠ .disabled →
        s.request e = { s with seq := { s.seq with queue := s.seq.queue ++ [e] }, arbiterDue := true }))

/-- What the arbiter takes is a queued entry, and eligible: the in-flight set is below the coil budget, PFAIL is
negated, the entry's column is IDLE or ARMED, or DISABLED for a TEST entry with the restore mark, a CUSTODY entry
stands beside CUSTODY entries alone, and a SERVICE or TEST entry stands alone, with no other column ARMING or ARMED
(R153 to R155). -/
def Claims.ArbiterTakesEligibleEntries : Prop :=
  ∀ (s : State) (e : Entry),
    (s.choice = some e → e ∈ s.seq.queue ∧ s.eligible e = true) ∧
    (s.eligible e = true ↔
      e.inFlight = false ∧ s.flying.length < s.seq.budget ∧ s.power.pfail = false ∧
      (if e.cls = .test ∧ e.restore = true then s.column e.comp.column = .disabled
        else s.column e.comp.column = .idle ∨ ∃ run, s.column e.comp.column = .armed run) ∧
      (e.cls = .custody → ∀ f ∈ s.flying, f.cls = .custody) ∧
      (e.cls ≠ .custody → s.flying = [] ∧ ∀ c, c ≠ e.comp.column →
        (∀ left, s.column c ≠ .arming left) ∧ ∀ run, s.column c ≠ .armed run))

/-- The arbiter's look at the end of a step (R155, log 9): when the step has made a change that can make an entry
eligible, it makes a choice, takes the entry, and makes another choice on what that leaves, until none can be made;
where every compartment has one entry and the coil budget is at most 3, none is left to choose. Else nothing
is looked at. -/
def Claims.ArbiterLooksUntilNoneIsLeft : Prop :=
  ∀ s : State,
    (s.arbiterDue = false → s.arbiterLooks = s) ∧ (s.arbiterDue = true → s.arbiterLooks = State.arbitrate 3 s) ∧
    (∀ n, (s.choice = none → State.arbitrate (n + 1) s = s) ∧
      ∀ e, s.choice = some e → State.arbitrate (n + 1) s = State.arbitrate n (s.take e)) ∧
    State.arbitrate 0 s = s ∧
    (s.arbiterDue = true → s.OneEntryEach → s.seq.budget ≤ 3 → s.arbiterLooks.choice = none)

/-- The arbiter's three tests: an eligible entry whose count is 4 comes before an entry on an ARMED column, and that
before any other; among equals the oldest is taken (R155), while no held-back SERVICE or TEST entry has the count 4
(R156, log 21). -/
def Claims.ArbiterTests : Prop :=
  ∀ (s : State), s.arbiterHeld = false →
    let eligible := s.seq.queue.filter s.eligible
    let counted := eligible.filter fun e => decide (e.passOver = 4)
    let armed := eligible.filter fun e => (s.column e.comp.column).isArmed
    s.choice = if counted ≠ [] then counted.head? else if armed ≠ [] then armed.head? else eligible.head?

/-- The entry taken is in flight with its flight record entry, its column pulses at once when it is ARMED and
otherwise arms, and every older entry that is eligible, or held back by its pairing condition alone, has its pass-over
count raised by one, up to 4; younger entries keep theirs (R150, R155, R156, R168). -/
def Claims.TakingCountsPassOvers : Prop :=
  ∀ (s : State) (older younger : List Entry) (e : Entry), s.seq.queue = older ++ e :: younger →
    (∀ x ∈ older, x.comp ≠ e.comp) →
    (s.take e).seq.queue = older.map (fun x => if s.eligible x = true ∨ s.heldByPairing x = true then
        { x with passOver := min 4 (x.passOver + 1) } else x) ++ { e with inFlight := true } :: younger ∧
    (s.take e).seq.flight = s.seq.flight ++ [{ comp := e.comp, purpose := e.purpose, restore := e.restore }] ∧
    (∀ run, s.column e.comp.column = .armed run →
      (s.take e).column e.comp.column = .pulsing run (msUnits s.seq.pulseLength)) ∧
    ((∀ run, s.column e.comp.column ≠ .armed run) → (s.take e).column e.comp.column = .arming (msUnits 30)) ∧
    (∀ d, d ≠ e.comp.column → (s.take e).column d = s.column d)

/-- What holds an entry back by its pairing condition alone (R154, R156): a queued SERVICE or TEST entry whose column
admits it, with the budget open and PFAIL negated, while another entry is in flight or another column is ARMING or
ARMED. Where the oldest queued entry with the count 4 is held back so, the arbiter takes none; otherwise none is held
for it. That the entries in flight are not looked at is log 21. -/
def Claims.PairingHoldsTheArbiter : Prop :=
  (∀ (s : State) (e : Entry), s.heldByPairing e = true ↔
    e.inFlight = false ∧ s.flying.length < s.seq.budget ∧ s.power.pfail = false ∧ e.cls ≠ .custody ∧
    (if e.cls = .test ∧ e.restore = true then s.column e.comp.column = .disabled
      else s.column e.comp.column = .idle ∨ ∃ run, s.column e.comp.column = .armed run) ∧
    (s.flying ≠ [] ∨ ∃ c, c ≠ e.comp.column ∧ (s.column c).armingOrArmed = true)) ∧
  (∀ (s : State) (older younger : List Entry) (e : Entry), s.seq.queue = older ++ e :: younger →
    e.inFlight = false → e.passOver = 4 → (∀ x ∈ older, x.inFlight = true ∨ x.passOver ≠ 4) →
    (s.heldByPairing e = true → s.arbiterHeld = true ∧ s.choice = none) ∧
    (s.heldByPairing e = false → s.arbiterHeld = false)) ∧
  ∀ s : State, (∀ x ∈ s.seq.queue, x.inFlight = true ∨ x.passOver ≠ 4) → s.arbiterHeld = false

/-- ARMING_END: the column enters PULSING with the pulse length in force and its 600 ms run window (R150).
RUN_WINDOW_END disarms an ARMED column, and RECOVERING_END brings the column to IDLE (R152). -/
def Claims.ColumnTimersEnd : Prop :=
  ∀ (col : Column) (x : Sense) (s : State), s.Running →
    (∀ left, s.column col = .arming left → (s.flyingOn col).isSome = true →
      exec (.armingEnd col) s =
        .next ((s.setColumn col (.pulsing (msUnits 600) (msUnits s.seq.pulseLength))).complete)) ∧
    (∀ run, s.column col = .armed run →
      exec (.runWindowEnd col x) s = .next (((s.latch x).setColumn col (.recovering (msUnits 50))).complete)) ∧
    (∀ run left, s.column col = .pulsing run left →
      exec (.runWindowEnd col x) s = .next ((s.latch x).putColumn col (.pulsing 0 left))) ∧
    (∀ left, s.column col = .recovering left →
      exec (.recoveringEnd col) s = .next ((s.setColumn col .idle).complete))

/-- At the end of a GOOD or OPEN_COIL pulse the column disarms when no queued entry targets it or its run window has
passed, and stays ARMED with its run otherwise (R151). -/
def Claims.ColumnAfterPulseRows : Prop :=
  ∀ (s : State) (col : Column) (run left : Nat), s.column col = .pulsing run left →
    (s.targeted col = false → s.columnAfterPulse col = s.setColumn col (.recovering (msUnits 50))) ∧
    (run = 0 → s.columnAfterPulse col = s.setColumn col (.recovering (msUnits 50))) ∧
    (s.targeted col = true → run ≠ 0 → s.columnAfterPulse col = s.setColumn col (.armed run))

/-- The drive outputs (R149, R150, R161, R165, R213). A lock is driven exactly by the entry in flight for it on a
PULSING column, a TEST entry at reduced current and any other at full current; a position line where a lock at it is
driven; a column line while its column is ARMING, ARMED or PULSING, and, which is log 46, while a sweep in progress
stands at it. With the mains domain stopped all are low. -/
def Claims.DriveOutputs : Prop :=
  ∀ s : State,
    (∀ c, ((∀ run left, s.column c.column ≠ .pulsing run left) → s.lockDrive c = none) ∧
      ((∀ e ∈ s.seq.queue, e.inFlight = true → e.comp ≠ c) → s.lockDrive c = none) ∧
      (∀ run left older e younger, s.column c.column = .pulsing run left → s.seq.queue = older ++ e :: younger →
        e.inFlight = true → e.comp = c → (∀ x ∈ older, x.inFlight = true → x.comp ≠ c) →
        s.lockDrive c = some (if e.cls = .test then .reduced else .full))) ∧
    (∀ p, s.positionDrive p = true ↔ ∃ col : Column, s.lockDrive (Comp.at col p) ≠ none) ∧
    (∀ col, s.columnLine col = true ↔ (∃ left, s.column col = .arming left) ∨ (∃ run, s.column col = .armed run) ∨
      (∃ run left, s.column col = .pulsing run left) ∨
      (s.power.running = true ∧ s.scanner.sweeping = true ∧ s.scanner.pointer = col)) ∧
    (s.power.running = true → ∀ i ∈ [Instr.mainsFall, .resetAssert], ∃ t, exec i s = .next t ∧
      (∀ col, t.columnLine col = false) ∧ (∀ p, t.positionDrive p = false) ∧ ∀ c, t.lockDrive c = none)

/-- PULSE_GOOD of a CUSTODY or SERVICE entry: it leaves the queue and the flight record, a SHUT door becomes RELEASED
with the open window in force, the departure is told, and the column acts (R151, R157, R168, R175). That the departure
is told before the column acts is log 32. -/
def Claims.PulseGoodReleasesTheDoor : Prop :=
  ∀ (col : Column) (x : Sense) (e : Entry) (s : State), s.Running → s.pulsingEntry col = some e →
    e.cls = .custody ∨ e.cls = .service →
    let s1 := (s.latch x).leavesQueue e.comp
    let s2 := match s.door e.comp with
      | some .shut => s1.setDoor e.comp (some (.released e.cls.release (secUnits s.scanner.openWindow)))
      | _ => s1
    exec (.pulseGood col x) s = .next (((s2.departed).emit (.columnActs e.comp.column)).complete) ∧
      s1.hasEntry e.comp = false ∧ (∀ f ∈ s1.seq.flight, f.comp ≠ e.comp) ∧
      s1.seq.queue = s.seq.queue.filter (fun y => y.comp != e.comp)

/-- PULSE_OPEN_COIL: the first attempt re-enters the queue at its head with attempt 2, not in flight and otherwise as it
was; the second fails with LOCK_FAULT (R158). The column acts last, after a departure is told, which is log 32. -/
def Claims.PulseOpenCoilRetriesOnce : Prop :=
  ∀ (col : Column) (x : Sense) (e : Entry) (s : State), s.Running → s.pulsingEntry col = some e →
    e.cls = .custody ∨ e.cls = .service →
    let s1 := (s.latch x).leavesQueue e.comp
    (e.attempt = 1 → exec (.pulseOpenCoil col x) s = .next (((s1.setQueue
      ({ e with attempt := 2, inFlight := false } :: s1.seq.queue)).emit (.columnActs e.comp.column)).complete)) ∧
    (e.attempt ≠ 1 → exec (.pulseOpenCoil col x) s =
      .next ((((s1.failEntry e .lockFault).emit (.columnActs e.comp.column)).complete)))

/-- PULSE_SHORT of a CUSTODY or SERVICE entry: the column is DISABLED, the entry fails with COLUMN_DOWN, and then every
queued entry that targets the column does, in queue order (R159). -/
def Claims.PulseShortDisablesTheColumn : Prop :=
  ∀ (col : Column) (x : Sense) (e : Entry) (s : State), s.Running → s.pulsingEntry col = some e →
    e.cls = .custody ∨ e.cls = .service →
    let s1 := (((s.latch x).putColumn e.comp.column .disabled).leavesQueue e.comp).failEntry e .columnDown
    exec (.pulseShort col x) s = .next ((((s1.failColumn e.comp.column).tellScanner e.comp.column).complete)) ∧
      (((s.latch x).putColumn e.comp.column .disabled).column e.comp.column = .disabled)

/-- TEST_PULSE_END: TEST_RESULT goes to operations with the outcome, and for a Column Restore with RESTORED or
NOT_RESTORED; the entry departs; a GOOD restore disarms the column, a failed restore and a short disable it and fail its
queued entries, and any other test leaves the column to act as after any pulse (R159, R161, R165). That the departure is
told before the column acts or changes is log 32. PULSE_SHORT ends a TEST entry as its outcome SHORT does, which is log
24. -/
def Claims.TestPulseEnds : Prop :=
  ∀ (col : Column) (x : Sense) (o : PulseOutcome) (e : Entry) (s : State), s.Running →
    s.pulsingEntry col = some e → e.cls = .test →
    let c := e.comp.column
    let q := if e.restore then some (restoreDetail o) else none
    let s1 := (((s.latch x).leavesQueue e.comp).post .operations
      { s.note .testResult with comp := some e.comp, detail := some (.word (PulseOutcome.detail o)), qualifier := q
        }).departed
    (o = .short ∨ (o = .openCoil ∧ e.restore = true) → exec (.testPulseEnd col o x) s =
      .next (((((s1.putColumn c .disabled).failColumn c).tellScanner c).complete))) ∧
    (o = .good → e.restore = true → exec (.testPulseEnd col o x) s =
      .next ((s1.setColumn c (.recovering (msUnits 50))).complete)) ∧
    (o ≠ .short → e.restore = false → exec (.testPulseEnd col o x) s =
      .next ((s1.emit (.columnActs c)).complete)) ∧
    exec (.pulseShort col x) s = exec (.testPulseEnd col .short x) s

/-- What a failed release does to a compartment, by the table of R18; a compartment that is not fitted is left. The
end of a RESERVED holding of a manifest slot, and that of a CARRIER claim, are reported to the engine with the failure
(R80, R82, R85), and no notice is posted here. -/
def Claims.FailedReleaseRows : Prop :=
  (∀ (s : State) (c : Comp),
    (s.custodyState c = .free → (s.custodyFailed c .lockFault).entry c =
        { s.entry c with state := .outOfService, cause := some .lockFault } ∧ s.custodyFailed c .columnDown = s) ∧
    (s.custodyState c = .notFitted → ∀ f, s.custodyFailed c f = s) ∧
    ((s.custodyState c).isRest = true ∨ s.custodyState c = .review →
      (s.custodyFailed c .lockFault).entry c =
        { s.entry c with state := .outOfService, cause := some .lockFault } ∧ s.custodyFailed c .columnDown = s) ∧
    (∀ x, s.custodyState c = .releasing → s.holding c = some x →
      (s.custodyFailed c .lockFault).entry c =
        { s.entry c with state := .outOfService, cause := some .lockFault,
                         holding := some { x with claimant := none } } ∧
      ∀ r, x.rest = some r → (s.custodyFailed c .columnDown).entry c =
        { s.entry c with state := RestState.custody r, holding := some { x with claimant := none } }) ∧
    (∀ x, s.custodyState c = .reserved → s.holding c = some x →
      (s.custodyFailed c .lockFault).entry c =
        { s.entry c with state := .outOfService, cause := some .lockFault, holding := none } ∧
      (s.custodyFailed c .columnDown).entry c = { s.entry c with state := .free, cause := none, holding := none }) ∧
    (s.custodyState c = .loading ∨ s.custodyState c = .emptying ∨ s.custodyState c = .outOfService →
      ∀ f, s.custodyFailed c f = s)) ∧
  ∀ (s : State) (c : Comp) (x : Holding), s.holding c = some x →
    ∀ p ∈ [(Failure.lockFault, Status.lockFault, ClaimEnd.lockFault),
        (Failure.columnDown, Status.columnDown, ClaimEnd.columnDown)],
      (s.custodyFailed c p.1).ports = s.ports ∧ (∀ d, d ≠ c → (s.custodyFailed c p.1).entry d = s.entry d) ∧
      (s.custodyState c = .reserved → (∀ n, x.origin = .slot n →
          (s.custodyFailed c p.1).engine = (s.reportDrop n c p.2.1 none).engine) ∧
        (x.origin = .console → (s.custodyFailed c p.1).engine = s.engine)) ∧
      (s.custodyState c = .releasing →
        (x.claimant = some .carrier → (s.custodyFailed c p.1).engine = (s.reportClaim c p.2.2).engine) ∧
        (x.claimant ≠ some .carrier → (s.custodyFailed c p.1).engine = s.engine))

/-- A failed entry, of any class, which is log 34, is reported in this order (R160): the custody table applies R18;
RELEASE_FAILED goes to the entry's origin port and to operations, once where they are one, with the failure and the
purpose and, as they stood before the failure, the code of a delivery, or the record number and the paid lane total of
a return; and the entry departs. A column that fails its queued entries takes them in queue order (R159). -/
def Claims.FailuresAreReported : Prop :=
  (∀ (s : State) (e : Entry) (f : Failure),
    let t := s.custodyFailed e.comp f
    let failure : Detail := match f with
      | .lockFault => .lockFault
      | .columnDown => .columnDown
    let purpose : Detail := match e.purpose with
      | .deposit => .deposit
      | .collect => .collect
      | .recall => .recall
      | .pickup => .pickup
      | .service => .service
      | .test => .test
    let n : Notice :=
      { kind := .releaseFailed, minute := s.clock.minute, comp := some e.comp, cons := s.form e.comp, slot := none,
        ref := none, detail := some (.word failure), qualifier := some purpose, set := CondSet.none,
        amount := s.paidTotal e.comp }
    (e.origin = .operations → s.failEntry e f = (t.post .operations n).departed) ∧
    (e.origin ≠ .operations → s.failEntry e f = ((t.post e.origin n).post .operations n).departed)) ∧
  (∀ (s : State) (c : Comp),
    (s.holding c = none → s.form c = none ∧ s.paidTotal c = 0) ∧
    ∀ x k, s.holding c = some x → s.record x.record = some k →
      (k.kind = .delivery → s.form c = k.code.map ConsForm.code ∧ s.paidTotal c = 0) ∧
      (k.kind = .returnDrop → s.form c = some (.record x.record) ∧ s.paidTotal c = k.paidO + k.paidK)) ∧
  ∀ (s : State) (col : Column), s.failColumn col =
    (s.seq.queue.filter fun e => decide (e.comp.column = col) && !e.inFlight).foldl
      (fun t e => ({ t with seq := { t.seq with queue := t.seq.queue.filter fun y => y.comp != e.comp } } :
        State).failEntry e .columnDown) s

/-- A departure is told to the engine, which feeds and looks, to the paid return list, which offers its oldest record,
and to the pending service set, which moves (R46, R75, R84, R147, R163). Where two or three of them would ask for the
freed entry their order is a free value, and its count goes on, which is log 8. A withdrawal removes a queued entry,
which departs; an ARMED column that loses its last queued entry disarms before that is told, which is log 43; an entry
in flight, or none, is left (R148, R152). -/
def Claims.DeparturesAreTold : Prop :=
  (∀ s : State,
    let engine := s.feedable ≠ none ∨
      (s.engine.state = .running ∧ (s.slot s.engine.pointer).owner = .engine)
    let paid := s.paidReturns ≠ []
    let service := s.seq.svcKey = true ∧ s.seq.pendingService ≠ []
    let contested := (engine ∧ paid) ∨ (engine ∧ service) ∨ (paid ∧ service)
    s.departed = { s with signals := s.signals ++ [.departed], arbiterDue := true } ∧
    s.work .departed = s.tellDeparture ∧ s.work .feed = s.feedOne ∧ s.work .look = s.lookNow ∧
    s.work .offerPaid = s.offerPaid ∧ s.work .movePending = s.movePending ∧
    (¬ contested → s.tellDeparture = { s with signals := s.signals ++ [.feed, .look, .offerPaid, .movePending] }) ∧
    (contested → ∃ order : List (List Signal), order.Perm [[.feed, .look], [.offerPaid], [.movePending]] ∧
      s.tellDeparture = { s with signals := s.signals ++ order.flatten, asks := s.asks + 1 })) ∧
  ∀ (s : State) (c : Comp),
    let u := ({ s with seq := { s.seq with queue := s.seq.queue.filter fun e => e.comp != c } } : State).departed
    (∀ e, s.entryOf c = some e → e.inFlight = false →
      (∀ run, s.column c.column = .armed run → u.targeted c.column = false →
        s.withdraw c = u.setColumn c.column (.recovering (msUnits 50))) ∧
      ((∀ run, s.column c.column ≠ .armed run) ∨ u.targeted c.column = true → s.withdraw c = u)) ∧
    ((∀ e, s.entryOf c = some e → e.inFlight = true) → s.withdraw c = s)

/-- A paid return asks for its release, and with 16 entries present, or one of its compartment, it joins the end of
the paid return list instead (R45, R46, R141). When the list is offered, its oldest record's release is asked for, and
the record leaves the list where the request is taken; otherwise nothing changes (R46). A reservation waits on a
consignment that is a return whose compartment is RESERVED. -/
def Claims.PaidReturnList : Prop :=
  let e : Comp → Entry := fun c =>
    { comp := c, cls := .custody, purpose := .deposit, origin := .console, attempt := 1, passOver := 0,
      restore := false, inFlight := false }
  ∀ s : State,
    (∀ n c, s.waitingReturn n = some c →
      (s.hasEntry c = false → s.seq.queue.length < 16 → s.paidReleases n = s.request (e c)) ∧
      (s.hasEntry c = true ∨ 16 ≤ s.seq.queue.length →
        s.paidReleases n = { s with paidReturns := s.paidReturns ++ [n] })) ∧
    (∀ n, s.waitingReturn n = none → s.paidReleases n = s) ∧
    (∀ n c, s.waitingReturn n = some c ↔ ∃ k rest, s.record n = some k ∧ k.kind = .returnDrop ∧ k.pieces = c :: rest ∧
      s.custodyState c = .reserved) ∧
    (s.paidReturns = [] → s.offerPaid = s) ∧
    (∀ n rest c, s.paidReturns = n :: rest → s.waitingReturn n = some c →
      (s.hasEntry c = false → s.seq.queue.length < 16 →
        s.offerPaid = ({ s with paidReturns := rest } : State).request (e c)) ∧
      (s.hasEntry c = true ∨ 16 ≤ s.seq.queue.length → s.offerPaid = s))

/-- The pending service set moves while SVC_KEY is on, oldest first, by the rows of R163: with 16 entries present the
move stops; an entry whose column is DISABLED leaves the set and fails with COLUMN_DOWN, and its departure is told
after the pass, which is log 30; one whose compartment has an entry, or a custody state that keeps it, keeps its
place; any other leaves the set and joins the queue as its youngest. A change of custody state of a compartment with a
pending entry, with the key on, asks for a move. -/
def Claims.PendingServiceMoves : Prop :=
  (∀ s : State, (s.seq.svcKey = true → s.movePending = State.movePass s.seq.pendingService s) ∧
    (s.seq.svcKey = false → s.movePending = s) ∧ State.movePass [] s = s) ∧
  (∀ (s : State) (c : Comp) (rest : List Comp),
    let left : State := { s with seq := { s.seq with pendingService := s.seq.pendingService.filter (· != c) } }
    let e : Entry := { comp := c, cls := .service, purpose := .service, origin := .operations, attempt := 1,
                       passOver := 0, restore := false, inFlight := false }
    let keeps := s.hasEntry c = true ∨ s.custodyState c = .reserved ∨ s.custodyState c = .loading ∨
      ((s.custodyState c = .releasing ∨ s.custodyState c = .emptying) ∧
        ∃ x, s.holding c = some x ∧ x.claimant ≠ some .service)
    (16 ≤ s.seq.queue.length → State.movePass (c :: rest) s = s) ∧
    (s.seq.queue.length < 16 →
      (s.column c.column = .disabled →
        State.movePass (c :: rest) s = State.movePass rest (left.failEntry e .columnDown)) ∧
      (s.column c.column ≠ .disabled →
        (keeps → State.movePass (c :: rest) s = State.movePass rest s) ∧
        (¬ keeps → State.movePass (c :: rest) s = State.movePass rest
          { left with seq := { left.seq with queue := s.seq.queue ++ [e] }, arbiterDue := true })))) ∧
  ∀ (s : State) (c : Comp) (x : CompartmentEntry),
    (s.setEntry c x).signals = if s.custodyState c ≠ x.state ∧ c ∈ s.seq.pendingService ∧ s.seq.svcKey = true then
      s.signals ++ [.movePending] else s.signals

/-- SVC_KEY turning on lets the pending service entries move; turning off changes nothing but the key (R163). The event
with the key on already changes nothing, which is log 5. -/
def Claims.ServiceKeyMovesPendingEntries : Prop :=
  ∀ s : State, s.Running →
    (s.seq.svcKey = false → exec .svcKeyOn s = .next
      (((({ s with seq := { s.seq with svcKey := true } } : State).emit .movePending).complete))) ∧
    (s.seq.svcKey = true → exec .svcKeyOn s = .next s) ∧
    exec .svcKeyOff s = .next { s with seq := { s.seq with svcKey := false } }

/-! ### The scanner (chapter 9) and the custody table's door events (chapter 1) -/

/-- SWEEP_START loads the pointer with column 0 and starts the 250 ms again (R172). SWEEP_COLUMN_STEP takes the column
at the pointer: a busy column is skipped and owed, any other is read; then the pointer advances, or rests at column 8
with the sweep complete (R172, R173). With no sweep in progress it sets the levels of the multiplexer, which is log 3,
and does no more, which is log 5. -/
def Claims.SweepTakesTheColumnAtThePointer : Prop :=
  ∀ (x : Sense) (s : State), s.Running →
    exec .sweepStart s = .next { s with scanner := { s.scanner with
      pointer := 0, sweeping := true, sweepLeft := msUnits 250, stepLeft := 0 } } ∧
    (s.scanner.sweeping = true →
      let s0 := s.latch x
      let s1 := if (s.column s.scanner.pointer).busy then s0.setOwed s.scanner.pointer true
        else s0.readColumn s.scanner.pointer
      exec (.sweepColumnStep x) s = .next ((if s.scanner.pointer.val < 8 then s1.advanceSweep
        else (s1.advanceSweep).sweepComplete).complete)) ∧
    (s.scanner.sweeping = false → exec (.sweepColumnStep x) s = .next (s.latch x))

/-- The sweep's pointer goes one column on, with 1 ms to the next; from column 8 it goes no further, and the sweep is
complete (R172). A column that is owed a read is marked, and no other mark changes (R173). -/
def Claims.SweepAdvances : Prop :=
  ∀ (s : State),
    (∀ col : Column, s.scanner.pointer.val + 1 = col.val → s.advanceSweep =
      { s with scanner := { s.scanner with pointer := col, stepLeft := msUnits 1 } }) ∧
    (s.scanner.pointer = 8 → s.advanceSweep =
      { s with scanner := { s.scanner with sweeping := false, stepLeft := 0 } }) ∧
    (∀ (col : Column) (b : Bool), (s.setOwed col b).scanner.owed.get col = b ∧
      (∀ d, d ≠ col → (s.setOwed col b).scanner.owed.get d = s.scanner.owed.get d))

/-- A read's sample on a door record of an installed compartment, outside the baseline sweep, by R174 to R180: SHUT
read open is FORCED, RELEASED read open is OPEN with its class and a full ajar time; an OPEN, AJAR or FORCED door read
shut has a pending closure with that presence, an open read discards it, and a second shut read confirms it and the
door is SHUT; a door without one is left by an open read. -/
def Claims.SampleMovesTheDoor : Prop :=
  ∀ (s : State) (c : Comp),
    (s.door c = some .shut → s.doorOpen c = false → s.applySample c = s) ∧
    (s.door c = some .shut → s.doorOpen c = true →
      s.applySample c = (s.setDoor c (some (.forced none))).custodyForced c) ∧
    (∀ k w, s.door c = some (.released k w) → s.doorOpen c = true → s.applySample c =
      (s.setDoor c (some (.opened (some k) (secUnits s.scanner.ajarTime) none))).custodyOpened c k) ∧
    (∀ k w, s.door c = some (.released k w) → s.doorOpen c = false → s.applySample c = s) ∧
    (∀ k a, s.door c = some (.opened k a none) → s.doorOpen c = false →
      s.applySample c = s.setDoor c (some (.opened k a (some (s.presence c))))) ∧
    (∀ k a p, s.door c = some (.opened k a (some p)) → s.doorOpen c = true →
      s.applySample c = s.setDoor c (some (.opened k a none))) ∧
    (∀ k a, s.door c = some (.opened k a none) ∨ s.door c = some (.ajar k none) ∨ s.door c = some (.forced none) →
      s.doorOpen c = true → s.applySample c = s) ∧
    (∀ k a p, s.door c = some (.opened (some k) a (some p)) → s.doorOpen c = false → s.applySample c =
      (s.setDoor c (some .shut)).custodyClosure c (s.presence c) (match k with
        | .custody => .custody
        | .service => .service)) ∧
    (∀ k, s.door c = some (.ajar k none) → s.doorOpen c = false →
      s.applySample c = s.setDoor c (some (.ajar k (some (s.presence c))))) ∧
    (∀ k p, s.door c = some (.ajar k (some p)) → s.doorOpen c = true →
      s.applySample c = s.setDoor c (some (.ajar k none))) ∧
    (∀ k p, s.door c = some (.ajar (some k) (some p)) → s.doorOpen c = false → s.applySample c =
      (s.setDoor c (some .shut)).custodyClosure c (s.presence c) (match k with
        | .custody => .custody
        | .service => .service)) ∧
    (s.door c = some (.forced none) → s.doorOpen c = false →
      s.applySample c = s.setDoor c (some (.forced (some (s.presence c))))) ∧
    (∀ p, s.door c = some (.forced (some p)) → s.doorOpen c = true →
      s.applySample c = s.setDoor c (some (.forced none))) ∧
    (∀ p, s.door c = some (.forced (some p)) → s.doorOpen c = false → s.applySample c =
      (s.setDoor c (some .shut)).custodyClosure c (s.presence c) .forced)

/-- The first read of a compartment newly fitted, which has no door record, sets one and reports nothing: OPEN with
opening kind SERVICE when it reads open, SHUT when it reads shut; a compartment that is not fitted gets none (R182). -/
def Claims.FittingReadSetsTheDoor : Prop :=
  ∀ (s : State) (c : Comp), s.door c = none →
    ((s.entry c).fitted = true → s.doorOpen c = true → s.applySample c =
      s.setDoor c (some (.opened (some .service) (secUnits s.scanner.ajarTime) none))) ∧
    ((s.entry c).fitted = true → s.doorOpen c = false → s.applySample c = s.setDoor c (some .shut)) ∧
    ((s.entry c).fitted = false → s.applySample c = s)

/-- A column that leaves the busy states while it is owed a read asks for that read, and the read clears the mark and
applies its 16 samples (R149, R173); in position order, which is log 44. -/
def Claims.OwedReadFollows : Prop :=
  ∀ (s : State) (col : Column) (st : ColumnState),
    (s.scanner.owed.get col = true → st.busy = false → (s.setColumn col st).signals = s.signals ++ [.owedRead col]) ∧
    (s.scanner.owed.get col = false ∨ st.busy = true → (s.setColumn col st).signals = s.signals) ∧
    (s.scanner.owed.get col = true → (s.column col).busy = false → s.owedRead col = s.readColumn col) ∧
    (s.scanner.owed.get col = false ∨ (s.column col).busy = true → s.owedRead col = s) ∧
    (s.scanner.phase ≠ .baseline → s.readColumn col =
      (List.finRange 16).foldl (fun t p => t.applySample (Comp.at col p)) (s.setOwed col false))

/-- OPEN_WINDOW_END: a door still RELEASED becomes SHUT and the custody table is told; any other door is left (R176).
AJAR_TIMER_END: a door still OPEN becomes AJAR with its kind and pending closure, and AJAR goes to operations with the
compartment, the code of its delivery and the opening kind; any other door is left (R179). -/
def Obligations.DoorTimersEnd : Prop :=
  ∀ (c : Comp) (s : State), s.Running →
    (∀ k w, s.door c = some (.released k w) → exec (.openWindowEnd c) s =
      .next (((s.setDoor c (some .shut)).custodyWindowShut c k false).complete)) ∧
    ((∀ k w, s.door c ≠ some (.released k w)) → exec (.openWindowEnd c) s = .next s) ∧
    (∀ k a p, s.door c = some (.opened k a p) → exec (.ajarTimerEnd c) s =
      .next ((s.setDoor c (some (.ajar k p))).post .operations
        { kind := .ajar, minute := s.clock.minute, comp := some c, cons := s.codeForm c, slot := none, ref := none
          detail := k.map fun kind => .word (match kind with
            | .custody => .custody
            | .service => .service)
          qualifier := none, set := CondSet.none, amount := 0 })) ∧
    (∀ x, s.codeForm c = some (.code x) ↔ ∃ y k, s.holding c = some y ∧ s.record y.record = some k ∧
      k.kind = .delivery ∧ k.code = some x) ∧
    (∀ n, s.codeForm c ≠ some (.record n)) ∧
    ((∀ k a p, s.door c ≠ some (.opened k a p)) → exec (.ajarTimerEnd c) s = .next s)

/-- What an OPENED event does (R13, R181): a release of class CUSTODY moves RESERVED to LOADING and RELEASING to
EMPTYING, with RELEASE_INTERRUPTED cleared; one of class SERVICE moves a RELEASING holding with claimant SERVICE alone
(log 12); every other state, and every other compartment, is left. -/
def Obligations.OpenedEventRows : Prop :=
  ∀ (s : State) (c : Comp) (k : ReleaseClass),
    let serves := k = .custody ∨ (s.holding c).any (fun x => x.claimant == some .service) = true
    (s.custodyState c = .reserved → serves → (s.custodyOpened c k).entry c = { s.entry c with state := .loading }) ∧
    (s.custodyState c = .releasing → serves → (s.custodyOpened c k).entry c = { s.entry c with
      state := .emptying, holding := (s.holding c).map fun x => { x with releaseInterrupted := false } }) ∧
    (¬ serves → s.custodyOpened c k = s) ∧
    (s.custodyState c ≠ .reserved → s.custodyState c ≠ .releasing → s.custodyOpened c k = s) ∧
    (∀ d, d ≠ c → (s.custodyOpened c k).entry d = s.entry d)

/-- R15, what a CLOSURE of kind CUSTODY does to a deposit and to a removal: the compartment's own entry by state and
presence, and the outcome. DEPOSITED and EMPTY_CLOSE go to the holding's origin, the engine or, by RETURN_DONE, the
console (R47, R80); COLLECTED and COLLECT_INCOMPLETE to the console and operations for a customer; the end of a
carrier's claim to the engine; CLEARED and COLLECT_INCOMPLETE to operations by SERVICE_DONE for a clearance, with the
code of a delivery, which is log 36. A closure of kind SERVICE completes a clearance alike, which is log 11. -/
def Claims.ClosureRows : Prop :=
  ∀ (s : State) (c : Comp) (x : Holding), s.holding c = some x →
    let t := fun p : Presence => s.custodyClosure c p .custody
    let toConsole := fun d : Detail => (s.post .console ((s.noteFull .returnDone c).withDetail d)).ports
    let toBoth := fun n : Notice => ((s.post .console n).post .operations n).ports
    let cleared := fun d : Detail => (s.post .operations ((s.noteCode .serviceDone c).withDetail d)).ports
    (s.custodyState c = .loading →
      (∀ k, s.consignment c = some k → (t .occupied).entry c =
        let rest : RestState := match k.kind with
          | .delivery => .held
          | .returnDrop => .returnHeld
        { s.entry c with state := RestState.custody rest, holding := some { x with
            depositMinute := some s.clock.minute, rest := some rest } }) ∧
      (t .empty).entry c = { s.entry c with state := .free, cause := none, holding := none } ∧
      (∀ n, x.origin = .slot n →
        (t .occupied).engine = (s.reportDrop n c .deposited (some s.clock.minute)).engine ∧
        (t .empty).engine = (s.reportDrop n c .emptyClose none).engine ∧ ∀ p, (t p).ports = s.ports) ∧
      (x.origin = .console → (t .occupied).ports = toConsole .deposited ∧ (t .empty).ports = toConsole .emptyClose ∧
        ∀ p, (t p).engine = s.engine)) ∧
    (s.custodyState c = .emptying →
      (t .empty).entry c = { s.entry c with state := .free, cause := none, holding := none } ∧
      (∀ r, x.rest = some r → (t .occupied).entry c =
        { s.entry c with state := RestState.custody r, holding := some { x with
            claimant := none, collectIncomplete := true } }) ∧
      (x.claimant = some .customer → (t .empty).ports = toBoth (s.noteCode .collected c) ∧
        (t .occupied).ports = toBoth (s.noteCode .collectIncomplete c) ∧ ∀ p, (t p).engine = s.engine) ∧
      (x.claimant = some .carrier → (t .empty).engine = (s.reportClaim c .retrieved).engine ∧
        (t .occupied).engine = (s.reportClaim c .collectIncomplete).engine ∧ ∀ p, (t p).ports = s.ports) ∧
      (x.claimant = some .service → (t .empty).ports = cleared .cleared ∧
        (t .occupied).ports = cleared .collectIncomplete ∧ (∀ p, (t p).engine = s.engine) ∧
        ∀ p, s.custodyClosure c p .service = t p)) ∧
    (∀ p k d, d ≠ c → (s.custodyClosure c p k).entry d = s.entry d)

/-- R16, what an inspection does to a compartment, row by row, and its notices: FOREIGN_OBJECT, MISSING and REVIEW to
operations, and after a closure of kind SERVICE, SERVICE_DONE with the finding, with the code of a delivery (log 36). -/
def Claims.InspectionRows : Prop :=
  ∀ (s : State) (c : Comp) (k : OpeningKind), k ≠ .custody →
    let t := fun p : Presence => s.custodyClosure c p k
    let found := fun (u : State) (d : Detail) =>
      if k = .service then u.post .operations ((s.noteCode .serviceDone c).withDetail d) else u
    let foreign := s.post .operations
      { s.note .foreignObject with comp := some c, detail := some (.word .foreignObject) }
    let missing := s.post .operations (s.noteCode .missing c)
    (s.custodyState c = .free ∨ (s.custodyState c = .outOfService ∧ s.holding c = none) →
      (t .occupied).entry c = { s.entry c with state := .outOfService, cause := some .foreignObject } ∧
      (t .occupied).ports = (found foreign .foreignObject).ports ∧ t .empty = found s .empty) ∧
    (∀ x, s.holding c = some x →
      ((s.custodyState c).isRest = true → (t .empty).entry c =
          { s.entry c with state := .review, holding := some { x.addCause .missing with claimant := none } } ∧
        (t .empty).ports =
          (found (missing.post .operations ((s.noteCode .review c).withDetail .missing)) .missing).ports) ∧
      (s.custodyState c = .review ∨ s.custodyState c = .outOfService →
        (t .empty).entry c = { s.entry c with holding := some (x.addCause .missing) } ∧
        (t .empty).ports = (found missing .missing).ports) ∧
      ((s.custodyState c).isRest = true ∨ s.custodyState c = .review ∨ s.custodyState c = .outOfService →
        t .occupied = found s .occupied)) ∧
    (s.custodyState c = .reserved ∨ s.custodyState c = .loading ∨ s.custodyState c = .releasing ∨
        (s.custodyState c = .emptying ∧ (k = .forced ∨ ∀ x, s.holding c = some x → x.claimant ≠ some .service)) →
      t .occupied = found s .occupied ∧ t .empty = found s .empty)

/-- A CLOSURE of kind CUSTODY that reaches neither LOADING nor EMPTYING is taken as one of kind SERVICE (R15); one that
reaches NOT_FITTED is discarded (R12). -/
def Claims.OtherClosures : Prop :=
  ∀ (s : State) (c : Comp) (p : Presence),
    (s.custodyState c ≠ .loading → s.custodyState c ≠ .emptying →
      s.custodyClosure c p .custody = s.custodyClosure c p .service) ∧
    (s.custodyState c = .notFitted → ∀ k, s.custodyClosure c p k = s)

/-- R17, what a FORCED event does to a compartment, and its notices: FORCED to operations, with detail FORCED where
the compartment enters OUT_OF_SERVICE; REVIEW where the holding enters REVIEW; the outcome FORCED of a RESERVED
holding to its origin (R47, R80); and NOT_OPENED with detail FORCED to the origin of a claim, for a clearance by a
notice of that kind, which is log 20. The queued or pending entry of a RESERVED or RELEASING compartment is withdrawn.
-/
def Claims.ForcedRows : Prop :=
  ∀ (s : State) (c : Comp),
    let t := s.custodyForced c
    let plain := s.post .operations (s.noteCode .forced c)
    let outOf := s.post .operations ((s.noteCode .forced c).withDetail .forced)
    let reviewed := plain.post .operations ((s.noteCode .review c).withDetail .forced)
    let notOpened := (s.noteFull .notOpened c).withDetail .forced
    (s.custodyState c = .free → t.entry c = { s.entry c with state := .outOfService, cause := some .forced } ∧
      t.ports = outOf.ports) ∧
    (∀ x, s.holding c = some x →
      ((s.custodyState c).isRest = true ∨ s.custodyState c = .releasing → t.entry c = { s.entry c with
        state := .review, holding := some { x.addCause .forced with claimant := none } }) ∧
      ((s.custodyState c).isRest = true → t.ports = reviewed.ports) ∧
      (s.custodyState c = .review ∨ s.custodyState c = .outOfService →
        t.entry c = { s.entry c with holding := some (x.addCause .forced) } ∧ t.ports = plain.ports) ∧
      (s.custodyState c = .reserved →
        t.entry c = { s.entry c with state := .outOfService, cause := some .forced, holding := none } ∧
        t.seq.queue = (s.withdraw c).seq.queue ∧
        (∀ n, x.origin = .slot n → t.ports = outOf.ports ∧ t.engine = (s.reportDrop n c .forced none).engine) ∧
        (x.origin = .console →
          t.ports = (outOf.post .console ((s.noteFull .returnDone c).withDetail .forced)).ports)) ∧
      (s.custodyState c = .releasing → t.seq.queue = (s.withdraw c).seq.queue ∧
        t.seq.pendingService = s.seq.pendingService.filter (· != c) ∧
        (x.claimant = some .customer → t.ports = (reviewed.post .console notOpened).ports) ∧
        (x.claimant = some .carrier → t.ports = reviewed.ports ∧ t.engine = (s.reportClaim c .forced).engine) ∧
        (x.claimant = some .service → t.ports = (reviewed.post .operations notOpened).ports))) ∧
    (s.custodyState c = .outOfService → s.holding c = none → t.entry c = s.entry c ∧ t.ports = plain.ports) ∧
    (s.custodyState c = .notFitted → t = s) ∧ (∀ d, d ≠ c → t.entry d = s.entry d)

/-- What the notices of a compartment carry: the kind, the present minute, the compartment, and the code of a delivery;
where the notice goes to the console for either kind of consignment, the code of a delivery or the record number of a
return, with the sum that a return has paid (R42, R47). -/
def Claims.NoticesNameTheConsignment : Prop :=
  ∀ (s : State) (k : NoticeKind) (c : Comp) (d : Detail) (m : Notice),
    let plain : Notice := { kind := k, minute := s.clock.minute, comp := some c, cons := none, slot := none, ref := none
                            detail := none, qualifier := none, set := CondSet.none, amount := 0 }
    s.noteCode k c = { plain with cons := s.codeForm c } ∧
    s.noteFull k c = { plain with cons := s.form c, amount := s.paidTotal c } ∧
    m.withDetail d = { m with detail := some (.word d) }

/-- LOCKOUT_END unlocks a locked limiter and sets its count to 0 (R35); on an unlocked one it changes nothing, which
is log 5. -/
def Claims.LockoutEndUnlocks : Prop :=
  ∀ s : State, s.Running →
    (s.limiter.lockout ≠ none →
      exec .lockoutEnd s = .next { s with limiter := { count := 0, lockout := none } }) ∧
    (s.limiter.lockout = none → exec .lockoutEnd s = .next s)

/-! ### Power (chapter 10) -/

/-- PFAIL_ASSERT and RETENTION_LOSS set and clear their mark and change nothing else (R169, R188, R190). PFAIL_NEGATE
while the part runs lets the arbiter look (R169). -/
def Claims.PowerMarksAlone : Prop :=
  ∀ (x : Straps) (s : State),
    exec .pfailAssert s = .next { s with power := { s.power with pfail := true } } ∧
    exec .retentionLoss s = .next { s with power := { s.power with retentionMark := false } } ∧
    (s.Running → exec (.pfailNegate x) s = .next
      (({ s with power := { s.power with pfail := false }, arbiterDue := true } : State).complete))

/-- MAINS_FALL and RESET_ASSERT stop a running part: every retained piece of state stays, with the flight record and
the custody clock, and every mains-domain piece is at its value after a start, which is where the model holds it while
the part is stopped (R149, R153, R163, R166, R190, R191; log 26); SVC_KEY is off there, which is log 22. On a part
that is stopped already they change their own mark alone. -/
def Claims.StopKeepsTheBackupDomain : Prop :=
  ∀ s : State, ∀ p ∈ [(Instr.mainsFall, { s.power with mains := false }),
      (.resetAssert, { s.power with resetLine := true })],
    (s.power.running = true → exec p.1 s = .next { s with
      power := { p.2 with running := false, restoring := false }
      charges := { gens := s.charges.gens, recs := Vector.replicate 8 ChargeRecord.blank, second := 0, subSecond := 0,
                   ended := [] }
      seq := { queue := [], columns := Vector.replicate 9 .idle, pendingService := [], budget := 2, pulseLength := 150,
               flight := s.seq.flight, svcKey := false }
      scanner := Scanner.started
      engine := { ring := Vector.replicate 32 Slot.blank, state := .stopped, pointer := 0, window := [] }
      ports := s.ports.map fun u => { role := u.role, rate := u.rate, receiving := [], busy := false, sending := [],
                                      queue := [], overflow := false }
      limiter := { count := 0, lockout := none }
      paidReturns := []
      signals := []
      arbiterDue := false }) ∧
    (s.power.running = false → exec p.1 s = .next { s with power := p.2 })

/-- A start, at MAINS_RETURN, RESET_RELEASE or PFAIL_NEGATE (whose kind is that of the event that opened the way to
it, log 19): the part runs in RESTORING, the ports take roles and rates from the straps, and every other mains-domain
piece has its value after a start (R192, R200), with SVC_KEY off, which is log 22. Of an intact part the retained
state stays, but that every consignment forgets its open charge (R143, R188). A part that is not intact starts cold,
with BACKUP_LOST to operations (R198). -/
def Claims.StartRestoresTheBackupDomain : Prop :=
  ∀ (x : Straps) (s : State), s.power.running = false →
    ∀ p ∈ [(Instr.mainsReturn x, StartKind.mainsReturn,
              s.power.mains = false ∧ s.power.resetLine = false ∧ s.power.pfail = false),
            (Instr.resetRelease x, StartKind.resetLine,
              s.power.mains = true ∧ s.power.resetLine = true ∧ s.power.pfail = false),
            (Instr.pfailNegate x, s.power.opener,
              s.power.mains = true ∧ s.power.resetLine = false ∧ s.power.pfail = true)],
      p.2.2 → ∃ t, exec p.1 s = .next t ∧
        t.power = { mains := true, pfail := false, resetLine := false, running := true, restoring := true,
                    retentionMark := t.power.retentionMark, checkOk := t.power.checkOk,
                    lastStart := t.power.lastStart, opener := p.2.1 } ∧
        t.charges = ChargeTable.started t.charges.gens ∧ t.seq = Sequencer.started t.seq.flight ∧
        t.scanner = Scanner.started ∧ t.engine = Engine.started ∧ t.limiter = { count := 0, lockout := none } ∧
        t.paidReturns = [] ∧ t.Settled ∧ t.sense = s.sense ∧ t.pending = s.pending ∧
        (∀ r k, t.record r = some k → k.openRef = none) ∧
        (s.intact = true → t.clock = s.clock ∧ t.custody.entries = s.custody.entries ∧
          t.custody.codeMap = s.custody.codeMap ∧
          (∀ r, t.record r = (s.record r).map fun k => { k with openRef := none }) ∧ t.carriers = s.carriers ∧
          t.tariff = s.tariff ∧ t.charges.gens = s.charges.gens ∧ t.seq.flight = s.seq.flight ∧
          t.codeGen = s.codeGen ∧ t.power.lastStart = p.2.1 ∧ t.power.retentionMark = s.power.retentionMark ∧
          t.power.checkOk = s.power.checkOk ∧ t.ports = sampledPorts x) ∧
        (s.intact = false → t.clock = { minute := 0, subMinute := 0 } ∧
          (∀ c, t.entry c = CompartmentEntry.cold) ∧ (∀ r, t.record r = none) ∧ t.custody.codeMap = [] ∧
          (∀ i, t.carriers.get i = CarrierEntry.cold) ∧ t.tariff = TariffUnit.cold ∧
          (∀ i, t.charges.gens.get i = 0) ∧ t.seq.flight = [] ∧ t.codeGen.position = 0 ∧
          t.power.retentionMark = true ∧ t.power.checkOk = true ∧ t.power.lastStart = .cold ∧
          t.ports = (({ s with ports := sampledPorts x } : State).post .operations
            { kind := .backupLost, minute := 0, comp := none, cons := none, slot := none, ref := none, detail := none,
              qualifier := none, set := CondSet.none, amount := 0 }).ports)

/-- The same events where they do not open the way to a start: they change their own marks alone, and a return of a
supply that is present and a release of a line that is not asserted change nothing (R190 to R192; log 5). -/
def Claims.PowerEventsThatStartNothing : Prop :=
  ∀ (x : Straps) (s : State),
    (s.power.mains = true → exec (.mainsReturn x) s = .next s) ∧
    (s.power.mains = false → s.power.running = true ∨ s.power.resetLine = true ∨ s.power.pfail = true →
      exec (.mainsReturn x) s = .next { s with power := { s.power with mains := true, opener := .mainsReturn } }) ∧
    (s.power.resetLine = false → exec (.resetRelease x) s = .next s) ∧
    (s.power.resetLine = true → s.power.running = true ∨ s.power.mains = false ∨ s.power.pfail = true →
      exec (.resetRelease x) s = .next { s with power := { s.power with resetLine := false, opener := .resetLine } }) ∧
    (s.power.running = false → s.power.mains = false ∨ s.power.resetLine = true → exec (.pfailNegate x) s =
      .next { s with power := { s.power with pfail := false } })

/-- The roles and rates that a start samples from the straps: a port takes the role it is strapped to, but of ports
strapped to one role the lowest-numbered alone (R200), and its notice queue is empty (R205). -/
def Claims.PortsTakeTheirRoles : Prop :=
  ∀ (x : Straps) (p : Fin 4),
    (sampledPorts x).get p = { role := sampledRole x p, rate := (x.get p).rate, receiving := [], busy := false,
                               sending := [], queue := [], overflow := false } ∧
    ((∀ q, q < p → (x.get q).role ≠ (x.get p).role) → sampledRole x p = some (x.get p).role) ∧
    ((∃ q, q < p ∧ (x.get q).role = (x.get p).role) → sampledRole x p = none)

/-- The baseline sweep's samples of fitted compartments set the door records and report nothing: OPEN without an
opening kind, or SHUT with the sample kept, an ajar timer running from the read for both (R184; log 35). A compartment
that is not fitted is left. -/
def Claims.BaselineReadSetsTheDoor : Prop :=
  ∀ (s : State) (c : Comp),
    ((s.entry c).fitted = true → s.doorOpen c = true →
      s.baselineSample c = s.setDoor c (some (.opened none (secUnits s.scanner.ajarTime) none))) ∧
    ((s.entry c).fitted = true → s.doorOpen c = false → (s.baselineSample c).door c = some .shut ∧
      (s.baselineSample c).scanner.baseline.get c =
        some { presence := s.presence c, ajar := secUnits s.scanner.ajarTime } ∧
      (∀ d, d ≠ c → (s.baselineSample c).door d = s.door d) ∧ (s.baselineSample c).custody = s.custody ∧
      (s.baselineSample c).ports = s.ports) ∧
    ((s.entry c).fitted = false → s.baselineSample c = s) ∧
    (∀ col, s.scanner.phase = .baseline → s.readColumn col =
      (List.finRange 16).foldl (fun t p => t.baselineSample (Comp.at col p)) (s.setOwed col false))

/-- What follows a complete sweep: the baseline sweep is followed by the reconciliation of every compartment in number
order, with the flight record and the baseline samples cleared; the second sweep ends RESTORING, with RESTART_DONE and
the kind of the start to each of the four ports; any other sweep by nothing (R184, R192, R194, R197). -/
def Claims.SweepsEndRestoring : Prop :=
  ∀ s : State,
    (s.scanner.phase = .baseline → s.sweepComplete.seq.flight = [] ∧
      (∀ c, s.sweepComplete.scanner.baseline.get c = none) ∧ s.sweepComplete.scanner.phase = .second ∧
      s.sweepComplete.custody = (Comp.all.foldl State.reconcileOne s).custody ∧
      s.sweepComplete.ports = (Comp.all.foldl State.reconcileOne s).ports ∧
      s.sweepComplete.scanner.doors = (Comp.all.foldl State.reconcileOne s).scanner.doors) ∧
    (s.scanner.phase = .second → s.sweepComplete = { s with
      power := { s.power with restoring := false }
      scanner := { s.scanner with phase := .normal }
      ports := s.ports.map fun u => u.post
        { kind := .restartDone, minute := s.clock.minute, comp := none, cons := none, slot := none, ref := none,
          detail := some (.word (StartKind.detail s.power.lastStart)), qualifier := none, set := CondSet.none,
          amount := 0 } }) ∧
    StartKind.detail .mainsReturn = .mainsReturn ∧ StartKind.detail .resetLine = .resetLine ∧
    StartKind.detail .cold = .cold ∧
    (s.scanner.phase = .normal → s.sweepComplete = s)

/-- The reconciliation of a fitted compartment with a holding, by its state, its place in the flight record and the
door that the baseline sweep found (R184, R194 to R196): what becomes of its door record and of its entry. A release
that was waiting and whose door is found open is FORCED by R17, as is any other door found open but one of a deposit
or a removal in progress; a door of those found shut is OPEN with the baseline sample pending and its ajar timer
running on, which is log 35. A cut release and a reversion are told INTERRUPTED, with CUT and REVERTED, to operations
and the origin port, the cut one after the notices of R14, R20 and R24, in which SERVICE_DONE carries the code of a
delivery (log 36). That INTERRUPTED carries the paid sum of every return is log 45. -/
def Claims.ReconciliationRows : Prop :=
  ∀ (s : State) (c : Comp) (x : Holding), (s.entry c).fitted = true → s.holding c = some x →
    let t := s.reconcileOne c
    (∀ f left, s.custodyState c = .reserved ∨ s.custodyState c = .releasing → s.flightOf c = some f →
      foundOpen (s.door c) = some left →
      t.door c = some (.opened (some .custody) left none) ∧
      t.custodyState c = (if s.custodyState c = .reserved then .loading else .emptying)) ∧
    (∀ f r, s.custodyState c = .releasing → s.flightOf c = some f → foundOpen (s.door c) = none → x.rest = some r →
      t.door c = some .shut ∧
      t.custodyState c = (if x.releaseInterrupted then .review else RestState.custody r) ∧
      (x.releaseInterrupted = false → t.holding c =
        some { x with claimant := none, releaseInterrupted := true })) ∧
    (∀ f, s.flightOf c = some f → foundOpen (s.door c) = none →
      let cut := fun u : State =>
        (u.postBoth .operations x.originRole ((s.noteFull .interrupted c).withDetail .cut)).ports
      (s.custodyState c = .reserved →
        t.ports = cut (s.post x.origin.role ((s.noteFull .notOpened c).withDetail .interrupted))) ∧
      (s.custodyState c = .releasing →
        (x.releaseInterrupted = true →
          t.ports = cut (s.post .operations ((s.noteCode .review c).withDetail .interrupted))) ∧
        (x.releaseInterrupted = false →
          (x.claimant = some .customer → t.ports = cut (s.post .console (s.noteFull .notOpened c))) ∧
          (x.claimant = some .service →
            t.ports = cut (s.post .operations ((s.noteCode .serviceDone c).withDetail .notOpened))) ∧
          (x.claimant = some .carrier → t.ports = cut s ∧ t.engine = (s.reportClaim c .notOpened).engine)))) ∧
    (s.custodyState c = .reserved → foundOpen (s.door c) = none → t.door c = some .shut ∧
      t.entry c = { s.entry c with state := .free, cause := none, holding := none }) ∧
    (∀ r, s.custodyState c = .releasing → s.flightOf c = none → foundOpen (s.door c) = none → x.rest = some r →
      t.door c = some .shut ∧ t.entry c =
        { s.entry c with state := RestState.custody r, holding := some { x with claimant := none } }) ∧
    (s.custodyState c = .reserved ∨ s.custodyState c = .releasing → s.flightOf c = none →
      foundOpen (s.door c) = none → t.ports = (s.postBoth .operations x.originRole
        ((s.noteFull .interrupted c).withDetail .reverted)).ports) ∧
    (∀ left, s.custodyState c = .reserved ∨ s.custodyState c = .releasing → s.flightOf c = none →
      foundOpen (s.door c) = some left → t.door c = some (.forced none) ∧
      (s.custodyState c = .reserved → t.entry c =
        { s.entry c with state := .outOfService, cause := some .forced, holding := none }) ∧
      (s.custodyState c = .releasing → t.entry c = { s.entry c with
        state := .review, holding := some { x.addCause .forced with claimant := none } })) ∧
    (∀ left, s.custodyState c = .loading ∨ s.custodyState c = .emptying → s.flightOf c = none →
      foundOpen (s.door c) = some left → t = s.setDoor c (some (.opened (some .custody) left none))) ∧
    (∀ b, s.custodyState c = .loading ∨ s.custodyState c = .emptying → s.flightOf c = none →
      foundOpen (s.door c) = none → s.scanner.baseline.get c = some b →
      t = s.setDoor c (some (.opened (some .custody) b.ajar (some b.presence)))) ∧
    (∀ left, s.flightOf c = none → foundOpen (s.door c) = some left →
      ((s.custodyState c).isRest = true → t.door c = some (.forced none) ∧ t.entry c = { s.entry c with
        state := .review, holding := some { x.addCause .forced with claimant := none } }) ∧
      (s.custodyState c = .review ∨ s.custodyState c = .outOfService → t.door c = some (.forced none) ∧
        t.entry c = { s.entry c with holding := some (x.addCause .forced) })) ∧
    ((s.custodyState c).isRest = true ∨ s.custodyState c = .review ∨ s.custodyState c = .outOfService →
      s.flightOf c = none → foundOpen (s.door c) = none → t = s.setDoor c (some .shut))

/-- The reconciliation of a compartment without a holding: one that is not fitted is left; FREE found open is
OUT_OF_SERVICE with cause FORCED, OUT_OF_SERVICE found open keeps its entry, both with their door FORCED; found shut
either has its door SHUT and no more (R17, R196). -/
def Claims.ReconciliationOfEmptyCompartments : Prop :=
  ∀ (s : State) (c : Comp), s.holding c = none →
    let t := s.reconcileOne c
    ((s.entry c).fitted = false → t = s) ∧
    ((s.entry c).fitted = true → s.flightOf c = none → s.custodyState c = .free ∨ s.custodyState c = .outOfService →
      (foundOpen (s.door c) = none → t = s.setDoor c (some .shut)) ∧
      (∀ left, foundOpen (s.door c) = some left → t.door c = some (.forced none) ∧
        (s.custodyState c = .free → t.entry c = { s.entry c with state := .outOfService, cause := some .forced }) ∧
        (s.custodyState c = .outOfService → t.entry c = s.entry c)))

/-- The reconciliation of a flight record entry whose compartment is neither RESERVED nor RELEASING (R194): one of a
SERVICE pulse has its door OPEN with opening kind CUSTODY when it is found open, and SHUT with SERVICE_DONE and
NOT_OPENED to operations, with the code of a delivery (log 36), when it is found shut; one of a TEST pulse is taken as
any other compartment, and TEST_RESULT with INTERRUPTED goes to operations, with NOT_RESTORED for a Column Restore;
any other is taken as any other compartment. -/
def Claims.ReconciliationOfFlownPulses : Prop :=
  ∀ (s : State) (c : Comp) (f : FlightEntry), (s.entry c).fitted = true → s.flightOf c = some f →
    s.custodyState c ≠ .reserved → s.custodyState c ≠ .releasing → s.custodyState c ≠ .notFitted →
    let t := s.reconcileOne c
    (f.purpose = .service →
      (∀ left, foundOpen (s.door c) = some left → t = s.setDoor c (some (.opened (some .custody) left none))) ∧
      (foundOpen (s.door c) = none → t.door c = some .shut ∧ t.entry c = s.entry c ∧
        t.ports = (s.post .operations ((s.noteCode .serviceDone c).withDetail .notOpened)).ports)) ∧
    (f.purpose = .test → t = (s.reconcileRest c).post .operations { s.note .testResult with
      comp := some c, detail := some (.word .interrupted),
      qualifier := if f.restore then some .notRestored else none }) ∧
    (f.purpose ≠ .service → f.purpose ≠ .test → t = s.reconcileRest c)

/-- CUSTODY_TICK raises the custody minute by one and, while the part runs, the overstay scan follows; at
4,294,967,295 the minute stays (R25, R189). -/
def Claims.CustodyTickCountsAMinute : Prop :=
  ∀ s : State, s.Settled →
    (s.clock.minute < 4294967295 →
      let s1 : State := { s with clock := { minute := s.clock.minute + 1, subMinute := 0 } }
      (s.power.running = true → exec .custodyTick s = .next ((s1.overstayScan).complete)) ∧
      (s.power.running = false → exec .custodyTick s = .next s1)) ∧
    (s.clock.minute = 4294967295 →
      exec .custodyTick s = .next { s with clock := { s.clock with subMinute := 0 } })

/-- The overstay scan on one compartment: a holding at rest state HELD whose dwell is above its class's limit, the limit
not 0, becomes OVERSTAYED, its custody state too where that is HELD; every other is left (R25). -/
def Claims.OverstayScanMovesHeld : Prop :=
  ∀ (s : State) (c : Comp) (x : Holding) (td : Nat), s.holding c = some x → x.depositMinute = some td →
    let limit := (s.tariff.classes.get x.tariffClass).l
    (x.rest = some .held → limit ≠ 0 → limit < s.clock.minute - td →
      (s.scanOne c).holding c = some { x with rest := some .overstayed } ∧
      (s.scanOne c).custodyState c = (if s.custodyState c = .held then .overstayed else s.custodyState c)) ∧
    (x.rest ≠ some .held ∨ limit = 0 ∨ s.clock.minute - td ≤ limit → s.scanOne c = s)

/-- The overstay scan takes every compartment, in number order, which is log 39. A holding that it moves while its
compartment is HELD is told: OVERSTAYED, with the compartment and the code of a delivery, to the courier and to
operations; one that it moves in another custody state is not told; and no other compartment changes (R25). -/
def Claims.OverstaysAreTold : Prop :=
  (∀ s : State, s.overstayScan = Comp.all.foldl State.scanOne s) ∧
  Comp.all.Pairwise (· < ·) ∧ (∀ c : Comp, c ∈ Comp.all) ∧
  ∀ (s : State) (c : Comp),
    (∀ d, d ≠ c → (s.scanOne c).entry d = s.entry d) ∧
    (∀ x td, s.holding c = some x → x.rest = some .held → x.depositMinute = some td →
      let limit := (s.tariff.classes.get x.tariffClass).l
      let n : Notice :=
        { kind := .overstayed, minute := s.clock.minute, comp := some c, cons := s.codeForm c, slot := none, ref := none,
          detail := none, qualifier := none, set := CondSet.none, amount := 0 }
      limit ≠ 0 → limit < s.clock.minute - td →
        (s.custodyState c = .held → (s.scanOne c).ports = ((s.post .courier n).post .operations n).ports) ∧
        (s.custodyState c ≠ .held → (s.scanOne c).ports = s.ports))

/-! ### Tariff arithmetic (chapter 5) -/

/-- R98, stage 1: the dwell, and CLOCK; a piece whose deposit minute lies ahead goes on with a dwell of 0, and is
charged for one started day at most. -/
def Obligations.DwellStage : Prop :=
  (∀ td te : Nat, (td ≤ te → stageDwell td te = (te - td, false)) ∧ (te < td → stageDwell td te = (0, true))) ∧
  (∀ (t : ClassValues) (m : Nat) (mode : RoundingMode) (td te : Nat), te < td →
    (pieceFee t m mode td te).1 = (pieceFee t m mode te te).1 ∧ (pieceFee t m mode td te).2.clock = true ∧
    (pieceFee t m mode te te).2.clock = false) ∧
  startedDays 0 = 1

/-- R99, stages 2 and 3: the chargeable minutes; a unit length other than 15, 30 or 60 raises TARIFF with the fee 0; and
the started units, a part unit counting as a whole one. -/
def Obligations.ChargeableStages : Prop :=
  (∀ d f : Nat, (f < d → stageChargeable d f = d - f) ∧ (d ≤ f → stageChargeable d f = 0)) ∧
  (∀ (t : ClassValues) (m : Nat) (mode : RoundingMode) (td te : Nat), t.u ≠ 15 → t.u ≠ 30 → t.u ≠ 60 →
    (pieceFee t m mode td te).1 = 0 ∧ (pieceFee t m mode td te).2.tariff = true) ∧
  (∀ e u : Nat, u = 15 ∨ u = 30 ∨ u = 60 →
    (e = 0 → divUp e u = 0) ∧ e ≤ divUp e u * u ∧ (e ≠ 0 → (divUp e u - 1) * u < e))

/-- R100, stages 4 and 5: two bands, an exact base, and SAT above 999,999. -/
def Obligations.BaseStages : Prop :=
  (∀ (n : Nat) (t : ClassValues), (n ≤ t.b → exactBase n t = n * t.r1) ∧
    (t.b ≤ n → exactBase n t = t.b * t.r1 + (n - t.b) * t.r2)) ∧
  (∀ b : Nat, (b ≤ 999999 → saturate b = (b, false)) ∧ (999999 < b → saturate b = (999999, true)))

/-- R101, stage 6: the daily cap in started days, at least one, the cap itself limited to 999,999, and CAPPED also on a
tie. -/
def Obligations.DailyCapStage : Prop :=
  (∀ d : Nat, (d ≤ 1440 → startedDays d = 1) ∧
    (1440 < d → d ≤ startedDays d * 1440 ∧ (startedDays d - 1) * 1440 < d)) ∧
  (∀ base dwell : Nat, stageCap base 0 dwell = (base, false)) ∧
  (∀ base c dwell : Nat, c ≠ 0 →
    let total := min (c * startedDays dwell) 999999
    (base < total → stageCap base c dwell = (base, false)) ∧
    (total ≤ base → stageCap base c dwell = (total, true)))

/-- R102 and R103: the rounding of stage 7 by mode and remainder, row by row; ROUND for every remainder; a multiplier
outside 8 to 31 raises TARIFF with the fee 0; and the fee that leaves stage 7 is clamped at 999,999 with SAT. -/
def Obligations.ScaleStage : Prop :=
  (∀ (q rem : Nat), rem ≤ 7 →
    (roundsUp .nearestEven q rem = true ↔ (rem = 4 ∧ q % 2 = 1) ∨ 4 < rem) ∧
    roundsUp .down q rem = false ∧ (roundsUp .up q rem = true ↔ rem ≠ 0)) ∧
  (∀ (mode : RoundingMode) (capped m : Nat), stageScale mode capped m =
    (capped * m / 8 + (if roundsUp mode (capped * m / 8) (capped * m % 8) then 1 else 0),
      decide (capped * m % 8 ≠ 0))) ∧
  (∀ (t : ClassValues) (m : Nat) (mode : RoundingMode) (td te : Nat), t.u = 15 ∨ t.u = 30 ∨ t.u = 60 →
    let d := stageDwell td te
    let base := saturate (exactBase (divUp (stageChargeable d.1 t.f) t.u) t)
    let cap := stageCap base.1 t.c d.1
    let scaled := stageScale mode cap.1 m
    (8 ≤ m → m ≤ 31 → pieceFee t m mode td te = (min scaled.1 999999,
      { clock := d.2, tariff := false, sat := base.2 || decide (999999 < scaled.1), capped := cap.2,
        round := scaled.2, overpaid := false })) ∧
    (m < 8 ∨ 31 < m → (pieceFee t m mode td te).1 = 0 ∧ (pieceFee t m mode td te).2.tariff = true ∧
      (pieceFee t m mode td te).2.round = false))

/-- R105 and R106: the return fee lanes by return mode, and the half that is found by halving to odd. -/
def Obligations.ReturnFeeLanes : Prop :=
  (∀ r : Nat, returnLanes .prepaid r = (0, 0) ∧ returnLanes .carrierFull r = (0, r) ∧
    returnLanes .split r = (r - halfToOdd r, halfToOdd r)) ∧
  (∀ r : Nat, (r % 2 = 0 → halfToOdd r = r / 2) ∧
    (r % 2 = 1 → halfToOdd r % 2 = 1 ∧ (halfToOdd r = (r - 1) / 2 ∨ halfToOdd r = (r + 1) / 2))) ∧
  halfToOdd 350 = 175 ∧ halfToOdd 351 = 175 ∧ halfToOdd 353 = 177 ∧ halfToOdd 99999 = 49999

/-- R54, the match of a carrier ID: the lowest-numbered enabled entry that holds it; NOT_PERMITTED where only disabled
entries do; and UNKNOWN where no entry does. -/
def Claims.CarrierMatchRows : Prop :=
  ∀ (s : State) (id : Nat),
    let holds := fun i : Fin 8 => (s.carriers.get i).enabled = true ∧ (s.carriers.get i).id = id
    (∀ i, s.matchCarrier id = .found i ↔ holds i ∧ ∀ j, j < i → ¬ holds j) ∧
    (s.matchCarrier id = .notPermitted ↔ (∀ i, ¬ holds i) ∧ ∃ i, (s.carriers.get i).id = id) ∧
    (s.matchCarrier id = .unknown ↔ ∀ i, (s.carriers.get i).id ≠ id)

/-- R57 and R58, the allocator's choice for one piece: an eligible compartment outside the group's, of a size class not
below the requested one, such that no such compartment has a smaller class, or the same class and a lower number; and
none is found only where there is none. -/
def Claims.AllocatorPlacesOnePiece : Prop :=
  ∀ (s : State) (k : ConsKind) (z : SizeClass) (taken : List Comp),
    let fits := fun c : Comp => s.eligibleFor k c = true ∧ c ∉ taken ∧ z.ctorIdx ≤ (s.entry c).size.ctorIdx
    (∀ c, s.placeOne k z taken = some c → fits c ∧ ∀ d, fits d →
      (s.entry c).size.ctorIdx < (s.entry d).size.ctorIdx ∨
        ((s.entry c).size.ctorIdx = (s.entry d).size.ctorIdx ∧ c ≤ d)) ∧
    (s.placeOne k z taken = none → ∀ d, ¬ fits d) ∧
    (∀ c, s.eligibleFor k c = true ↔
      s.custodyState c = .free ∧ useAdmits (s.entry c).use k = true ∧ s.column c.column ≠ .disabled ∧
        s.door c = some .shut ∧ s.hasEntry c = false ∧ s.pendingFor c = false)

/-- R104, R107 to R110, the lanes and the dues: a delivery's lanes are the sum of its fees and its COD amount, a
return's those fixed at its begin; each due is the lane less what was paid for it, due O nothing for a waived
consignment and up to its paid-through minute, and the total is clamped. -/
def Claims.LanesAndDues : Prop :=
  ∀ (s : State) (k : Consignment),
    let ev := s.evaluate k
    (k.kind = .delivery → ev.laneO = min ((ev.pieces.map fun p => p.fee).sum) 999999 ∧ ev.laneK = k.cod) ∧
    (k.kind = .returnDrop → ev.laneO = k.laneO ∧ ev.laneK = k.laneK) ∧
    ev.dueK = ev.laneK - k.paidK ∧ ev.total = min (ev.dueO + ev.dueK) 999999 ∧
    (k.waived = true → ev.dueO = 0) ∧ (∀ m, k.paidThrough = some m → s.clock.minute ≤ m → ev.dueO = 0) ∧
    (k.waived = false → (∀ m, k.paidThrough = some m → m < s.clock.minute) → ev.dueO = ev.laneO - k.paidO) ∧
    (ev.laneK < k.paidK → ev.raised.overpaid = true)

/-- R97, the pieces of an evaluation: those of a delivery that have a deposit minute, in list order, each with the fee
of its tariff class, the multiplier of its requested size class and the rounding mode at the present minute; a return
has none (R107). -/
def Claims.PiecesAreEvaluated : Prop :=
  ∀ (s : State) (k : Consignment),
    let bank := s.tariff.bank
    (k.kind = .delivery → (s.evaluate k).pieces = k.pieces.filterMap fun c =>
      (s.holding c).bind fun x => x.depositMinute.map fun td =>
        let fee := pieceFee (s.tariff.classes.get x.tariffClass)
          (match x.size with
            | .s => bank.mult.s
            | .m => bank.mult.m
            | .l => bank.mult.l
            | .xl => bank.mult.xl) bank.rounding td s.clock.minute
        { comp := c, fee := fee.1, raised := fee.2 }) ∧
    (k.kind = .returnDrop → (s.evaluate k).pieces = [])

/-- R112 to R114, the raised set of an evaluation: the conditions that a piece raised, SAT where the sum of the fees or
the total of the dues is clamped, and OVERPAID where more was paid than a lane asks, for lane O only where its due is
computed from it (R108). -/
def Claims.RaisedByAnEvaluation : Prop :=
  ∀ (s : State) (k : Consignment) (q : Condition),
    let ev := s.evaluate k
    condAt ev.raised q = true ↔ (∃ p ∈ ev.pieces, condAt p.raised q = true) ∨
      (q = .sat ∧ (999999 < (ev.pieces.map fun p => p.fee).sum ∨ 999999 < ev.dueO + ev.dueK)) ∨
      (q = .overpaid ∧ (ev.laneK < k.paidK ∨
        (k.waived = false ∧ (∀ m, k.paidThrough = some m → m < s.clock.minute) ∧ ev.laneO < k.paidO)))

/-! ### Statements of several claims -/

/-- What leaves the custody clock, the marks of the power domains, the settings of operations and the console attempt
limiter alone. -/
def Obligations.ClockPowerAndSettingsFrame : Prop :=
  Claims.ClockFrame ∧ Claims.PowerFrame ∧ Claims.TariffFrame ∧ Claims.CarrierFrame ∧ Claims.TimingFrame ∧
    Claims.LimiterFrame

/-- What leaves the port units alone. -/
def Obligations.PortsFrame : Prop :=
  Claims.RequestsKeepOtherPorts ∧ Claims.EventsKeepPorts

/-- Frames on the line: the checks of a complete frame, answers and BUSY refusals, spoilt frames, sent responses,
posted notices with the attention line, and the levels and bytes of requests and responses with their CRC. -/
def Obligations.FramesOnTheLine : Prop :=
  Claims.FrameChecks ∧ Claims.UnknownCodeRefused ∧ Claims.OneBusyRefusalWaits ∧ Claims.AnswersAreSent ∧
    Claims.SpoiltFramesChangeNothing ∧ Claims.ResponseSentClearsBusy ∧
    Claims.PostedNoticeJoinsOrIsDropped ∧ Claims.AttentionLine ∧ Claims.BytesOnTheLine ∧ Claims.FramesAreReceived ∧
    Claims.CrcOfAFrame ∧ Claims.ResponseBytes

/-- Port Reset by the role of its port, what the console's does to the charges, and what the courier's Stop and the
retirement that follows it do. -/
def Obligations.PortResetAndStop : Prop :=
  Claims.PortResetClearsItsPort ∧ Claims.ConsoleResetVoidsOpenCharges ∧ Claims.StopWithdrawsQueuedDrops ∧
    Claims.RetirementWritesBack ∧ Claims.RetirementIsInOrder

/-- The reads of operations and what each returns, in the forms of logs 17, 25, 40, 41, 42, 51, 56 and
58. -/
def Obligations.Reads : Prop :=
  Claims.ReadsAnswerAndChangeNothing ∧ Claims.ReadsRefuse ∧ Claims.CompartmentIsRead ∧ Claims.RecordsAreRead ∧
    Claims.QueuesAreRead ∧ Claims.SettingsAreRead

/-- R117 and R122: Set Masks and Clear Conditions, with answers in the forms of logs 17 and 41. -/
def Obligations.MasksAndStickySet : Prop :=
  Claims.SetMasksMasksTheSet ∧ Claims.ClearConditionsClearsTheSet

/-- Set Tariff and Set Carrier. -/
def Obligations.TariffAndCarrierSettings : Prop :=
  Claims.SetTariffWritesTheClass ∧ Claims.SetTariffWritesTheBank ∧ Claims.SetCarrierWritesTheEntry

/-- The refusals of a Quote and a Collect past the code's checks, with what an unmasked condition does, and those of a
part that is not in service, whose order against a request's own refusals is log 15. -/
def Obligations.RequestChecks : Prop :=
  Claims.QuoteAndCollectChecks ∧ Claims.LaterQuoteAndCollectChecks ∧ Claims.ConditionsReachThePieces ∧
    Claims.NotInServiceRefuses

/-- The checks of a code and the console attempt limiter. -/
def Obligations.CodesAndTheLimiter : Prop :=
  Claims.CodeChecks ∧ Claims.LockoutEndUnlocks

/-- Collect, and the claim it makes. -/
def Obligations.CollectClaimsAndReleases : Prop :=
  Claims.CollectClaimsEveryPiece ∧ Claims.ClaimMakesReleasing

/-- Return Begin with what it commits and the answer of log 52, Return Cancel, and the refusals of both. -/
def Obligations.ReturnDrops : Prop :=
  Claims.ReturnBeginCommitsTheDrop ∧ Claims.ReturnIsCommitted ∧ Claims.ReturnBeginRefuses ∧
    Claims.ReturnCancelDropsTheReservation ∧ Claims.ReturnCancelRefuses

/-- Start, Resume, and the engine's look at a courier's slot; refusals without the engine's state are log 49. -/
def Obligations.EngineStarts : Prop :=
  Claims.StartRunsTheEngine ∧ Claims.ResumeByEngineState ∧ Claims.EngineSuspendsAtACourierSlot

/-- The work of the manifest engine: reading and starting DROP groups, the code it draws, RECALL and PICKUP, feeding,
and the reports its window takes. -/
def Obligations.EngineWork : Prop :=
  Claims.GroupIsReadForward ∧ Claims.EngineLooksAtADrop ∧ Claims.EngineLooksAtARecallOrPickup ∧
    Claims.DropGroupStarts ∧ Claims.GroupChecks ∧ Claims.GroupIsCommitted ∧ Claims.DrawnCodeIsFree ∧ Claims.RecallStarts ∧ Claims.PickupStarts ∧
    Claims.FeedingAsksForReleases ∧ Claims.ReportsReachTheWindow

/-- Withhold Compartment and Resolve Review with their refusals, in the form of log 25, what REVIEW, OUT_OF_SERVICE and
rest do to a compartment, the removal of a holding, and releases that end with their door shut, by the readings of logs
12 and 36. -/
def Obligations.ReviewRemovalAndLapse : Prop :=
  Claims.WithholdByState ∧ Claims.ResolveReviewActions ∧ Claims.ResolveReviewRefuses ∧
    Claims.ReviewRestAndOutOfService ∧ Claims.RemovalOfAHolding ∧ Claims.WindowShutRows

/-- The releases that operations ask for: Test Pulse, Column Restore, Service Release, Withdraw Service and SVC_KEY. -/
def Obligations.ReleasesByOperations : Prop :=
  Claims.TestPulseChecksAndQueues ∧ Claims.ColumnRestoreChecksAndQueues ∧ Claims.ServiceReleaseQueuesOrWaits ∧
    Claims.ServiceReleaseRefuses ∧ Claims.WithdrawServiceByPlace ∧ Claims.ServiceKeyMovesPendingEntries

/-- Release requests and failed releases, departures and what they bring: the paid return list and the pending service
set. -/
def Obligations.ReleaseRequests : Prop :=
  Claims.ReleaseRequestRows ∧ Claims.FailedReleaseRows ∧ Claims.FailuresAreReported ∧ Claims.DeparturesAreTold ∧
    Claims.PaidReturnList ∧ Claims.PendingServiceMoves

/-- The arbiter's look and its choices, and what every step keeps of the pulses in progress. -/
def Obligations.ArbiterAndPulses : Prop :=
  Claims.ArbiterTakesEligibleEntries ∧ Claims.ArbiterLooksUntilNoneIsLeft ∧ Claims.ArbiterTests ∧
    Claims.TakingCountsPassOvers ∧ Claims.PairingHoldsTheArbiter ∧ Claims.StepsKeepPulses

/-- The column drivers and the drive outputs. -/
def Obligations.ColumnDrivers : Prop :=
  Claims.ColumnTimersEnd ∧ Claims.ColumnAfterPulseRows ∧ Claims.DriveOutputs

/-- The ends of pulses, with a departure told before the column acts (log 32) and each event taken by the class of its
entry (log 24). -/
def Obligations.PulseEnds : Prop :=
  Claims.PulseGoodReleasesTheDoor ∧ Claims.PulseOpenCoilRetriesOnce ∧ Claims.PulseShortDisablesTheColumn ∧
    Claims.TestPulseEnds

/-- The sweep and what its samples do. -/
def Obligations.SweepAndSamples : Prop :=
  Claims.SweepTakesTheColumnAtThePointer ∧ Claims.SweepAdvances ∧ Claims.SampleMovesTheDoor ∧
    Claims.FittingReadSetsTheDoor ∧ Claims.OwedReadFollows

/-- The power events, the start, and the reconciliation that follows it, by the readings of logs 5, 19, 22, 26, 35, 36
and 45. -/
def Obligations.PowerAndReconciliation : Prop :=
  Claims.PowerMarksAlone ∧ Claims.StopKeepsTheBackupDomain ∧ Claims.StartRestoresTheBackupDomain ∧
    Claims.PowerEventsThatStartNothing ∧ Claims.PortsTakeTheirRoles ∧ Claims.BaselineReadSetsTheDoor ∧
    Claims.SweepsEndRestoring ∧ Claims.ReconciliationRows ∧ Claims.ReconciliationOfEmptyCompartments ∧
    Claims.ReconciliationOfFlownPulses

/-- The custody clock's tick, the overstay scan over every compartment in number order (log 39), and its notices. -/
def Obligations.TicksAndOverstays : Prop :=
  Claims.CustodyTickCountsAMinute ∧ Claims.OverstayScanMovesHeld ∧ Claims.OverstaysAreTold

/-- Closures and forced openings, whom they tell, and what the notices of a compartment carry. -/
def Obligations.ClosuresAndForcedOpenings : Prop :=
  Claims.ClosureRows ∧ Claims.InspectionRows ∧ Claims.OtherClosures ∧ Claims.ForcedRows ∧
    Claims.NoticesNameTheConsignment

/-- The match of a carrier, the allocator, and an evaluation: its pieces, lanes, dues and raised set. -/
def Obligations.PlacementAndDues : Prop :=
  Claims.CarrierMatchRows ∧ Claims.AllocatorPlacesOnePiece ∧ Claims.LanesAndDues ∧ Claims.PiecesAreEvaluated ∧
    Claims.RaisedByAnEvaluation

/-- Fetch Charge by the state of the charge, what it answers with, in the form of log 47, and the charge that it takes
unnamed. -/
def Obligations.FetchChargePresentsTheCharge : Prop :=
  Claims.FetchChargePresentsTheCharge ∧ Claims.FetchedCharge

/-- The expiry of a charge, what the end of a charge does, and the reservation that waits on it. -/
def Obligations.ChargeExpiryEndsTheCharge : Prop :=
  Claims.ChargeExpiryEndsTheCharge ∧ Claims.ChargesEnd ∧ Claims.ReservationsOfChargesThatEnd ∧
    Claims.ReservationsAreDropped

/-- No consequence waits after a step, and how a step ends (log 10): each consequence worked in its turn, and what it
leads to before the rest. -/
def Obligations.StepsLeaveNoConsequence : Prop :=
  Claims.StepsLeaveNoConsequence ∧ Claims.ConsequencesAreWorked

/-- Lookup, the consignment summary that it answers with, and what its evaluation adds to the sticky set. -/
def Obligations.LookupReadsTheConsignment : Prop :=
  Claims.LookupReadsTheConsignment ∧ Claims.SummaryOfAConsignment ∧
    Claims.EvaluationsAddToTheStickySet

/-- An accepted Quote, and what the opening of its charge writes. -/
def Obligations.QuoteOpensACharge : Prop :=
  Claims.QuoteOpensACharge ∧ Claims.OpeningAChargeWrites
end

