-- ==== Sys2Proof/Laws/State.lean ====
section
/-! SUPPORT. For each update of the state, the fields it leaves as they were, each true by unfolding the record. -/

namespace Sys2Proof.Machine

variable (s : State)

/-- What `emit` leaves as it was. -/
@[simp] theorem emit_frame (g : Signal) :
    (s.emit g).clock = s.clock ∧ (s.emit g).power = s.power ∧ (s.emit g).custody = s.custody ∧ (s.emit
    g).carriers = s.carriers ∧ (s.emit g).codeGen = s.codeGen ∧ (s.emit g).tariff = s.tariff ∧ (s.emit
    g).charges = s.charges ∧ (s.emit g).seq = s.seq ∧ (s.emit g).scanner = s.scanner ∧ (s.emit g).engine =
    s.engine ∧ (s.emit g).ports = s.ports ∧ (s.emit g).limiter = s.limiter ∧ (s.emit g).paidReturns =
    s.paidReturns ∧ (s.emit g).sense = s.sense ∧ (s.emit g).arbiterDue = s.arbiterDue ∧ (s.emit g).asks =
    s.asks ∧ (s.emit g).pending = s.pending :=
  ⟨rfl, rfl, rfl, rfl, rfl, rfl, rfl, rfl, rfl, rfl, rfl, rfl, rfl, rfl, rfl, rfl, rfl⟩

/-- What `markArbiter` leaves as it was. -/
@[simp] theorem markArbiter_frame :
    (s.markArbiter).clock = s.clock ∧ (s.markArbiter).power = s.power ∧ (s.markArbiter).custody = s.custody ∧
    (s.markArbiter).carriers = s.carriers ∧ (s.markArbiter).codeGen = s.codeGen ∧ (s.markArbiter).tariff =
    s.tariff ∧ (s.markArbiter).charges = s.charges ∧ (s.markArbiter).seq = s.seq ∧ (s.markArbiter).scanner =
    s.scanner ∧ (s.markArbiter).engine = s.engine ∧ (s.markArbiter).ports = s.ports ∧ (s.markArbiter).limiter
    = s.limiter ∧ (s.markArbiter).paidReturns = s.paidReturns ∧ (s.markArbiter).sense = s.sense ∧
    (s.markArbiter).signals = s.signals ∧ (s.markArbiter).asks = s.asks ∧ (s.markArbiter).pending = s.pending :=
  ⟨rfl, rfl, rfl, rfl, rfl, rfl, rfl, rfl, rfl, rfl, rfl, rfl, rfl, rfl, rfl, rfl, rfl⟩

/-- What `begin` leaves as it was. -/
@[simp] theorem begin_frame :
    (s.begin).clock = s.clock ∧ (s.begin).power = s.power ∧ (s.begin).custody = s.custody ∧ (s.begin).carriers
    = s.carriers ∧ (s.begin).codeGen = s.codeGen ∧ (s.begin).tariff = s.tariff ∧ (s.begin).charges = s.charges
    ∧ (s.begin).seq = s.seq ∧ (s.begin).scanner = s.scanner ∧ (s.begin).engine = s.engine ∧ (s.begin).ports =
    s.ports ∧ (s.begin).limiter = s.limiter ∧ (s.begin).paidReturns = s.paidReturns ∧ (s.begin).sense =
    s.sense ∧ (s.begin).asks = s.asks ∧ (s.begin).pending = s.pending :=
  ⟨rfl, rfl, rfl, rfl, rfl, rfl, rfl, rfl, rfl, rfl, rfl, rfl, rfl, rfl, rfl, rfl⟩

/-- What `putEntry` leaves as it was. -/
@[simp] theorem putEntry_frame (c : Comp) (e : CompartmentEntry) :
    (s.putEntry c e).clock = s.clock ∧ (s.putEntry c e).power = s.power ∧ (s.putEntry c e).carriers =
    s.carriers ∧ (s.putEntry c e).codeGen = s.codeGen ∧ (s.putEntry c e).tariff = s.tariff ∧ (s.putEntry c
    e).charges = s.charges ∧ (s.putEntry c e).seq = s.seq ∧ (s.putEntry c e).scanner = s.scanner ∧ (s.putEntry
    c e).engine = s.engine ∧ (s.putEntry c e).ports = s.ports ∧ (s.putEntry c e).limiter = s.limiter ∧
    (s.putEntry c e).paidReturns = s.paidReturns ∧ (s.putEntry c e).sense = s.sense ∧ (s.putEntry c e).signals
    = s.signals ∧ (s.putEntry c e).arbiterDue = s.arbiterDue ∧ (s.putEntry c e).asks = s.asks ∧ (s.putEntry c
    e).pending = s.pending :=
  ⟨rfl, rfl, rfl, rfl, rfl, rfl, rfl, rfl, rfl, rfl, rfl, rfl, rfl, rfl, rfl, rfl, rfl⟩

/-- What `updHolding` leaves as it was. -/
@[simp] theorem updHolding_frame (c : Comp) (f : Holding → Holding) :
    (s.updHolding c f).clock = s.clock ∧ (s.updHolding c f).power = s.power ∧ (s.updHolding c f).carriers =
    s.carriers ∧ (s.updHolding c f).codeGen = s.codeGen ∧ (s.updHolding c f).tariff = s.tariff ∧ (s.updHolding
    c f).charges = s.charges ∧ (s.updHolding c f).seq = s.seq ∧ (s.updHolding c f).scanner = s.scanner ∧
    (s.updHolding c f).engine = s.engine ∧ (s.updHolding c f).ports = s.ports ∧ (s.updHolding c f).limiter =
    s.limiter ∧ (s.updHolding c f).paidReturns = s.paidReturns ∧ (s.updHolding c f).sense = s.sense ∧
    (s.updHolding c f).signals = s.signals ∧ (s.updHolding c f).arbiterDue = s.arbiterDue ∧ (s.updHolding c
    f).asks = s.asks ∧ (s.updHolding c f).pending = s.pending :=
  ⟨rfl, rfl, rfl, rfl, rfl, rfl, rfl, rfl, rfl, rfl, rfl, rfl, rfl, rfl, rfl, rfl, rfl⟩

/-- What `putRecord` leaves as it was. -/
@[simp] theorem putRecord_frame (r : RecordNo) (k : Option Consignment) :
    (s.putRecord r k).clock = s.clock ∧ (s.putRecord r k).power = s.power ∧ (s.putRecord r k).carriers =
    s.carriers ∧ (s.putRecord r k).codeGen = s.codeGen ∧ (s.putRecord r k).tariff = s.tariff ∧ (s.putRecord r
    k).charges = s.charges ∧ (s.putRecord r k).seq = s.seq ∧ (s.putRecord r k).scanner = s.scanner ∧
    (s.putRecord r k).engine = s.engine ∧ (s.putRecord r k).ports = s.ports ∧ (s.putRecord r k).limiter =
    s.limiter ∧ (s.putRecord r k).paidReturns = s.paidReturns ∧ (s.putRecord r k).sense = s.sense ∧
    (s.putRecord r k).signals = s.signals ∧ (s.putRecord r k).arbiterDue = s.arbiterDue ∧ (s.putRecord r
    k).asks = s.asks ∧ (s.putRecord r k).pending = s.pending :=
  ⟨rfl, rfl, rfl, rfl, rfl, rfl, rfl, rfl, rfl, rfl, rfl, rfl, rfl, rfl, rfl, rfl, rfl⟩

/-- What `updRecord` leaves as it was. -/
@[simp] theorem updRecord_frame (r : RecordNo) (f : Consignment → Consignment) :
    (s.updRecord r f).clock = s.clock ∧ (s.updRecord r f).power = s.power ∧ (s.updRecord r f).carriers =
    s.carriers ∧ (s.updRecord r f).codeGen = s.codeGen ∧ (s.updRecord r f).tariff = s.tariff ∧ (s.updRecord r
    f).charges = s.charges ∧ (s.updRecord r f).seq = s.seq ∧ (s.updRecord r f).scanner = s.scanner ∧
    (s.updRecord r f).engine = s.engine ∧ (s.updRecord r f).ports = s.ports ∧ (s.updRecord r f).limiter =
    s.limiter ∧ (s.updRecord r f).paidReturns = s.paidReturns ∧ (s.updRecord r f).sense = s.sense ∧
    (s.updRecord r f).signals = s.signals ∧ (s.updRecord r f).arbiterDue = s.arbiterDue ∧ (s.updRecord r
    f).asks = s.asks ∧ (s.updRecord r f).pending = s.pending :=
  ⟨rfl, rfl, rfl, rfl, rfl, rfl, rfl, rfl, rfl, rfl, rfl, rfl, rfl, rfl, rfl, rfl, rfl⟩

/-- What `putColumn` leaves as it was. -/
@[simp] theorem putColumn_frame (c : Column) (st : ColumnState) :
    (s.putColumn c st).clock = s.clock ∧ (s.putColumn c st).power = s.power ∧ (s.putColumn c st).custody =
    s.custody ∧ (s.putColumn c st).carriers = s.carriers ∧ (s.putColumn c st).codeGen = s.codeGen ∧
    (s.putColumn c st).tariff = s.tariff ∧ (s.putColumn c st).charges = s.charges ∧ (s.putColumn c st).scanner
    = s.scanner ∧ (s.putColumn c st).engine = s.engine ∧ (s.putColumn c st).ports = s.ports ∧ (s.putColumn c
    st).limiter = s.limiter ∧ (s.putColumn c st).paidReturns = s.paidReturns ∧ (s.putColumn c st).sense =
    s.sense ∧ (s.putColumn c st).signals = s.signals ∧ (s.putColumn c st).arbiterDue = s.arbiterDue ∧
    (s.putColumn c st).asks = s.asks ∧ (s.putColumn c st).pending = s.pending :=
  ⟨rfl, rfl, rfl, rfl, rfl, rfl, rfl, rfl, rfl, rfl, rfl, rfl, rfl, rfl, rfl, rfl, rfl⟩

/-- What `setQueue` leaves as it was. -/
@[simp] theorem setQueue_frame (q : List Entry) :
    (s.setQueue q).clock = s.clock ∧ (s.setQueue q).power = s.power ∧ (s.setQueue q).custody = s.custody ∧
    (s.setQueue q).carriers = s.carriers ∧ (s.setQueue q).codeGen = s.codeGen ∧ (s.setQueue q).tariff =
    s.tariff ∧ (s.setQueue q).charges = s.charges ∧ (s.setQueue q).scanner = s.scanner ∧ (s.setQueue q).engine
    = s.engine ∧ (s.setQueue q).ports = s.ports ∧ (s.setQueue q).limiter = s.limiter ∧ (s.setQueue
    q).paidReturns = s.paidReturns ∧ (s.setQueue q).sense = s.sense ∧ (s.setQueue q).signals = s.signals ∧
    (s.setQueue q).arbiterDue = s.arbiterDue ∧ (s.setQueue q).asks = s.asks ∧ (s.setQueue q).pending =
    s.pending :=
  ⟨rfl, rfl, rfl, rfl, rfl, rfl, rfl, rfl, rfl, rfl, rfl, rfl, rfl, rfl, rfl, rfl, rfl⟩

/-- What `setPending` leaves as it was. -/
@[simp] theorem setPending_frame (l : List Comp) :
    (s.setPending l).clock = s.clock ∧ (s.setPending l).power = s.power ∧ (s.setPending l).custody = s.custody
    ∧ (s.setPending l).carriers = s.carriers ∧ (s.setPending l).codeGen = s.codeGen ∧ (s.setPending l).tariff
    = s.tariff ∧ (s.setPending l).charges = s.charges ∧ (s.setPending l).scanner = s.scanner ∧ (s.setPending
    l).engine = s.engine ∧ (s.setPending l).ports = s.ports ∧ (s.setPending l).limiter = s.limiter ∧
    (s.setPending l).paidReturns = s.paidReturns ∧ (s.setPending l).sense = s.sense ∧ (s.setPending l).signals
    = s.signals ∧ (s.setPending l).arbiterDue = s.arbiterDue ∧ (s.setPending l).asks = s.asks ∧ (s.setPending
    l).pending = s.pending :=
  ⟨rfl, rfl, rfl, rfl, rfl, rfl, rfl, rfl, rfl, rfl, rfl, rfl, rfl, rfl, rfl, rfl, rfl⟩

/-- What `dropEntry` leaves as it was. -/
@[simp] theorem dropEntry_frame (c : Comp) :
    (s.dropEntry c).clock = s.clock ∧ (s.dropEntry c).power = s.power ∧ (s.dropEntry c).custody = s.custody ∧
    (s.dropEntry c).carriers = s.carriers ∧ (s.dropEntry c).codeGen = s.codeGen ∧ (s.dropEntry c).tariff =
    s.tariff ∧ (s.dropEntry c).charges = s.charges ∧ (s.dropEntry c).scanner = s.scanner ∧ (s.dropEntry
    c).engine = s.engine ∧ (s.dropEntry c).ports = s.ports ∧ (s.dropEntry c).limiter = s.limiter ∧
    (s.dropEntry c).paidReturns = s.paidReturns ∧ (s.dropEntry c).sense = s.sense ∧ (s.dropEntry c).signals =
    s.signals ∧ (s.dropEntry c).arbiterDue = s.arbiterDue ∧ (s.dropEntry c).asks = s.asks ∧ (s.dropEntry
    c).pending = s.pending :=
  ⟨rfl, rfl, rfl, rfl, rfl, rfl, rfl, rfl, rfl, rfl, rfl, rfl, rfl, rfl, rfl, rfl, rfl⟩

/-- What `join` leaves as it was. -/
@[simp] theorem join_frame (e : Entry) :
    (s.join e).clock = s.clock ∧ (s.join e).power = s.power ∧ (s.join e).custody = s.custody ∧ (s.join
    e).carriers = s.carriers ∧ (s.join e).codeGen = s.codeGen ∧ (s.join e).tariff = s.tariff ∧ (s.join
    e).charges = s.charges ∧ (s.join e).scanner = s.scanner ∧ (s.join e).engine = s.engine ∧ (s.join e).ports
    = s.ports ∧ (s.join e).limiter = s.limiter ∧ (s.join e).paidReturns = s.paidReturns ∧ (s.join e).sense =
    s.sense ∧ (s.join e).signals = s.signals ∧ (s.join e).asks = s.asks ∧ (s.join e).pending = s.pending :=
  ⟨rfl, rfl, rfl, rfl, rfl, rfl, rfl, rfl, rfl, rfl, rfl, rfl, rfl, rfl, rfl, rfl⟩

/-- What `departed` leaves as it was. -/
@[simp] theorem departed_frame :
    (s.departed).clock = s.clock ∧ (s.departed).power = s.power ∧ (s.departed).custody = s.custody ∧
    (s.departed).carriers = s.carriers ∧ (s.departed).codeGen = s.codeGen ∧ (s.departed).tariff = s.tariff ∧
    (s.departed).charges = s.charges ∧ (s.departed).seq = s.seq ∧ (s.departed).scanner = s.scanner ∧
    (s.departed).engine = s.engine ∧ (s.departed).ports = s.ports ∧ (s.departed).limiter = s.limiter ∧
    (s.departed).paidReturns = s.paidReturns ∧ (s.departed).sense = s.sense ∧ (s.departed).asks = s.asks ∧
    (s.departed).pending = s.pending :=
  ⟨rfl, rfl, rfl, rfl, rfl, rfl, rfl, rfl, rfl, rfl, rfl, rfl, rfl, rfl, rfl, rfl⟩

/-- What `landed` leaves as it was. -/
@[simp] theorem landed_frame (c : Comp) :
    (s.landed c).clock = s.clock ∧ (s.landed c).power = s.power ∧ (s.landed c).custody = s.custody ∧ (s.landed
    c).carriers = s.carriers ∧ (s.landed c).codeGen = s.codeGen ∧ (s.landed c).tariff = s.tariff ∧ (s.landed
    c).charges = s.charges ∧ (s.landed c).scanner = s.scanner ∧ (s.landed c).engine = s.engine ∧ (s.landed
    c).ports = s.ports ∧ (s.landed c).limiter = s.limiter ∧ (s.landed c).paidReturns = s.paidReturns ∧
    (s.landed c).sense = s.sense ∧ (s.landed c).signals = s.signals ∧ (s.landed c).arbiterDue = s.arbiterDue ∧
    (s.landed c).asks = s.asks ∧ (s.landed c).pending = s.pending :=
  ⟨rfl, rfl, rfl, rfl, rfl, rfl, rfl, rfl, rfl, rfl, rfl, rfl, rfl, rfl, rfl, rfl, rfl⟩

/-- What `leavesQueue` leaves as it was. -/
@[simp] theorem leavesQueue_frame (c : Comp) :
    (s.leavesQueue c).clock = s.clock ∧ (s.leavesQueue c).power = s.power ∧ (s.leavesQueue c).custody =
    s.custody ∧ (s.leavesQueue c).carriers = s.carriers ∧ (s.leavesQueue c).codeGen = s.codeGen ∧
    (s.leavesQueue c).tariff = s.tariff ∧ (s.leavesQueue c).charges = s.charges ∧ (s.leavesQueue c).scanner =
    s.scanner ∧ (s.leavesQueue c).engine = s.engine ∧ (s.leavesQueue c).ports = s.ports ∧ (s.leavesQueue
    c).limiter = s.limiter ∧ (s.leavesQueue c).paidReturns = s.paidReturns ∧ (s.leavesQueue c).sense = s.sense
    ∧ (s.leavesQueue c).signals = s.signals ∧ (s.leavesQueue c).asks = s.asks ∧ (s.leavesQueue c).pending =
    s.pending :=
  ⟨rfl, rfl, rfl, rfl, rfl, rfl, rfl, rfl, rfl, rfl, rfl, rfl, rfl, rfl, rfl, rfl⟩

/-- What `setDoor` leaves as it was. -/
@[simp] theorem setDoor_frame (c : Comp) (d : Option Door) :
    (s.setDoor c d).clock = s.clock ∧ (s.setDoor c d).power = s.power ∧ (s.setDoor c d).custody = s.custody ∧
    (s.setDoor c d).carriers = s.carriers ∧ (s.setDoor c d).codeGen = s.codeGen ∧ (s.setDoor c d).tariff =
    s.tariff ∧ (s.setDoor c d).charges = s.charges ∧ (s.setDoor c d).seq = s.seq ∧ (s.setDoor c d).engine =
    s.engine ∧ (s.setDoor c d).ports = s.ports ∧ (s.setDoor c d).limiter = s.limiter ∧ (s.setDoor c
    d).paidReturns = s.paidReturns ∧ (s.setDoor c d).sense = s.sense ∧ (s.setDoor c d).signals = s.signals ∧
    (s.setDoor c d).arbiterDue = s.arbiterDue ∧ (s.setDoor c d).asks = s.asks ∧ (s.setDoor c d).pending =
    s.pending :=
  ⟨rfl, rfl, rfl, rfl, rfl, rfl, rfl, rfl, rfl, rfl, rfl, rfl, rfl, rfl, rfl, rfl, rfl⟩

/-- What `setBaseline` leaves as it was. -/
@[simp] theorem setBaseline_frame (c : Comp) (p : Option BaselineSample) :
    (s.setBaseline c p).clock = s.clock ∧ (s.setBaseline c p).power = s.power ∧ (s.setBaseline c p).custody =
    s.custody ∧ (s.setBaseline c p).carriers = s.carriers ∧ (s.setBaseline c p).codeGen = s.codeGen ∧
    (s.setBaseline c p).tariff = s.tariff ∧ (s.setBaseline c p).charges = s.charges ∧ (s.setBaseline c p).seq
    = s.seq ∧ (s.setBaseline c p).engine = s.engine ∧ (s.setBaseline c p).ports = s.ports ∧ (s.setBaseline c
    p).limiter = s.limiter ∧ (s.setBaseline c p).paidReturns = s.paidReturns ∧ (s.setBaseline c p).sense =
    s.sense ∧ (s.setBaseline c p).signals = s.signals ∧ (s.setBaseline c p).arbiterDue = s.arbiterDue ∧
    (s.setBaseline c p).asks = s.asks ∧ (s.setBaseline c p).pending = s.pending :=
  ⟨rfl, rfl, rfl, rfl, rfl, rfl, rfl, rfl, rfl, rfl, rfl, rfl, rfl, rfl, rfl, rfl, rfl⟩

/-- What `setOwed` leaves as it was. -/
@[simp] theorem setOwed_frame (c : Column) (b : Bool) :
    (s.setOwed c b).clock = s.clock ∧ (s.setOwed c b).power = s.power ∧ (s.setOwed c b).custody = s.custody ∧
    (s.setOwed c b).carriers = s.carriers ∧ (s.setOwed c b).codeGen = s.codeGen ∧ (s.setOwed c b).tariff =
    s.tariff ∧ (s.setOwed c b).charges = s.charges ∧ (s.setOwed c b).seq = s.seq ∧ (s.setOwed c b).engine =
    s.engine ∧ (s.setOwed c b).ports = s.ports ∧ (s.setOwed c b).limiter = s.limiter ∧ (s.setOwed c
    b).paidReturns = s.paidReturns ∧ (s.setOwed c b).sense = s.sense ∧ (s.setOwed c b).signals = s.signals ∧
    (s.setOwed c b).arbiterDue = s.arbiterDue ∧ (s.setOwed c b).asks = s.asks ∧ (s.setOwed c b).pending =
    s.pending :=
  ⟨rfl, rfl, rfl, rfl, rfl, rfl, rfl, rfl, rfl, rfl, rfl, rfl, rfl, rfl, rfl, rfl, rfl⟩

/-- What `setPhase` leaves as it was. -/
@[simp] theorem setPhase_frame (p : SweepPhase) :
    (s.setPhase p).clock = s.clock ∧ (s.setPhase p).power = s.power ∧ (s.setPhase p).custody = s.custody ∧
    (s.setPhase p).carriers = s.carriers ∧ (s.setPhase p).codeGen = s.codeGen ∧ (s.setPhase p).tariff =
    s.tariff ∧ (s.setPhase p).charges = s.charges ∧ (s.setPhase p).seq = s.seq ∧ (s.setPhase p).engine =
    s.engine ∧ (s.setPhase p).ports = s.ports ∧ (s.setPhase p).limiter = s.limiter ∧ (s.setPhase
    p).paidReturns = s.paidReturns ∧ (s.setPhase p).sense = s.sense ∧ (s.setPhase p).signals = s.signals ∧
    (s.setPhase p).arbiterDue = s.arbiterDue ∧ (s.setPhase p).asks = s.asks ∧ (s.setPhase p).pending =
    s.pending :=
  ⟨rfl, rfl, rfl, rfl, rfl, rfl, rfl, rfl, rfl, rfl, rfl, rfl, rfl, rfl, rfl, rfl, rfl⟩

/-- What `sweepBegin` leaves as it was. -/
@[simp] theorem sweepBegin_frame :
    (s.sweepBegin).clock = s.clock ∧ (s.sweepBegin).power = s.power ∧ (s.sweepBegin).custody = s.custody ∧
    (s.sweepBegin).carriers = s.carriers ∧ (s.sweepBegin).codeGen = s.codeGen ∧ (s.sweepBegin).tariff =
    s.tariff ∧ (s.sweepBegin).charges = s.charges ∧ (s.sweepBegin).seq = s.seq ∧ (s.sweepBegin).engine =
    s.engine ∧ (s.sweepBegin).ports = s.ports ∧ (s.sweepBegin).limiter = s.limiter ∧
    (s.sweepBegin).paidReturns = s.paidReturns ∧ (s.sweepBegin).sense = s.sense ∧ (s.sweepBegin).signals =
    s.signals ∧ (s.sweepBegin).arbiterDue = s.arbiterDue ∧ (s.sweepBegin).asks = s.asks ∧
    (s.sweepBegin).pending = s.pending :=
  ⟨rfl, rfl, rfl, rfl, rfl, rfl, rfl, rfl, rfl, rfl, rfl, rfl, rfl, rfl, rfl, rfl, rfl⟩

/-- What `latch` leaves as it was. -/
@[simp] theorem latch_frame (x : Sense) :
    (s.latch x).clock = s.clock ∧ (s.latch x).power = s.power ∧ (s.latch x).custody = s.custody ∧ (s.latch
    x).carriers = s.carriers ∧ (s.latch x).codeGen = s.codeGen ∧ (s.latch x).tariff = s.tariff ∧ (s.latch
    x).charges = s.charges ∧ (s.latch x).seq = s.seq ∧ (s.latch x).scanner = s.scanner ∧ (s.latch x).engine =
    s.engine ∧ (s.latch x).ports = s.ports ∧ (s.latch x).limiter = s.limiter ∧ (s.latch x).paidReturns =
    s.paidReturns ∧ (s.latch x).signals = s.signals ∧ (s.latch x).arbiterDue = s.arbiterDue ∧ (s.latch x).asks
    = s.asks ∧ (s.latch x).pending = s.pending :=
  ⟨rfl, rfl, rfl, rfl, rfl, rfl, rfl, rfl, rfl, rfl, rfl, rfl, rfl, rfl, rfl, rfl, rfl⟩

/-- What `post` leaves as it was. -/
@[simp] theorem post_frame (r : Role) (n : Notice) :
    (s.post r n).clock = s.clock ∧ (s.post r n).power = s.power ∧ (s.post r n).custody = s.custody ∧ (s.post r
    n).carriers = s.carriers ∧ (s.post r n).codeGen = s.codeGen ∧ (s.post r n).tariff = s.tariff ∧ (s.post r
    n).charges = s.charges ∧ (s.post r n).seq = s.seq ∧ (s.post r n).scanner = s.scanner ∧ (s.post r n).engine
    = s.engine ∧ (s.post r n).limiter = s.limiter ∧ (s.post r n).paidReturns = s.paidReturns ∧ (s.post r
    n).sense = s.sense ∧ (s.post r n).signals = s.signals ∧ (s.post r n).arbiterDue = s.arbiterDue ∧ (s.post r
    n).asks = s.asks ∧ (s.post r n).pending = s.pending :=
  ⟨rfl, rfl, rfl, rfl, rfl, rfl, rfl, rfl, rfl, rfl, rfl, rfl, rfl, rfl, rfl, rfl, rfl⟩

/-- What `putPort` leaves as it was. -/
@[simp] theorem putPort_frame (p : Fin 4) (u : PortUnit) :
    (s.putPort p u).clock = s.clock ∧ (s.putPort p u).power = s.power ∧ (s.putPort p u).custody = s.custody ∧
    (s.putPort p u).carriers = s.carriers ∧ (s.putPort p u).codeGen = s.codeGen ∧ (s.putPort p u).tariff =
    s.tariff ∧ (s.putPort p u).charges = s.charges ∧ (s.putPort p u).seq = s.seq ∧ (s.putPort p u).scanner =
    s.scanner ∧ (s.putPort p u).engine = s.engine ∧ (s.putPort p u).limiter = s.limiter ∧ (s.putPort p
    u).paidReturns = s.paidReturns ∧ (s.putPort p u).sense = s.sense ∧ (s.putPort p u).signals = s.signals ∧
    (s.putPort p u).arbiterDue = s.arbiterDue ∧ (s.putPort p u).asks = s.asks ∧ (s.putPort p u).pending =
    s.pending :=
  ⟨rfl, rfl, rfl, rfl, rfl, rfl, rfl, rfl, rfl, rfl, rfl, rfl, rfl, rfl, rfl, rfl, rfl⟩

/-- What `onPort` leaves as it was. -/
@[simp] theorem onPort_frame (p : Fin 4) (f : PortUnit → PortUnit) :
    (s.onPort p f).clock = s.clock ∧ (s.onPort p f).power = s.power ∧ (s.onPort p f).custody = s.custody ∧
    (s.onPort p f).carriers = s.carriers ∧ (s.onPort p f).codeGen = s.codeGen ∧ (s.onPort p f).tariff =
    s.tariff ∧ (s.onPort p f).charges = s.charges ∧ (s.onPort p f).seq = s.seq ∧ (s.onPort p f).scanner =
    s.scanner ∧ (s.onPort p f).engine = s.engine ∧ (s.onPort p f).limiter = s.limiter ∧ (s.onPort p
    f).paidReturns = s.paidReturns ∧ (s.onPort p f).sense = s.sense ∧ (s.onPort p f).signals = s.signals ∧
    (s.onPort p f).arbiterDue = s.arbiterDue ∧ (s.onPort p f).asks = s.asks ∧ (s.onPort p f).pending =
    s.pending :=
  ⟨rfl, rfl, rfl, rfl, rfl, rfl, rfl, rfl, rfl, rfl, rfl, rfl, rfl, rfl, rfl, rfl, rfl⟩

/-- What `frameTaken` leaves as it was. -/
@[simp] theorem frameTaken_frame (p : Fin 4) :
    (s.frameTaken p).clock = s.clock ∧ (s.frameTaken p).power = s.power ∧ (s.frameTaken p).custody = s.custody
    ∧ (s.frameTaken p).carriers = s.carriers ∧ (s.frameTaken p).codeGen = s.codeGen ∧ (s.frameTaken p).tariff
    = s.tariff ∧ (s.frameTaken p).charges = s.charges ∧ (s.frameTaken p).seq = s.seq ∧ (s.frameTaken
    p).scanner = s.scanner ∧ (s.frameTaken p).engine = s.engine ∧ (s.frameTaken p).limiter = s.limiter ∧
    (s.frameTaken p).paidReturns = s.paidReturns ∧ (s.frameTaken p).sense = s.sense ∧ (s.frameTaken p).signals
    = s.signals ∧ (s.frameTaken p).arbiterDue = s.arbiterDue ∧ (s.frameTaken p).asks = s.asks ∧ (s.frameTaken
    p).pending = s.pending :=
  ⟨rfl, rfl, rfl, rfl, rfl, rfl, rfl, rfl, rfl, rfl, rfl, rfl, rfl, rfl, rfl, rfl, rfl⟩

/-- What `refuseFrame` leaves as it was. -/
@[simp] theorem refuseFrame_frame (h : Head) (code : Byte) (r : Reason) :
    (s.refuseFrame h code r).clock = s.clock ∧ (s.refuseFrame h code r).power = s.power ∧ (s.refuseFrame h
    code r).custody = s.custody ∧ (s.refuseFrame h code r).carriers = s.carriers ∧ (s.refuseFrame h code
    r).codeGen = s.codeGen ∧ (s.refuseFrame h code r).tariff = s.tariff ∧ (s.refuseFrame h code r).charges =
    s.charges ∧ (s.refuseFrame h code r).seq = s.seq ∧ (s.refuseFrame h code r).scanner = s.scanner ∧
    (s.refuseFrame h code r).engine = s.engine ∧ (s.refuseFrame h code r).limiter = s.limiter ∧ (s.refuseFrame
    h code r).paidReturns = s.paidReturns ∧ (s.refuseFrame h code r).sense = s.sense ∧ (s.refuseFrame h code
    r).signals = s.signals ∧ (s.refuseFrame h code r).arbiterDue = s.arbiterDue ∧ (s.refuseFrame h code
    r).asks = s.asks ∧ (s.refuseFrame h code r).pending = s.pending :=
  ⟨rfl, rfl, rfl, rfl, rfl, rfl, rfl, rfl, rfl, rfl, rfl, rfl, rfl, rfl, rfl, rfl, rfl⟩

/-- What `respond` leaves as it was. -/
@[simp] theorem respond_frame (h : Head) (code : Byte) (a : Answer) :
    (s.respond h code a).clock = s.clock ∧ (s.respond h code a).power = s.power ∧ (s.respond h code a).custody
    = s.custody ∧ (s.respond h code a).carriers = s.carriers ∧ (s.respond h code a).codeGen = s.codeGen ∧
    (s.respond h code a).tariff = s.tariff ∧ (s.respond h code a).charges = s.charges ∧ (s.respond h code
    a).seq = s.seq ∧ (s.respond h code a).scanner = s.scanner ∧ (s.respond h code a).engine = s.engine ∧
    (s.respond h code a).limiter = s.limiter ∧ (s.respond h code a).paidReturns = s.paidReturns ∧ (s.respond h
    code a).sense = s.sense ∧ (s.respond h code a).signals = s.signals ∧ (s.respond h code a).arbiterDue =
    s.arbiterDue ∧ (s.respond h code a).asks = s.asks ∧ (s.respond h code a).pending = s.pending :=
  ⟨rfl, rfl, rfl, rfl, rfl, rfl, rfl, rfl, rfl, rfl, rfl, rfl, rfl, rfl, rfl, rfl, rfl⟩

/-- What `putCharge` leaves as it was. -/
@[simp] theorem putCharge_frame (i : ChargeSlot) (r : ChargeRecord) :
    (s.putCharge i r).clock = s.clock ∧ (s.putCharge i r).power = s.power ∧ (s.putCharge i r).custody =
    s.custody ∧ (s.putCharge i r).carriers = s.carriers ∧ (s.putCharge i r).codeGen = s.codeGen ∧ (s.putCharge
    i r).tariff = s.tariff ∧ (s.putCharge i r).seq = s.seq ∧ (s.putCharge i r).scanner = s.scanner ∧
    (s.putCharge i r).engine = s.engine ∧ (s.putCharge i r).ports = s.ports ∧ (s.putCharge i r).limiter =
    s.limiter ∧ (s.putCharge i r).paidReturns = s.paidReturns ∧ (s.putCharge i r).sense = s.sense ∧
    (s.putCharge i r).signals = s.signals ∧ (s.putCharge i r).arbiterDue = s.arbiterDue ∧ (s.putCharge i
    r).asks = s.asks ∧ (s.putCharge i r).pending = s.pending :=
  ⟨rfl, rfl, rfl, rfl, rfl, rfl, rfl, rfl, rfl, rfl, rfl, rfl, rfl, rfl, rfl, rfl, rfl⟩

/-- What `setEnded` leaves as it was. -/
@[simp] theorem setEnded_frame (l : List ChargeSlot) :
    (s.setEnded l).clock = s.clock ∧ (s.setEnded l).power = s.power ∧ (s.setEnded l).custody = s.custody ∧
    (s.setEnded l).carriers = s.carriers ∧ (s.setEnded l).codeGen = s.codeGen ∧ (s.setEnded l).tariff =
    s.tariff ∧ (s.setEnded l).seq = s.seq ∧ (s.setEnded l).scanner = s.scanner ∧ (s.setEnded l).engine =
    s.engine ∧ (s.setEnded l).ports = s.ports ∧ (s.setEnded l).limiter = s.limiter ∧ (s.setEnded
    l).paidReturns = s.paidReturns ∧ (s.setEnded l).sense = s.sense ∧ (s.setEnded l).signals = s.signals ∧
    (s.setEnded l).arbiterDue = s.arbiterDue ∧ (s.setEnded l).asks = s.asks ∧ (s.setEnded l).pending =
    s.pending :=
  ⟨rfl, rfl, rfl, rfl, rfl, rfl, rfl, rfl, rfl, rfl, rfl, rfl, rfl, rfl, rfl, rfl, rfl⟩

/-- What `freeSlot` leaves as it was. -/
@[simp] theorem freeSlot_frame (i : ChargeSlot) :
    (s.freeSlot i).clock = s.clock ∧ (s.freeSlot i).power = s.power ∧ (s.freeSlot i).custody = s.custody ∧
    (s.freeSlot i).carriers = s.carriers ∧ (s.freeSlot i).codeGen = s.codeGen ∧ (s.freeSlot i).tariff =
    s.tariff ∧ (s.freeSlot i).seq = s.seq ∧ (s.freeSlot i).scanner = s.scanner ∧ (s.freeSlot i).engine =
    s.engine ∧ (s.freeSlot i).ports = s.ports ∧ (s.freeSlot i).limiter = s.limiter ∧ (s.freeSlot
    i).paidReturns = s.paidReturns ∧ (s.freeSlot i).sense = s.sense ∧ (s.freeSlot i).signals = s.signals ∧
    (s.freeSlot i).arbiterDue = s.arbiterDue ∧ (s.freeSlot i).asks = s.asks ∧ (s.freeSlot i).pending =
    s.pending :=
  ⟨rfl, rfl, rfl, rfl, rfl, rfl, rfl, rfl, rfl, rfl, rfl, rfl, rfl, rfl, rfl, rfl, rfl⟩

/-- What `setWindow` leaves as it was. -/
@[simp] theorem setWindow_frame (w : List WindowRecord) :
    (s.setWindow w).clock = s.clock ∧ (s.setWindow w).power = s.power ∧ (s.setWindow w).custody = s.custody ∧
    (s.setWindow w).carriers = s.carriers ∧ (s.setWindow w).codeGen = s.codeGen ∧ (s.setWindow w).tariff =
    s.tariff ∧ (s.setWindow w).charges = s.charges ∧ (s.setWindow w).seq = s.seq ∧ (s.setWindow w).scanner =
    s.scanner ∧ (s.setWindow w).ports = s.ports ∧ (s.setWindow w).limiter = s.limiter ∧ (s.setWindow
    w).paidReturns = s.paidReturns ∧ (s.setWindow w).sense = s.sense ∧ (s.setWindow w).signals = s.signals ∧
    (s.setWindow w).arbiterDue = s.arbiterDue ∧ (s.setWindow w).asks = s.asks ∧ (s.setWindow w).pending =
    s.pending :=
  ⟨rfl, rfl, rfl, rfl, rfl, rfl, rfl, rfl, rfl, rfl, rfl, rfl, rfl, rfl, rfl, rfl, rfl⟩

/-- What `putSlot` leaves as it was. -/
@[simp] theorem putSlot_frame (i : RingSlot) (x : Slot) :
    (s.putSlot i x).clock = s.clock ∧ (s.putSlot i x).power = s.power ∧ (s.putSlot i x).custody = s.custody ∧
    (s.putSlot i x).carriers = s.carriers ∧ (s.putSlot i x).codeGen = s.codeGen ∧ (s.putSlot i x).tariff =
    s.tariff ∧ (s.putSlot i x).charges = s.charges ∧ (s.putSlot i x).seq = s.seq ∧ (s.putSlot i x).scanner =
    s.scanner ∧ (s.putSlot i x).ports = s.ports ∧ (s.putSlot i x).limiter = s.limiter ∧ (s.putSlot i
    x).paidReturns = s.paidReturns ∧ (s.putSlot i x).sense = s.sense ∧ (s.putSlot i x).signals = s.signals ∧
    (s.putSlot i x).arbiterDue = s.arbiterDue ∧ (s.putSlot i x).asks = s.asks ∧ (s.putSlot i x).pending =
    s.pending :=
  ⟨rfl, rfl, rfl, rfl, rfl, rfl, rfl, rfl, rfl, rfl, rfl, rfl, rfl, rfl, rfl, rfl, rfl⟩

/-- What `setEngine` leaves as it was. -/
@[simp] theorem setEngine_frame (e : EngineState) :
    (s.setEngine e).clock = s.clock ∧ (s.setEngine e).power = s.power ∧ (s.setEngine e).custody = s.custody ∧
    (s.setEngine e).carriers = s.carriers ∧ (s.setEngine e).codeGen = s.codeGen ∧ (s.setEngine e).tariff =
    s.tariff ∧ (s.setEngine e).charges = s.charges ∧ (s.setEngine e).seq = s.seq ∧ (s.setEngine e).scanner =
    s.scanner ∧ (s.setEngine e).ports = s.ports ∧ (s.setEngine e).limiter = s.limiter ∧ (s.setEngine
    e).paidReturns = s.paidReturns ∧ (s.setEngine e).sense = s.sense ∧ (s.setEngine e).signals = s.signals ∧
    (s.setEngine e).arbiterDue = s.arbiterDue ∧ (s.setEngine e).asks = s.asks ∧ (s.setEngine e).pending =
    s.pending :=
  ⟨rfl, rfl, rfl, rfl, rfl, rfl, rfl, rfl, rfl, rfl, rfl, rfl, rfl, rfl, rfl, rfl, rfl⟩

/-- What `setPointer` leaves as it was. -/
@[simp] theorem setPointer_frame (i : RingSlot) :
    (s.setPointer i).clock = s.clock ∧ (s.setPointer i).power = s.power ∧ (s.setPointer i).custody = s.custody
    ∧ (s.setPointer i).carriers = s.carriers ∧ (s.setPointer i).codeGen = s.codeGen ∧ (s.setPointer i).tariff
    = s.tariff ∧ (s.setPointer i).charges = s.charges ∧ (s.setPointer i).seq = s.seq ∧ (s.setPointer
    i).scanner = s.scanner ∧ (s.setPointer i).ports = s.ports ∧ (s.setPointer i).limiter = s.limiter ∧
    (s.setPointer i).paidReturns = s.paidReturns ∧ (s.setPointer i).sense = s.sense ∧ (s.setPointer i).signals
    = s.signals ∧ (s.setPointer i).arbiterDue = s.arbiterDue ∧ (s.setPointer i).asks = s.asks ∧ (s.setPointer
    i).pending = s.pending :=
  ⟨rfl, rfl, rfl, rfl, rfl, rfl, rfl, rfl, rfl, rfl, rfl, rfl, rfl, rfl, rfl, rfl, rfl⟩

/-- What `enterStopped` leaves as it was. -/
@[simp] theorem enterStopped_frame :
    (s.enterStopped).clock = s.clock ∧ (s.enterStopped).power = s.power ∧ (s.enterStopped).custody = s.custody
    ∧ (s.enterStopped).carriers = s.carriers ∧ (s.enterStopped).codeGen = s.codeGen ∧ (s.enterStopped).tariff
    = s.tariff ∧ (s.enterStopped).charges = s.charges ∧ (s.enterStopped).seq = s.seq ∧
    (s.enterStopped).scanner = s.scanner ∧ (s.enterStopped).ports = s.ports ∧ (s.enterStopped).limiter =
    s.limiter ∧ (s.enterStopped).paidReturns = s.paidReturns ∧ (s.enterStopped).sense = s.sense ∧
    (s.enterStopped).signals = s.signals ∧ (s.enterStopped).arbiterDue = s.arbiterDue ∧ (s.enterStopped).asks
    = s.asks ∧ (s.enterStopped).pending = s.pending :=
  ⟨rfl, rfl, rfl, rfl, rfl, rfl, rfl, rfl, rfl, rfl, rfl, rfl, rfl, rfl, rfl, rfl, rfl⟩

/-- What `putCarrier` leaves as it was. -/
@[simp] theorem putCarrier_frame (i : Fin 8) (e : CarrierEntry) :
    (s.putCarrier i e).clock = s.clock ∧ (s.putCarrier i e).power = s.power ∧ (s.putCarrier i e).custody =
    s.custody ∧ (s.putCarrier i e).codeGen = s.codeGen ∧ (s.putCarrier i e).tariff = s.tariff ∧ (s.putCarrier
    i e).charges = s.charges ∧ (s.putCarrier i e).seq = s.seq ∧ (s.putCarrier i e).scanner = s.scanner ∧
    (s.putCarrier i e).engine = s.engine ∧ (s.putCarrier i e).ports = s.ports ∧ (s.putCarrier i e).limiter =
    s.limiter ∧ (s.putCarrier i e).paidReturns = s.paidReturns ∧ (s.putCarrier i e).sense = s.sense ∧
    (s.putCarrier i e).signals = s.signals ∧ (s.putCarrier i e).arbiterDue = s.arbiterDue ∧ (s.putCarrier i
    e).asks = s.asks ∧ (s.putCarrier i e).pending = s.pending :=
  ⟨rfl, rfl, rfl, rfl, rfl, rfl, rfl, rfl, rfl, rfl, rfl, rfl, rfl, rfl, rfl, rfl, rfl⟩

/-- What `raiseLive` leaves as it was. -/
@[simp] theorem raiseLive_frame (i : Fin 8) (n : Nat) :
    (s.raiseLive i n).clock = s.clock ∧ (s.raiseLive i n).power = s.power ∧ (s.raiseLive i n).custody =
    s.custody ∧ (s.raiseLive i n).codeGen = s.codeGen ∧ (s.raiseLive i n).tariff = s.tariff ∧ (s.raiseLive i
    n).charges = s.charges ∧ (s.raiseLive i n).seq = s.seq ∧ (s.raiseLive i n).scanner = s.scanner ∧
    (s.raiseLive i n).engine = s.engine ∧ (s.raiseLive i n).ports = s.ports ∧ (s.raiseLive i n).limiter =
    s.limiter ∧ (s.raiseLive i n).paidReturns = s.paidReturns ∧ (s.raiseLive i n).sense = s.sense ∧
    (s.raiseLive i n).signals = s.signals ∧ (s.raiseLive i n).arbiterDue = s.arbiterDue ∧ (s.raiseLive i
    n).asks = s.asks ∧ (s.raiseLive i n).pending = s.pending :=
  ⟨rfl, rfl, rfl, rfl, rfl, rfl, rfl, rfl, rfl, rfl, rfl, rfl, rfl, rfl, rfl, rfl, rfl⟩

/-- What `lowerLive` leaves as it was. -/
@[simp] theorem lowerLive_frame (i : Fin 8) :
    (s.lowerLive i).clock = s.clock ∧ (s.lowerLive i).power = s.power ∧ (s.lowerLive i).custody = s.custody ∧
    (s.lowerLive i).codeGen = s.codeGen ∧ (s.lowerLive i).tariff = s.tariff ∧ (s.lowerLive i).charges =
    s.charges ∧ (s.lowerLive i).seq = s.seq ∧ (s.lowerLive i).scanner = s.scanner ∧ (s.lowerLive i).engine =
    s.engine ∧ (s.lowerLive i).ports = s.ports ∧ (s.lowerLive i).limiter = s.limiter ∧ (s.lowerLive
    i).paidReturns = s.paidReturns ∧ (s.lowerLive i).sense = s.sense ∧ (s.lowerLive i).signals = s.signals ∧
    (s.lowerLive i).arbiterDue = s.arbiterDue ∧ (s.lowerLive i).asks = s.asks ∧ (s.lowerLive i).pending =
    s.pending :=
  ⟨rfl, rfl, rfl, rfl, rfl, rfl, rfl, rfl, rfl, rfl, rfl, rfl, rfl, rfl, rfl, rfl, rfl⟩

/-- What `unlist` leaves as it was. -/
@[simp] theorem unlist_frame (n : RecordNo) :
    (s.unlist n).clock = s.clock ∧ (s.unlist n).power = s.power ∧ (s.unlist n).carriers = s.carriers ∧
    (s.unlist n).codeGen = s.codeGen ∧ (s.unlist n).tariff = s.tariff ∧ (s.unlist n).charges = s.charges ∧
    (s.unlist n).seq = s.seq ∧ (s.unlist n).scanner = s.scanner ∧ (s.unlist n).engine = s.engine ∧ (s.unlist
    n).ports = s.ports ∧ (s.unlist n).limiter = s.limiter ∧ (s.unlist n).sense = s.sense ∧ (s.unlist
    n).signals = s.signals ∧ (s.unlist n).arbiterDue = s.arbiterDue ∧ (s.unlist n).asks = s.asks ∧ (s.unlist
    n).pending = s.pending :=
  ⟨rfl, rfl, rfl, rfl, rfl, rfl, rfl, rfl, rfl, rfl, rfl, rfl, rfl, rfl, rfl, rfl⟩

/-- What `putMasks` leaves as it was. -/
@[simp] theorem putMasks_frame (m : CondSet) :
    (s.putMasks m).clock = s.clock ∧ (s.putMasks m).power = s.power ∧ (s.putMasks m).custody = s.custody ∧
    (s.putMasks m).carriers = s.carriers ∧ (s.putMasks m).codeGen = s.codeGen ∧ (s.putMasks m).charges =
    s.charges ∧ (s.putMasks m).seq = s.seq ∧ (s.putMasks m).scanner = s.scanner ∧ (s.putMasks m).engine =
    s.engine ∧ (s.putMasks m).ports = s.ports ∧ (s.putMasks m).limiter = s.limiter ∧ (s.putMasks
    m).paidReturns = s.paidReturns ∧ (s.putMasks m).sense = s.sense ∧ (s.putMasks m).signals = s.signals ∧
    (s.putMasks m).arbiterDue = s.arbiterDue ∧ (s.putMasks m).asks = s.asks ∧ (s.putMasks m).pending =
    s.pending :=
  ⟨rfl, rfl, rfl, rfl, rfl, rfl, rfl, rfl, rfl, rfl, rfl, rfl, rfl, rfl, rfl, rfl, rfl⟩

/-- What `addSticky` leaves as it was. -/
@[simp] theorem addSticky_frame (m : CondSet) :
    (s.addSticky m).clock = s.clock ∧ (s.addSticky m).power = s.power ∧ (s.addSticky m).custody = s.custody ∧
    (s.addSticky m).carriers = s.carriers ∧ (s.addSticky m).codeGen = s.codeGen ∧ (s.addSticky m).charges =
    s.charges ∧ (s.addSticky m).seq = s.seq ∧ (s.addSticky m).scanner = s.scanner ∧ (s.addSticky m).engine =
    s.engine ∧ (s.addSticky m).ports = s.ports ∧ (s.addSticky m).limiter = s.limiter ∧ (s.addSticky
    m).paidReturns = s.paidReturns ∧ (s.addSticky m).sense = s.sense ∧ (s.addSticky m).signals = s.signals ∧
    (s.addSticky m).arbiterDue = s.arbiterDue ∧ (s.addSticky m).asks = s.asks ∧ (s.addSticky m).pending =
    s.pending :=
  ⟨rfl, rfl, rfl, rfl, rfl, rfl, rfl, rfl, rfl, rfl, rfl, rfl, rfl, rfl, rfl, rfl, rfl⟩

/-- What `clearSticky` leaves as it was. -/
@[simp] theorem clearSticky_frame (m : CondSet) :
    (s.clearSticky m).clock = s.clock ∧ (s.clearSticky m).power = s.power ∧ (s.clearSticky m).custody =
    s.custody ∧ (s.clearSticky m).carriers = s.carriers ∧ (s.clearSticky m).codeGen = s.codeGen ∧
    (s.clearSticky m).charges = s.charges ∧ (s.clearSticky m).seq = s.seq ∧ (s.clearSticky m).scanner =
    s.scanner ∧ (s.clearSticky m).engine = s.engine ∧ (s.clearSticky m).ports = s.ports ∧ (s.clearSticky
    m).limiter = s.limiter ∧ (s.clearSticky m).paidReturns = s.paidReturns ∧ (s.clearSticky m).sense = s.sense
    ∧ (s.clearSticky m).signals = s.signals ∧ (s.clearSticky m).arbiterDue = s.arbiterDue ∧ (s.clearSticky
    m).asks = s.asks ∧ (s.clearSticky m).pending = s.pending :=
  ⟨rfl, rfl, rfl, rfl, rfl, rfl, rfl, rfl, rfl, rfl, rfl, rfl, rfl, rfl, rfl, rfl, rfl⟩

/-- What `wrongAttempt` leaves as it was. -/
@[simp] theorem wrongAttempt_frame :
    (s.wrongAttempt).clock = s.clock ∧ (s.wrongAttempt).power = s.power ∧ (s.wrongAttempt).custody = s.custody
    ∧ (s.wrongAttempt).carriers = s.carriers ∧ (s.wrongAttempt).codeGen = s.codeGen ∧ (s.wrongAttempt).tariff
    = s.tariff ∧ (s.wrongAttempt).charges = s.charges ∧ (s.wrongAttempt).seq = s.seq ∧
    (s.wrongAttempt).scanner = s.scanner ∧ (s.wrongAttempt).engine = s.engine ∧ (s.wrongAttempt).ports =
    s.ports ∧ (s.wrongAttempt).paidReturns = s.paidReturns ∧ (s.wrongAttempt).sense = s.sense ∧
    (s.wrongAttempt).signals = s.signals ∧ (s.wrongAttempt).arbiterDue = s.arbiterDue ∧ (s.wrongAttempt).asks
    = s.asks ∧ (s.wrongAttempt).pending = s.pending :=
  ⟨rfl, rfl, rfl, rfl, rfl, rfl, rfl, rfl, rfl, rfl, rfl, rfl, rfl, rfl, rfl, rfl, rfl⟩

/-- What `knownAttempt` leaves as it was. -/
@[simp] theorem knownAttempt_frame :
    (s.knownAttempt).clock = s.clock ∧ (s.knownAttempt).power = s.power ∧ (s.knownAttempt).custody = s.custody
    ∧ (s.knownAttempt).carriers = s.carriers ∧ (s.knownAttempt).codeGen = s.codeGen ∧ (s.knownAttempt).tariff
    = s.tariff ∧ (s.knownAttempt).charges = s.charges ∧ (s.knownAttempt).seq = s.seq ∧
    (s.knownAttempt).scanner = s.scanner ∧ (s.knownAttempt).engine = s.engine ∧ (s.knownAttempt).ports =
    s.ports ∧ (s.knownAttempt).paidReturns = s.paidReturns ∧ (s.knownAttempt).sense = s.sense ∧
    (s.knownAttempt).signals = s.signals ∧ (s.knownAttempt).arbiterDue = s.arbiterDue ∧ (s.knownAttempt).asks
    = s.asks ∧ (s.knownAttempt).pending = s.pending :=
  ⟨rfl, rfl, rfl, rfl, rfl, rfl, rfl, rfl, rfl, rfl, rfl, rfl, rfl, rfl, rfl, rfl, rfl⟩

/-- What `setPfail` leaves as it was. -/
@[simp] theorem setPfail_frame (b : Bool) :
    (s.setPfail b).clock = s.clock ∧ (s.setPfail b).custody = s.custody ∧ (s.setPfail b).carriers = s.carriers
    ∧ (s.setPfail b).codeGen = s.codeGen ∧ (s.setPfail b).tariff = s.tariff ∧ (s.setPfail b).charges =
    s.charges ∧ (s.setPfail b).seq = s.seq ∧ (s.setPfail b).scanner = s.scanner ∧ (s.setPfail b).engine =
    s.engine ∧ (s.setPfail b).ports = s.ports ∧ (s.setPfail b).limiter = s.limiter ∧ (s.setPfail
    b).paidReturns = s.paidReturns ∧ (s.setPfail b).sense = s.sense ∧ (s.setPfail b).signals = s.signals ∧
    (s.setPfail b).arbiterDue = s.arbiterDue ∧ (s.setPfail b).asks = s.asks ∧ (s.setPfail b).pending =
    s.pending :=
  ⟨rfl, rfl, rfl, rfl, rfl, rfl, rfl, rfl, rfl, rfl, rfl, rfl, rfl, rfl, rfl, rfl, rfl⟩

/-- What `timed` leaves as it was. -/
@[simp] theorem timed_frame (sel : BitVec 16) (v : TimingFields) :
    (s.timed sel v).clock = s.clock ∧ (s.timed sel v).power = s.power ∧ (s.timed sel v).custody = s.custody ∧
    (s.timed sel v).carriers = s.carriers ∧ (s.timed sel v).codeGen = s.codeGen ∧ (s.timed sel v).tariff =
    s.tariff ∧ (s.timed sel v).charges = s.charges ∧ (s.timed sel v).engine = s.engine ∧ (s.timed sel v).ports
    = s.ports ∧ (s.timed sel v).limiter = s.limiter ∧ (s.timed sel v).paidReturns = s.paidReturns ∧ (s.timed
    sel v).sense = s.sense ∧ (s.timed sel v).signals = s.signals ∧ (s.timed sel v).arbiterDue = s.arbiterDue ∧
    (s.timed sel v).asks = s.asks ∧ (s.timed sel v).pending = s.pending :=
  ⟨rfl, rfl, rfl, rfl, rfl, rfl, rfl, rfl, rfl, rfl, rfl, rfl, rfl, rfl, rfl, rfl⟩

/-- What `setKey` leaves as it was. -/
@[simp] theorem setKey_frame (b : Bool) :
    (s.setKey b).clock = s.clock ∧ (s.setKey b).power = s.power ∧ (s.setKey b).custody = s.custody ∧ (s.setKey
    b).carriers = s.carriers ∧ (s.setKey b).codeGen = s.codeGen ∧ (s.setKey b).tariff = s.tariff ∧ (s.setKey
    b).charges = s.charges ∧ (s.setKey b).scanner = s.scanner ∧ (s.setKey b).engine = s.engine ∧ (s.setKey
    b).ports = s.ports ∧ (s.setKey b).limiter = s.limiter ∧ (s.setKey b).paidReturns = s.paidReturns ∧
    (s.setKey b).sense = s.sense ∧ (s.setKey b).signals = s.signals ∧ (s.setKey b).arbiterDue = s.arbiterDue ∧
    (s.setKey b).asks = s.asks ∧ (s.setKey b).pending = s.pending :=
  ⟨rfl, rfl, rfl, rfl, rfl, rfl, rfl, rfl, rfl, rfl, rfl, rfl, rfl, rfl, rfl, rfl, rfl⟩

end Sys2Proof.Machine
end

