-- ==== Sys2Proof/Laws/Tables.lean ====
section
/-! SUPPORT. What is read from a table after one of its entries has been replaced. -/

namespace Sys2Proof.Machine

variable (s : State)

@[simp] theorem put_get_same {α : Type} {n : Nat} (v : Vector α n) (i : Fin n) (x : α) : (put v i x).get i = x := by
  show (v.set i.val x i.isLt)[i.val] = x
  simp

theorem put_get_other {α : Type} {n : Nat} (v : Vector α n) (i j : Fin n) (x : α) (h : j ≠ i) :
    (put v i x).get j = v.get j := by
  have : i.val ≠ j.val := fun e => h (Fin.ext e.symm)
  show (v.set i.val x i.isLt)[j.val] = v[j.val]
  simp [this]

@[simp] theorem putEntry_entry_same (c : Comp) (e : CompartmentEntry) : (s.putEntry c e).entry c = e :=
  put_get_same ..

theorem putEntry_entry_other (c d : Comp) (e : CompartmentEntry) (h : d ≠ c) :
    (s.putEntry c e).entry d = s.entry d := put_get_other _ _ _ _ h

/-- A compartment entry that is written is the one read, whatever the sequencer is told (R163). -/
@[simp] theorem setEntry_entry_same (c : Comp) (e : CompartmentEntry) : (s.setEntry c e).entry c = e := by
  unfold State.setEntry; split
  · exact putEntry_entry_same s c e
  · exact putEntry_entry_same s c e

theorem setEntry_entry_other (c d : Comp) (e : CompartmentEntry) (h : d ≠ c) :
    (s.setEntry c e).entry d = s.entry d := by
  unfold State.setEntry; split
  · exact putEntry_entry_other s c d e h
  · exact putEntry_entry_other s c d e h

@[simp] theorem setCustody_state (c : Comp) (st : CustodyState) : (s.setCustody c st).custodyState c = st := by
  simp [State.setCustody, State.custodyState]

@[simp] theorem putRecord_record_same (r : RecordNo) (k : Option Consignment) : (s.putRecord r k).record r = k :=
  put_get_same ..

@[simp] theorem putColumn_column_same (c : Column) (st : ColumnState) : (s.putColumn c st).column c = st :=
  put_get_same ..

theorem putColumn_column_other (c d : Column) (st : ColumnState) (h : d ≠ c) :
    (s.putColumn c st).column d = s.column d := put_get_other _ _ _ _ h

/-- A column's state after a change of it (R149). -/
@[simp] theorem setColumn_column_same (c : Column) (st : ColumnState) : (s.setColumn c st).column c = st := by
  have h : (s.putColumn c st).markArbiter.column c = st := putColumn_column_same s c st
  unfold State.setColumn State.tellScanner; split <;> exact h

@[simp] theorem setDoor_door_same (c : Comp) (d : Option Door) : (s.setDoor c d).door c = d := put_get_same ..

theorem setDoor_door_other (c e : Comp) (d : Option Door) (h : e ≠ c) : (s.setDoor c d).door e = s.door e :=
  put_get_other _ _ _ _ h

@[simp] theorem putCharge_charge_same (i : ChargeSlot) (r : ChargeRecord) : (s.putCharge i r).charge i = r :=
  put_get_same ..

@[simp] theorem putSlot_slot_same (i : RingSlot) (x : Slot) : (s.putSlot i x).slot i = x := put_get_same ..

@[simp] theorem putPort_port_same (p : Fin 4) (u : PortUnit) : (s.putPort p u).port p = u := put_get_same ..

theorem putPort_port_other (p q : Fin 4) (u : PortUnit) (h : q ≠ p) : (s.putPort p u).port q = s.port q :=
  put_get_other _ _ _ _ h

/-- A port unit after a change of it. -/
@[simp] theorem onPort_port_same (p : Fin 4) (f : PortUnit → PortUnit) : (s.onPort p f).port p = f (s.port p) :=
  putPort_port_same ..

theorem onPort_port_other (p q : Fin 4) (f : PortUnit → PortUnit) (h : q ≠ p) : (s.onPort p f).port q = s.port q :=
  putPort_port_other _ _ _ _ h

end Sys2Proof.Machine
end

