-- ==== Sys2Proof/Laws/Inner.lean ====
section
/-! SUPPORT. What a consequence inside a step can do to the parts of the state that only commands of their own change:
`Inner s t` says that the clock, the power marks, the tariff unit, the limiter, the waiting commands and the timing
settings are those of s, that each port has only gained notices at the end of its queue, and that the release queue and
the in-flight set have kept their bounds, with one entry at most for a compartment. Each shared operation has one
lemma, in the form that a chain of operations is worked from its last. -/

namespace Sys2Proof.Machine

theorem PortGrew.refl (u : PortUnit) : PortGrew u u :=
  ⟨rfl, rfl, rfl, rfl, rfl, List.prefix_rfl, id, id⟩

theorem PortGrew.trans {u v w : PortUnit} (a : PortGrew u v) (b : PortGrew v w) : PortGrew u w :=
  ⟨b.role.trans a.role, b.rate.trans a.rate, b.receiving.trans a.receiving, b.busy.trans a.busy,
    b.sending.trans a.sending, a.queue.trans b.queue, b.bound ∘ a.bound, b.overflow ∘ a.overflow⟩

/-- A posted notice joins the end of the queue, or sets the overflow mark (R205). -/
theorem PortGrew.post (u : PortUnit) (n : Notice) : PortGrew u (u.post n) := by
  unfold PortUnit.post
  split
  · exact ⟨rfl, rfl, rfl, rfl, rfl, List.prefix_append .., fun _ => by simp; omega, id⟩
  · exact ⟨rfl, rfl, rfl, rfl, rfl, List.prefix_rfl, id, fun _ => rfl⟩

theorem CarrierKept.refl (e : CarrierEntry) : CarrierKept e e := ⟨rfl, rfl, rfl, rfl, rfl, rfl, rfl⟩

theorem CarrierKept.trans {d e f : CarrierEntry} (a : CarrierKept d e) (b : CarrierKept e f) : CarrierKept d f :=
  ⟨b.id.trans a.id, b.enabled.trans a.enabled, b.rights.trans a.rights, b.sizes.trans a.sizes,
    b.tariffClass.trans a.tariffClass, b.mode.trans a.mode, b.quota.trans a.quota⟩

/-- What a consequence inside a step can do to the parts that only commands of their own change. -/
structure Inner (s t : State) : Prop where
  clock : t.clock = s.clock
  power : t.power = s.power
  tariff : t.tariff = s.tariff
  limiter : t.limiter = s.limiter
  pending : t.pending = s.pending
  budget : t.seq.budget = s.seq.budget
  pulse : t.seq.pulseLength = s.seq.pulseLength
  key : t.seq.svcKey = s.seq.svcKey
  window : t.scanner.openWindow = s.scanner.openWindow
  ajar : t.scanner.ajarTime = s.scanner.ajarTime
  ports : ∀ p, PortGrew (s.port p) (t.port p)
  queue : s.seq.queue.length ≤ Config.queueCap → t.seq.queue.length ≤ Config.queueCap
  flying : t.flying.length ≤ max s.flying.length s.seq.budget
  carriers : ∀ i, CarrierKept (s.carriers.get i) (t.carriers.get i)
  distinct : (s.seq.queue.map Entry.comp).Nodup → (t.seq.queue.map Entry.comp).Nodup

theorem Inner.refl (s : State) : Inner s s :=
  ⟨rfl, rfl, rfl, rfl, rfl, rfl, rfl, rfl, rfl, rfl, fun _ => PortGrew.refl _, id, le_max_left ..,
    fun _ => CarrierKept.refl _, id⟩

theorem Inner.trans {s t u : State} (a : Inner s t) (b : Inner t u) : Inner s u :=
  ⟨b.clock.trans a.clock, b.power.trans a.power, b.tariff.trans a.tariff, b.limiter.trans a.limiter,
    b.pending.trans a.pending, b.budget.trans a.budget, b.pulse.trans a.pulse, b.key.trans a.key,
    b.window.trans a.window, b.ajar.trans a.ajar, fun p => (a.ports p).trans (b.ports p), b.queue ∘ a.queue,
    (b.flying).trans (by rw [a.budget]; exact max_le a.flying (le_max_right ..)),
    fun i => (a.carriers i).trans (b.carriers i), b.distinct ∘ a.distinct⟩

variable {s t : State}

/-- A change of other blocks alone. -/
theorem Inner.of_eq (h : Inner s t) {u : State} (clock : u.clock = t.clock) (power : u.power = t.power)
    (tariff : u.tariff = t.tariff) (limiter : u.limiter = t.limiter) (pending : u.pending = t.pending)
    (ports : u.ports = t.ports) (seq : u.seq = t.seq) (window : u.scanner.openWindow = t.scanner.openWindow)
    (ajar : u.scanner.ajarTime = t.scanner.ajarTime)
    (carriers : u.carriers = t.carriers := by rfl) : Inner s u :=
  h.trans ⟨clock, power, tariff, limiter, pending, by rw [seq], by rw [seq], by rw [seq], window, ajar,
    fun p => by unfold State.port; rw [ports]; exact PortGrew.refl _, by rw [seq]; exact id,
    by unfold State.flying; rw [seq]; exact le_max_left ..,
    fun _ => by rw [carriers]; exact CarrierKept.refl _, by rw [seq]; exact id⟩

/-- A change of the sequencer that drops entries at most, and changes none of its settings. -/
theorem Inner.of_seq (h : Inner s t) {u : State} (clock : u.clock = t.clock) (power : u.power = t.power)
    (tariff : u.tariff = t.tariff) (limiter : u.limiter = t.limiter) (pending : u.pending = t.pending)
    (ports : u.ports = t.ports) (scanner : u.scanner = t.scanner) (budget : u.seq.budget = t.seq.budget)
    (pulse : u.seq.pulseLength = t.seq.pulseLength) (key : u.seq.svcKey = t.seq.svcKey)
    (queue : u.seq.queue.Sublist t.seq.queue)
    (carriers : u.carriers = t.carriers := by rfl) : Inner s u :=
  h.trans ⟨clock, power, tariff, limiter, pending, budget, pulse, key, by rw [scanner], by rw [scanner],
    fun p => by unfold State.port; rw [ports]; exact PortGrew.refl _, fun hb => queue.length_le.trans hb,
    (queue.filter _).length_le.trans (le_max_left ..),
    fun _ => by rw [carriers]; exact CarrierKept.refl _,
    fun hn => (queue.map _).nodup hn⟩

/-- A fold of such changes. -/
theorem Inner.foldl {α : Type} (f : State → α → State) (hf : ∀ u x, Inner s u → Inner s (f u x)) :
    ∀ (l : List α) (u : State), Inner s u → Inner s (l.foldl f u)
  | [], _, h => h
  | x :: l, u, h => Inner.foldl f hf l (f u x) (hf u x h)

/-! ### Single updates -/

@[simp] theorem Inner.emit (g : Signal) (h : Inner s t) : Inner s (t.emit g) :=
  h.of_eq rfl rfl rfl rfl rfl rfl rfl rfl rfl
@[simp] theorem Inner.markArbiter (h : Inner s t) : Inner s t.markArbiter :=
  h.of_eq rfl rfl rfl rfl rfl rfl rfl rfl rfl
@[simp] theorem Inner.begin (h : Inner s t) : Inner s t.begin :=
  h.of_eq rfl rfl rfl rfl rfl rfl rfl rfl rfl
@[simp] theorem Inner.putEntry (c : Comp) (e : CompartmentEntry) (h : Inner s t) : Inner s (t.putEntry c e) :=
  h.of_eq rfl rfl rfl rfl rfl rfl rfl rfl rfl
@[simp] theorem Inner.updHolding (c : Comp) (f : Holding → Holding) (h : Inner s t) : Inner s (t.updHolding c f) :=
  h.of_eq rfl rfl rfl rfl rfl rfl rfl rfl rfl
@[simp] theorem Inner.putRecord (r : RecordNo) (k : Option Consignment) (h : Inner s t) :
    Inner s (t.putRecord r k) := h.of_eq rfl rfl rfl rfl rfl rfl rfl rfl rfl
@[simp] theorem Inner.updRecord (r : RecordNo) (f : Consignment → Consignment) (h : Inner s t) :
    Inner s (t.updRecord r f) := h.of_eq rfl rfl rfl rfl rfl rfl rfl rfl rfl
@[simp] theorem Inner.setDoor (c : Comp) (d : Option Door) (h : Inner s t) : Inner s (t.setDoor c d) :=
  h.of_eq rfl rfl rfl rfl rfl rfl rfl rfl rfl
@[simp] theorem Inner.setBaseline (c : Comp) (p : Option BaselineSample) (h : Inner s t) :
    Inner s (t.setBaseline c p) :=
  h.of_eq rfl rfl rfl rfl rfl rfl rfl rfl rfl
@[simp] theorem Inner.setOwed (c : Column) (b : Bool) (h : Inner s t) : Inner s (t.setOwed c b) :=
  h.of_eq rfl rfl rfl rfl rfl rfl rfl rfl rfl
@[simp] theorem Inner.setPhase (p : SweepPhase) (h : Inner s t) : Inner s (t.setPhase p) :=
  h.of_eq rfl rfl rfl rfl rfl rfl rfl rfl rfl
@[simp] theorem Inner.sweepBegin (h : Inner s t) : Inner s t.sweepBegin :=
  h.of_eq rfl rfl rfl rfl rfl rfl rfl rfl rfl
@[simp] theorem Inner.latch (x : Sense) (h : Inner s t) : Inner s (t.latch x) :=
  h.of_eq rfl rfl rfl rfl rfl rfl rfl rfl rfl
@[simp] theorem Inner.putCharge (i : ChargeSlot) (r : ChargeRecord) (h : Inner s t) : Inner s (t.putCharge i r) :=
  h.of_eq rfl rfl rfl rfl rfl rfl rfl rfl rfl
@[simp] theorem Inner.setEnded (l : List ChargeSlot) (h : Inner s t) : Inner s (t.setEnded l) :=
  h.of_eq rfl rfl rfl rfl rfl rfl rfl rfl rfl
@[simp] theorem Inner.freeSlot (i : ChargeSlot) (h : Inner s t) : Inner s (t.freeSlot i) :=
  h.of_eq rfl rfl rfl rfl rfl rfl rfl rfl rfl
@[simp] theorem Inner.openIn (i : ChargeSlot) (n : RecordNo) (o k : Nat) (h : Inner s t) :
    Inner s (t.openIn i n o k) := h.of_eq rfl rfl rfl rfl rfl rfl rfl rfl rfl
@[simp] theorem Inner.setWindow (w : List WindowRecord) (h : Inner s t) : Inner s (t.setWindow w) :=
  h.of_eq rfl rfl rfl rfl rfl rfl rfl rfl rfl
@[simp] theorem Inner.putSlot (i : RingSlot) (x : Slot) (h : Inner s t) : Inner s (t.putSlot i x) :=
  h.of_eq rfl rfl rfl rfl rfl rfl rfl rfl rfl
@[simp] theorem Inner.setEngine (e : EngineState) (h : Inner s t) : Inner s (t.setEngine e) :=
  h.of_eq rfl rfl rfl rfl rfl rfl rfl rfl rfl
@[simp] theorem Inner.setPointer (i : RingSlot) (h : Inner s t) : Inner s (t.setPointer i) :=
  h.of_eq rfl rfl rfl rfl rfl rfl rfl rfl rfl
@[simp] theorem Inner.enterStopped (h : Inner s t) : Inner s t.enterStopped :=
  h.of_eq rfl rfl rfl rfl rfl rfl rfl rfl rfl
/-- A carrier entry replaced by one that differs in its live count at most (R50). -/
theorem Inner.putCarrier (i : Fin 8) (e : CarrierEntry) (he : CarrierKept (t.carriers.get i) e) (h : Inner s t) :
    Inner s (t.putCarrier i e) :=
  h.trans ⟨rfl, rfl, rfl, rfl, rfl, rfl, rfl, rfl, rfl, rfl, fun _ => PortGrew.refl _, id, le_max_left ..,
    fun j => by
      show CarrierKept (t.carriers.get j) ((put t.carriers i e).get j)
      by_cases hj : j = i
      · subst hj; rw [put_get_same]; exact he
      · rw [put_get_other _ _ _ _ hj]; exact CarrierKept.refl _, id⟩
@[simp] theorem Inner.raiseLive (i : Fin 8) (n : Nat) (h : Inner s t) : Inner s (t.raiseLive i n) :=
  h.putCarrier i _ ⟨rfl, rfl, rfl, rfl, rfl, rfl, rfl⟩
@[simp] theorem Inner.lowerLive (i : Fin 8) (h : Inner s t) : Inner s (t.lowerLive i) :=
  h.putCarrier i _ ⟨rfl, rfl, rfl, rfl, rfl, rfl, rfl⟩

@[simp] theorem Inner.putColumn (c : Column) (st : ColumnState) (h : Inner s t) : Inner s (t.putColumn c st) :=
  h.of_seq rfl rfl rfl rfl rfl rfl rfl rfl rfl rfl (List.Sublist.refl _)
@[simp] theorem Inner.setPending (l : List Comp) (h : Inner s t) : Inner s (t.setPending l) :=
  h.of_seq rfl rfl rfl rfl rfl rfl rfl rfl rfl rfl (List.Sublist.refl _)
@[simp] theorem Inner.dropEntry (c : Comp) (h : Inner s t) : Inner s (t.dropEntry c) :=
  h.of_seq rfl rfl rfl rfl rfl rfl rfl rfl rfl rfl List.filter_sublist
@[simp] theorem Inner.landed (c : Comp) (h : Inner s t) : Inner s (t.landed c) :=
  h.of_seq rfl rfl rfl rfl rfl rfl rfl rfl rfl rfl (List.Sublist.refl _)
@[simp] theorem Inner.departed (h : Inner s t) : Inner s t.departed :=
  h.of_eq rfl rfl rfl rfl rfl rfl rfl rfl rfl
@[simp] theorem Inner.leavesQueue (c : Comp) (h : Inner s t) : Inner s (t.leavesQueue c) := by
  unfold State.leavesQueue; exact ((h.dropEntry c).landed c).markArbiter

/-- Some port units take a posted notice (R205). -/
theorem Inner.postPorts (f : PortUnit → PortUnit) (hf : ∀ u, PortGrew u (f u)) (h : Inner s t) :
    Inner s { t with ports := t.ports.map f } :=
  h.trans ⟨rfl, rfl, rfl, rfl, rfl, rfl, rfl, rfl, rfl, rfl,
    fun p => by
      have e : ({ t with ports := t.ports.map f } : State).port p = f (t.port p) := by
        simp [State.port, Vector.get]
      rw [e]; exact hf _,
    id, le_max_left .., fun _ => CarrierKept.refl _, id⟩

/-- A posted notice (R205). -/
@[simp] theorem Inner.post (r : Role) (n : Notice) (h : Inner s t) : Inner s (t.post r n) :=
  h.postPorts _ fun u => by
    split
    · exact PortGrew.post ..
    · exact PortGrew.refl _

@[simp] theorem Inner.postBoth (a b : Role) (n : Notice) (h : Inner s t) : Inner s (t.postBoth a b n) := by
  unfold State.postBoth; split
  · exact h.post ..
  · exact (h.post ..).post ..

@[simp] theorem Inner.setEntry (c : Comp) (e : CompartmentEntry) (h : Inner s t) : Inner s (t.setEntry c e) := by
  unfold State.setEntry; split
  · exact (h.putEntry ..).emit _
  · exact h.putEntry ..

@[simp] theorem Inner.setCustody (c : Comp) (st : CustodyState) (h : Inner s t) : Inner s (t.setCustody c st) :=
  h.setEntry ..

@[simp] theorem Inner.tellScanner (c : Column) (h : Inner s t) : Inner s (t.tellScanner c) := by
  unfold State.tellScanner; split
  · exact h.emit _
  · exact h

@[simp] theorem Inner.setColumn (c : Column) (st : ColumnState) (h : Inner s t) : Inner s (t.setColumn c st) :=
  ((h.putColumn c st).markArbiter).tellScanner c

@[simp] theorem Inner.disarm (c : Column) (h : Inner s t) : Inner s (t.disarm c) := h.setColumn ..

end Sys2Proof.Machine
end

