-- ==== Sys2Proof/Laws/InnerCustody.lean ====
section
/-! SUPPORT. `Inner` for the operations of the queue, the charge table, the window and the custody table. -/

namespace Sys2Proof.Machine

variable {s t : State}

/-! ### The queue -/

@[simp] theorem Inner.disarmIfLast (c : Column) (h : Inner s t) : Inner s (t.disarmIfLast c) := by
  unfold State.disarmIfLast; repeat' split
  all_goals simp (maxDischargeDepth := 12) [h]

@[simp] theorem Inner.withdraw (c : Comp) (h : Inner s t) : Inner s (t.withdraw c) := by
  unfold State.withdraw; split
  · exact (((h.dropEntry c).departed).disarmIfLast _)
  all_goals exact h

@[simp] theorem Inner.columnAfterPulse (c : Column) (h : Inner s t) : Inner s (t.columnAfterPulse c) := by
  unfold State.columnAfterPulse; repeat' split
  all_goals simp (maxDischargeDepth := 12) [h]

/-- An entry joins a queue that has room (R146). -/
theorem Inner.join (e : Entry) (he : e.inFlight = false) (room : t.seq.queue.length < Config.queueCap)
    (new : t.hasEntry e.comp = false)
    (h : Inner s t) : Inner s (t.join e) :=
  h.trans ⟨rfl, rfl, rfl, rfl, rfl, rfl, rfl, rfl, rfl, rfl, fun _ => PortGrew.refl _,
    fun _ => by show (t.seq.queue ++ [e]).length ≤ _; simp; omega,
    by
      have : (t.join e).flying = t.flying := by
        show (t.seq.queue ++ [e]).filter (·.inFlight) = t.seq.queue.filter (·.inFlight)
        simp [he]
      rw [this]; exact le_max_left ..,
    fun _ => CarrierKept.refl _,
    fun hn => by
      show ((t.seq.queue ++ [e]).map Entry.comp).Nodup
      rw [List.map_append, List.nodup_append]
      refine ⟨hn, List.nodup_singleton _, ?_⟩
      intro a ha b hb hab
      simp only [List.map_cons, List.map_nil, List.mem_singleton] at hb
      obtain ⟨x, hx, rfl⟩ := List.mem_map.mp ha
      have := List.any_eq_false.mp new x hx
      simp [hab.trans hb] at this⟩

/-! ### The charge table -/

@[simp] theorem Inner.endCharge (i : ChargeSlot) (st : ChargeState) (c : Option EndCause) (m : Option Nat)
    (h : Inner s t) : Inner s (t.endCharge i st c m) := by
  unfold State.endCharge; dsimp only; split
  · exact (((h.putCharge ..).setEnded _).updRecord ..)
  · exact ((h.putCharge ..).setEnded _)

@[simp] theorem Inner.voidOpen (k : Consignment) (c : EndCause) (h : Inner s t) : Inner s (t.voidOpen k c) := by
  unfold State.voidOpen; repeat' split
  all_goals simp (maxDischargeDepth := 12) [h]

@[simp] theorem Inner.voidRetired (k : Consignment) (h : Inner s t) : Inner s (t.voidRetired k) := by
  unfold State.voidRetired; repeat' split
  all_goals simp (maxDischargeDepth := 12) [h]

/-! ### The window -/

@[simp] theorem Inner.reportDrop (n : RingSlot) (c : Comp) (o : Status) (m : Option Nat) (h : Inner s t) :
    Inner s (t.reportDrop n c o m) := (h.setWindow _).emit _

@[simp] theorem Inner.reportOrigin (o : Origin) (c : Comp) (st : Status) (m : Option Nat) (h : Inner s t) :
    Inner s (t.reportOrigin o c st m) := by
  unfold State.reportOrigin; split
  · exact h.reportDrop ..
  · exact h

@[simp] theorem Inner.reportClaim (c : Comp) (e : ClaimEnd) (h : Inner s t) : Inner s (t.reportClaim c e) :=
  (h.setWindow _).emit _

/-! ### The custody table -/

@[simp] theorem Inner.unlist (n : RecordNo) (h : Inner s t) : Inner s (t.unlist n) :=
  h.of_eq rfl rfl rfl rfl rfl rfl rfl rfl rfl

@[simp] theorem Inner.leaveRecord (n : RecordNo) (c : Comp) (h : Inner s t) : Inner s (t.leaveRecord n c) := by
  unfold State.leaveRecord; dsimp only; repeat' split
  all_goals simp (maxDischargeDepth := 12) [h]

@[simp] theorem Inner.removeHolding (c : Comp) (st : CustodyState) (k : Option OosCause) (h : Inner s t) :
    Inner s (t.removeHolding c st k) := by
  unfold State.removeHolding; split
  · exact h
  · exact (h.setEntry ..).leaveRecord ..

@[simp] theorem Inner.outOfService (c : Comp) (k : OosCause) (h : Inner s t) : Inner s (t.outOfService c k) :=
  h.setEntry ..

@[simp] theorem Inner.addCause (c : Comp) (k : ReviewCause) (h : Inner s t) : Inner s (t.addCause c k) :=
  h.updHolding ..

@[simp] theorem Inner.enterReview (c : Comp) (k : ReviewCause) (h : Inner s t) : Inner s (t.enterReview c k) :=
  (((h.updHolding ..).setCustody ..).post ..)

@[simp] theorem Inner.toRest (c : Comp) (h : Inner s t) : Inner s (t.toRest c) := by
  unfold State.toRest; split
  · exact ((h.updHolding ..).setCustody ..)
  · exact h

@[simp] theorem Inner.claim (c : Comp) (w : Claimant) (h : Inner s t) : Inner s (t.claim c w) :=
  ((h.updHolding ..).setCustody ..)

@[simp] theorem Inner.serviceDone (b : State) (c : Comp) (d : Detail) (h : Inner s t) :
    Inner s (t.serviceDone b c d) := h.post ..

@[simp] theorem Inner.lapse (c : Comp) (h : Inner s t) : Inner s (t.lapse c) := by
  unfold State.lapse; split <;> simp (maxDischargeDepth := 12) [h]

@[simp] theorem Inner.custodyOpened (c : Comp) (k : ReleaseClass) (h : Inner s t) :
    Inner s (t.custodyOpened c k) := by
  unfold State.custodyOpened; split <;> simp (maxDischargeDepth := 12) [h]

@[simp] theorem Inner.shutReleasing (c : Comp) (b : Bool) (h : Inner s t) : Inner s (t.shutReleasing c b) := by
  unfold State.shutReleasing; repeat' split
  all_goals simp (maxDischargeDepth := 12) [h]

@[simp] theorem Inner.shutReserved (c : Comp) (b : Bool) (h : Inner s t) : Inner s (t.shutReserved c b) := by
  unfold State.shutReserved; dsimp only; split <;> simp (maxDischargeDepth := 12) [h]

@[simp] theorem Inner.custodyWindowShut (c : Comp) (k : ReleaseClass) (b : Bool) (h : Inner s t) :
    Inner s (t.custodyWindowShut c k b) := by
  unfold State.custodyWindowShut; repeat' split
  all_goals simp (maxDischargeDepth := 12) [h]

@[simp] theorem Inner.foreignObject (c : Comp) (h : Inner s t) : Inner s (t.foreignObject c) :=
  (h.outOfService ..).post ..

@[simp] theorem Inner.missing (c : Comp) (h : Inner s t) : Inner s (t.missing c) := by
  unfold State.missing; dsimp only; split <;> simp (maxDischargeDepth := 12) [h]

@[simp] theorem Inner.inspect (c : Comp) (p : Presence) (h : Inner s t) : Inner s (t.inspect c p).1 := by
  unfold State.inspect; repeat' split
  all_goals simp (maxDischargeDepth := 12) [h]

@[simp] theorem Inner.custodyInspection (c : Comp) (p : Presence) (b : Bool) (h : Inner s t) :
    Inner s (t.custodyInspection c p b) := by
  unfold State.custodyInspection; dsimp only; split <;> simp (maxDischargeDepth := 12) [h]

@[simp] theorem Inner.depositDone (c : Comp) (x : Holding) (h : Inner s t) : Inner s (t.depositDone c x) := by
  unfold State.depositDone; dsimp only; split <;> simp (maxDischargeDepth := 12) [h]

@[simp] theorem Inner.depositEmpty (c : Comp) (x : Holding) (h : Inner s t) : Inner s (t.depositEmpty c x) := by
  unfold State.depositEmpty; split <;> simp (maxDischargeDepth := 12) [h]

@[simp] theorem Inner.removalDone (c : Comp) (x : Holding) (h : Inner s t) : Inner s (t.removalDone c x) := by
  unfold State.removalDone; dsimp only; split <;> simp (maxDischargeDepth := 12) [h]

@[simp] theorem Inner.removalIncomplete (c : Comp) (x : Holding) (h : Inner s t) :
    Inner s (t.removalIncomplete c x) := by
  unfold State.removalIncomplete; dsimp only; split <;> simp (maxDischargeDepth := 12) [h]

@[simp] theorem Inner.custodyClosure (c : Comp) (p : Presence) (k : OpeningKind) (h : Inner s t) :
    Inner s (t.custodyClosure c p k) := by
  unfold State.custodyClosure; repeat' split
  all_goals simp (maxDischargeDepth := 12) [h]

@[simp] theorem Inner.noteForced (c : Comp) (b : Bool) (h : Inner s t) : Inner s (t.noteForced c b) := h.post ..

@[simp] theorem Inner.forcedReserved (c : Comp) (x : Holding) (h : Inner s t) : Inner s (t.forcedReserved c x) := by
  unfold State.forcedReserved; dsimp only; split <;> simp (maxDischargeDepth := 12) [h]

@[simp] theorem Inner.forcedReleasing (c : Comp) (x : Holding) (h : Inner s t) :
    Inner s (t.forcedReleasing c x) := by
  unfold State.forcedReleasing; dsimp only; split <;> simp (maxDischargeDepth := 12) [h]

@[simp] theorem Inner.custodyForced (c : Comp) (h : Inner s t) : Inner s (t.custodyForced c) := by
  unfold State.custodyForced; split <;> simp (maxDischargeDepth := 12) [h]

@[simp] theorem Inner.failReserved (c : Comp) (f : Failure) (x : Holding) (h : Inner s t) :
    Inner s (t.failReserved c f x) := by
  unfold State.failReserved; cases f <;> simp (maxDischargeDepth := 12) [h]

@[simp] theorem Inner.failReleasing (c : Comp) (f : Failure) (x : Holding) (h : Inner s t) :
    Inner s (t.failReleasing c f x) := by
  unfold State.failReleasing; cases f <;> dsimp only <;> split <;> simp (maxDischargeDepth := 12) [h]

@[simp] theorem Inner.custodyFailed (c : Comp) (f : Failure) (h : Inner s t) : Inner s (t.custodyFailed c f) := by
  unfold State.custodyFailed; repeat' split
  all_goals simp (maxDischargeDepth := 12) [h]

@[simp] theorem Inner.dropReserved (c : Comp) (h : Inner s t) : Inner s (t.dropReserved c) := by
  unfold State.dropReserved; split <;> simp (maxDischargeDepth := 12) [h]

@[simp] theorem Inner.feeConditionPiece (c : Comp) (h : Inner s t) : Inner s (t.feeConditionPiece c) := by
  unfold State.feeConditionPiece; split <;> simp (maxDischargeDepth := 12) [h]

@[simp] theorem Inner.feeCondition (k : Consignment) (c : Option Comp) (x : CondSet) (d : Detail) (h : Inner s t) :
    Inner s (t.feeCondition k c x d) :=
  (Inner.foldl _ (fun _ _ hu => hu.feeConditionPiece _) _ _ h).post ..

@[simp] theorem Inner.scanOne (c : Comp) (h : Inner s t) : Inner s (t.scanOne c) := by
  unfold State.scanOne; dsimp only; repeat' split
  all_goals simp (maxDischargeDepth := 12) [h]

@[simp] theorem Inner.overstayScan (h : Inner s t) : Inner s t.overstayScan :=
  Inner.foldl _ (fun _ _ hu => hu.scanOne _) _ _ h

end Sys2Proof.Machine
end

