-- ==== Sys2Proof/Laws/InnerSequencer.lean ====
section
/-! SUPPORT. `Inner` for the operations of the sequencer. -/

namespace Sys2Proof.Machine

variable {s t : State}

@[simp] theorem Inner.failEntry (e : Entry) (f : Failure) (h : Inner s t) : Inner s (t.failEntry e f) :=
  (((h.custodyFailed ..).postBoth ..).departed)

/-- A request is taken only into a queue that has room (R146). -/
theorem requestAnswer_taken {c : Comp} (h : t.requestAnswer c = .taken) :
    t.hasEntry c = false ∧ t.seq.queue.length < Config.queueCap := by
  unfold State.requestAnswer at h
  split at h
  · cases h
  · split at h
    · cases h
    · rename_i a b; exact ⟨by simpa using a, by omega⟩

/-- A release request (R146). -/
theorem Inner.request (e : Entry) (he : e.inFlight = false) (h : Inner s t) : Inner s (t.request e) := by
  unfold State.request
  split
  · exact h
  · exact h
  · rename_i ha
    split
    · exact h.failEntry ..
    · exact h.join e he (requestAnswer_taken ha).2 (requestAnswer_taken ha).1

@[simp] theorem Inner.requestFresh (c : Comp) (k : EntryClass) (p : Purpose) (o : Role) (h : Inner s t) :
    Inner s (t.request (Entry.fresh c k p o)) := h.request _ rfl

@[simp] theorem Inner.pulseStarts (c : Column) (r : Nat) (h : Inner s t) : Inner s (t.pulseStarts c r) :=
  h.setColumn ..

@[simp] theorem Inner.doorReleased (c : Comp) (k : ReleaseClass) (h : Inner s t) : Inner s (t.doorReleased c k) := by
  unfold State.doorReleased; split
  · exact h.setDoor ..
  all_goals exact h

@[simp] theorem Inner.pulseGoodEnd (e : Entry) (h : Inner s t) : Inner s (t.pulseGoodEnd e) :=
  ((((h.leavesQueue _).doorReleased ..).departed).emit _)

/-- An entry of the queue that leaves it and is put at its head for a second attempt (R158). -/
theorem Inner.requeue (e : Entry) (he : e ∈ t.seq.queue) (h : Inner s t) :
    Inner s ((t.leavesQueue e.comp).setQueue ({ e with attempt := 2, inFlight := false } ::
      (t.leavesQueue e.comp).seq.queue)) := by
  refine h.trans ⟨rfl, rfl, rfl, rfl, rfl, rfl, rfl, rfl, rfl, rfl, fun _ => PortGrew.refl _, ?_, ?_,
    fun _ => CarrierKept.refl _, ?_⟩
  · intro hb
    have hl : (t.seq.queue.filter fun x => x.comp != e.comp).length < t.seq.queue.length := by
      apply lt_of_le_of_ne (List.length_filter_le _ _)
      intro hc
      have := (List.length_filter_eq_length_iff (p := fun x : Entry => x.comp != e.comp)).mp hc e he
      simp at this
    show (_ :: (t.seq.queue.filter fun x => x.comp != e.comp)).length ≤ _
    simp only [List.length_cons]; omega
  · have : ((t.leavesQueue e.comp).setQueue ({ e with attempt := 2, inFlight := false } ::
        (t.leavesQueue e.comp).seq.queue)).flying = (t.seq.queue.filter fun x => x.comp != e.comp).filter (·.inFlight) := by
      rfl
    rw [this]
    exact ((List.filter_sublist.filter _).length_le).trans (le_max_left ..)
  · intro hn
    show ((_ :: (t.seq.queue.filter fun x => x.comp != e.comp)).map Entry.comp).Nodup
    rw [List.map_cons, List.nodup_cons]
    refine ⟨?_, (List.filter_sublist.map _).nodup hn⟩
    intro hc
    obtain ⟨x, hx, hxc⟩ := List.mem_map.mp hc
    have := (List.mem_filter.mp hx).2
    simp [hxc] at this

theorem Inner.pulseOpenEnd (e : Entry) (he : e ∈ t.seq.queue) (h : Inner s t) : Inner s (t.pulseOpenEnd e) := by
  unfold State.pulseOpenEnd; dsimp only; split
  · exact (h.requeue e he).emit _
  · exact (((h.leavesQueue _).failEntry ..).emit _)

@[simp] theorem Inner.failColumn (c : Column) (h : Inner s t) : Inner s (t.failColumn c) :=
  Inner.foldl _ (fun _ _ hu => (hu.dropEntry _).failEntry ..) _ _ h

@[simp] theorem Inner.testResult (c : Comp) (d : Detail) (q : Option Detail) (h : Inner s t) :
    Inner s (t.testResult c d q) := h.post ..

@[simp] theorem Inner.pulseShortEnd (e : Entry) (h : Inner s t) : Inner s (t.pulseShortEnd e) :=
  ((((h.putColumn ..).leavesQueue _).failEntry ..).failColumn _).tellScanner _

@[simp] theorem Inner.testPulseEnd (e : Entry) (o : PulseOutcome) (h : Inner s t) : Inner s (t.testPulseEnd e o) := by
  unfold State.testPulseEnd; dsimp only; split <;> simp (maxDischargeDepth := 12) [h]

/-- Taking an entry marks one more entry in flight at most, and changes no other length (R155). -/
theorem passOver_length (p : Entry → Bool) (c : Comp) : ∀ q : List Entry, (passOver p c q).length = q.length
  | [] => rfl
  | e :: q => by
    unfold passOver
    split
    · rfl
    · simp [passOver_length p c q]

theorem passOver_flying (p : Entry → Bool) (c : Comp) : ∀ q : List Entry,
    ((passOver p c q).filter (·.inFlight)).length ≤ (q.filter (·.inFlight)).length + 1
  | [] => by simp [passOver]
  | e :: q => by
    have ih := passOver_flying p c q
    unfold passOver
    split
    · by_cases hi : e.inFlight = true <;> simp [hi]
    · simp only [List.filter_cons]
      by_cases hp : p e = true <;> by_cases hi : e.inFlight = true <;> simp [hp, hi] <;> omega

theorem passOver_comps (p : Entry → Bool) (c : Comp) : ∀ q : List Entry,
    (passOver p c q).map Entry.comp = q.map Entry.comp
  | [] => rfl
  | e :: q => by
    have ih := passOver_comps p c q
    unfold passOver
    split
    · rfl
    · by_cases hp : p e = true <;> simp [hp, ih]

/-- The arbiter takes an entry while the in-flight set is smaller than the coil budget (R153, R154). -/
theorem Inner.take (e : Entry) (room : t.flying.length < t.seq.budget) (h : Inner s t) : Inner s (t.take e) := by
  have base : ∀ f : List FlightEntry, Inner t { t with seq := { t.seq with
      queue := passOver (fun x => t.eligible x || t.heldByPairing x) e.comp t.seq.queue, flight := f } } := fun f =>
    ⟨rfl, rfl, rfl, rfl, rfl, rfl, rfl, rfl, rfl, rfl, fun _ => PortGrew.refl _,
      fun hb => by show (passOver _ _ t.seq.queue).length ≤ _; rw [passOver_length]; exact hb,
      le_trans (passOver_flying _ _ t.seq.queue) (le_trans room (le_max_right ..)),
      fun _ => CarrierKept.refl _,
      fun hn => by show ((passOver _ _ t.seq.queue).map Entry.comp).Nodup; rw [passOver_comps]; exact hn⟩
  refine h.trans ?_
  unfold State.take; dsimp only; split
  · exact (base _).pulseStarts ..
  all_goals exact (base _).setColumn ..

/-- What the arbiter chooses is eligible (R155). -/
theorem choice_eligible {e : Entry} (h : t.choice = some e) : t.eligible e = true := by
  unfold State.choice at h
  split at h
  · cases h
  · dsimp only at h
    split at h
    · rename_i hf; cases h; exact (List.mem_filter.mp (List.mem_of_find?_eq_some hf)).2
    · split at h
      · rename_i hf; cases h; exact (List.mem_filter.mp (List.mem_of_find?_eq_some hf)).2
      · exact (List.mem_filter.mp (List.mem_of_head? h)).2

/-- An eligible entry finds the in-flight set smaller than the coil budget (R154). -/
theorem eligible_room {e : Entry} (h : t.eligible e = true) : t.flying.length < t.seq.budget := by
  unfold State.eligible State.budgetOpen at h
  simp only [Bool.and_eq_true, decide_eq_true_eq] at h
  exact h.1.1.2.1

@[simp] theorem Inner.arbitrate : ∀ (n : Nat) (t : State), Inner s t → Inner s (State.arbitrate n t)
  | 0, _, h => h
  | n + 1, t, h => by
    unfold State.arbitrate
    split
    · exact h
    · rename_i e he; exact Inner.arbitrate n _ (h.take e (eligible_room (choice_eligible he)))

end Sys2Proof.Machine
end

