-- ==== Sys2Proof/Laws/Arbiter.lean ====
section
/-! SUPPORT. What the arbiter's choice and its taking of an entry do, said once (R153 to R155): the choice is a queued,
eligible entry; taking it puts one entry more in flight and leaves the coil budget. -/

namespace Sys2Proof.Machine

variable {s : State} {e : Entry}

/-- What the arbiter chooses is queued, and eligible (R155). -/
theorem choice_mem (h : s.choice = some e) : e ∈ s.seq.queue ∧ s.eligible e = true := by
  unfold State.choice at h
  split at h
  · cases h
  · dsimp only at h
    split at h
    · rename_i hf; cases h; exact List.mem_filter.mp (List.mem_of_find?_eq_some hf)
    · split at h
      · rename_i hf; cases h; exact List.mem_filter.mp (List.mem_of_find?_eq_some hf)
      · exact List.mem_filter.mp (List.mem_of_head? h)

/-- An eligible entry is not in flight (R154). -/
theorem eligible_queued (h : s.eligible e = true) : e.inFlight = false := by
  unfold State.eligible at h
  simp_all

/-- No entry is chosen while the in-flight set is as large as the coil budget (R154). -/
theorem choice_none_of_full (h : s.seq.budget ≤ s.flying.length) : s.choice = none := by
  by_contra hn
  obtain ⟨e, he⟩ := Option.ne_none_iff_exists'.mp hn
  exact absurd (eligible_room (choice_eligible he)) (Nat.not_lt.mpr h)

/-- A change of a column's state leaves the queue and the coil budget (R149). -/
@[simp] theorem setColumn_seq (col : Column) (st : ColumnState) :
    (s.setColumn col st).seq.queue = s.seq.queue ∧ (s.setColumn col st).seq.budget = s.seq.budget := by
  unfold State.setColumn State.tellScanner
  split <;> exact ⟨rfl, rfl⟩

/-- The queue and the coil budget after an entry is taken (R155, R156). -/
theorem take_seq (e : Entry) :
    (s.take e).seq.queue = passOver (fun x => s.eligible x || s.heldByPairing x) e.comp s.seq.queue ∧
    (s.take e).seq.budget = s.seq.budget := by
  unfold State.take
  dsimp only
  split <;> exact setColumn_seq _ _

/-- Where every compartment has one entry, the entry taken joins the entries in flight, and no other does (R155). -/
theorem passOver_flying_succ (counts : Entry → Bool) (e : Entry) : ∀ l : List Entry, e ∈ l → e.inFlight = false →
    (l.map Entry.comp).Nodup →
    ((passOver counts e.comp l).filter (·.inFlight)).length = (l.filter (·.inFlight)).length + 1
  | [], h, _, _ => by simp at h
  | x :: t, h, hf, hn => by
    unfold passOver
    by_cases hx : x.comp = e.comp
    · have same : x = e := by
        rcases List.mem_cons.mp h with rfl | later
        · rfl
        · simp at hn; exact absurd hx.symm (hn.1 e later)
      subst same
      simp [hf]
    · rw [if_neg hx]
      have later : e ∈ t := (List.mem_cons.mp h).resolve_left fun same => hx (by rw [same])
      have ih := passOver_flying_succ counts e t later hf (by simp at hn; exact hn.2)
      by_cases hi : x.inFlight = true <;> by_cases hc : counts x = true <;> simp [hi, hc, ih]

/-- What the arbiter chooses and takes is one entry more in flight, within the same budget (R153, R155). -/
theorem take_flying (hc : s.choice = some e) (ho : s.OneEntryEach) :
    (s.take e).flying.length = s.flying.length + 1 ∧ (s.take e).seq.budget = s.seq.budget ∧
    (s.take e).OneEntryEach := by
  obtain ⟨queued, eligible⟩ := choice_mem hc
  obtain ⟨queue, budget⟩ := take_seq (s := s) e
  refine ⟨?_, budget, ?_⟩
  · unfold State.flying
    rw [queue]
    exact passOver_flying_succ _ e _ queued (eligible_queued eligible) ho
  · unfold State.OneEntryEach
    rw [queue, passOver_comps]
    exact ho

end Sys2Proof.Machine
end

