-- ==== Sys2Proof/Laws/Custody.lean ====
section
/-! SUPPORT. What the operations of the custody table leave as it was: each changes the entry of its own compartment and no
other, and posts, reports and queues nothing but what its name says. -/

namespace Sys2Proof.Machine

variable (s : State)

/-! ### One entry -/

/-- A compartment entry that is written, with the change told to the sequencer (R163), leaves all but the custody
table. -/
@[simp] theorem setEntry_frame (c : Comp) (e : CompartmentEntry) :
    (s.setEntry c e).clock = s.clock ∧ (s.setEntry c e).power = s.power ∧ (s.setEntry c e).carriers = s.carriers ∧
    (s.setEntry c e).tariff = s.tariff ∧ (s.setEntry c e).charges = s.charges ∧ (s.setEntry c e).seq = s.seq ∧
    (s.setEntry c e).scanner = s.scanner ∧ (s.setEntry c e).engine = s.engine ∧ (s.setEntry c e).ports = s.ports ∧
    (s.setEntry c e).paidReturns = s.paidReturns ∧ (s.setEntry c e).custody.records = s.custody.records ∧
    (s.setEntry c e).custody.codeMap = s.custody.codeMap := by
  unfold State.setEntry; split <;> exact ⟨rfl, rfl, rfl, rfl, rfl, rfl, rfl, rfl, rfl, rfl, rfl, rfl⟩

/-- A change of custody state alone leaves all but the custody table. -/
@[simp] theorem setCustody_frame (c : Comp) (st : CustodyState) :
    (s.setCustody c st).clock = s.clock ∧ (s.setCustody c st).power = s.power ∧
    (s.setCustody c st).carriers = s.carriers ∧ (s.setCustody c st).tariff = s.tariff ∧
    (s.setCustody c st).charges = s.charges ∧ (s.setCustody c st).seq = s.seq ∧
    (s.setCustody c st).scanner = s.scanner ∧ (s.setCustody c st).engine = s.engine ∧
    (s.setCustody c st).ports = s.ports ∧ (s.setCustody c st).paidReturns = s.paidReturns ∧
    (s.setCustody c st).custody.records = s.custody.records ∧
    (s.setCustody c st).custody.codeMap = s.custody.codeMap := setEntry_frame ..

/-- Another entry is read as before. -/
theorem setCustody_entry_other (c d : Comp) (st : CustodyState) (h : d ≠ c) :
    (s.setCustody c st).entry d = s.entry d := setEntry_entry_other s c d _ h

/-- The entry after a change of custody state alone. -/
@[simp] theorem setCustody_entry_same (c : Comp) (st : CustodyState) :
    (s.setCustody c st).entry c = { s.entry c with state := st } := setEntry_entry_same ..

/-- The entry after a change of its holding. -/
@[simp] theorem updHolding_entry_same (c : Comp) (f : Holding → Holding) :
    (s.updHolding c f).entry c = { s.entry c with holding := (s.holding c).map f } := putEntry_entry_same ..

/-- A change of a holding leaves the consignments and the code map. -/
@[simp] theorem updHolding_tables (c : Comp) (f : Holding → Holding) :
    (s.updHolding c f).custody.records = s.custody.records ∧ (s.updHolding c f).custody.codeMap = s.custody.codeMap :=
  ⟨rfl, rfl⟩

/-- Another entry is read as before. -/
theorem updHolding_entry_other (c d : Comp) (f : Holding → Holding) (h : d ≠ c) :
    (s.updHolding c f).entry d = s.entry d := putEntry_entry_other s c d _ h

/-! ### Removal (R8, R11) -/

/-- The end of a charge leaves all but the charge table and the consignments (R127). -/
@[simp] theorem endCharge_frame (i : ChargeSlot) (st : ChargeState) (k : Option EndCause) (m : Option Nat) :
    (s.endCharge i st k m).clock = s.clock ∧ (s.endCharge i st k m).carriers = s.carriers ∧
    (s.endCharge i st k m).seq = s.seq ∧ (s.endCharge i st k m).scanner = s.scanner ∧
    (s.endCharge i st k m).engine = s.engine ∧ (s.endCharge i st k m).ports = s.ports ∧
    (s.endCharge i st k m).paidReturns = s.paidReturns ∧
    (s.endCharge i st k m).custody.entries = s.custody.entries ∧
    (s.endCharge i st k m).custody.codeMap = s.custody.codeMap := by
  unfold State.endCharge; dsimp only
  split <;> exact ⟨rfl, rfl, rfl, rfl, rfl, rfl, rfl, rfl, rfl⟩

/-- The charge table after the end of a charge, with its record, the ended list and the generations (R127). -/
@[simp] theorem endCharge_table (i : ChargeSlot) (st : ChargeState) (k : Option EndCause) (m : Option Nat) :
    (s.endCharge i st k m).charges.recs =
      put s.charges.recs i { s.charge i with state := st, cause := k, paymentMinute := m, expiry := 0 } ∧
    (s.endCharge i st k m).charges.ended = s.charges.ended ++ [i] ∧
    (s.endCharge i st k m).charges.gens = s.charges.gens ∧
    (s.endCharge i st k m).custody.entries = s.custody.entries := by
  unfold State.endCharge; dsimp only; split <;> exact ⟨rfl, rfl, rfl, rfl⟩

/-- The end of the charge of a consignment that is removed leaves all but the charge table and the consignments
(R140). -/
@[simp] theorem voidRetired_frame (k : Consignment) :
    (s.voidRetired k).clock = s.clock ∧ (s.voidRetired k).carriers = s.carriers ∧ (s.voidRetired k).seq = s.seq ∧
    (s.voidRetired k).scanner = s.scanner ∧ (s.voidRetired k).engine = s.engine ∧
    (s.voidRetired k).ports = s.ports ∧ (s.voidRetired k).paidReturns = s.paidReturns ∧
    (s.voidRetired k).custody.entries = s.custody.entries ∧
    (s.voidRetired k).custody.codeMap = s.custody.codeMap := by
  unfold State.voidRetired
  split
  · split
    · exact endCharge_frame ..
    · exact ⟨rfl, rfl, rfl, rfl, rfl, rfl, rfl, rfl, rfl⟩
  · exact ⟨rfl, rfl, rfl, rfl, rfl, rfl, rfl, rfl, rfl⟩

/-- A compartment that leaves its consignment leaves the entries, the sequencer, the engine and the ports (R8, R11). -/
@[simp] theorem leaveRecord_frame (n : RecordNo) (c : Comp) :
    (s.leaveRecord n c).clock = s.clock ∧ (s.leaveRecord n c).seq = s.seq ∧ (s.leaveRecord n c).scanner = s.scanner ∧
    (s.leaveRecord n c).engine = s.engine ∧ (s.leaveRecord n c).ports = s.ports ∧
    (s.leaveRecord n c).custody.entries = s.custody.entries := by
  unfold State.leaveRecord
  split
  · exact ⟨rfl, rfl, rfl, rfl, rfl, rfl⟩
  · dsimp only
    split
    · have h := voidRetired_frame (s.lowerLive (by assumption : Consignment).carrier) (by assumption)
      exact ⟨h.1, h.2.2.1, h.2.2.2.1, h.2.2.2.2.1, h.2.2.2.2.2.1, h.2.2.2.2.2.2.2.1⟩
    · exact ⟨rfl, rfl, rfl, rfl, rfl, rfl⟩

/-- The removal of a holding leaves the sequencer, the scanner, the engine and the ports (R8). -/
@[simp] theorem removeHolding_frame (c : Comp) (st : CustodyState) (k : Option OosCause) :
    (s.removeHolding c st k).clock = s.clock ∧ (s.removeHolding c st k).seq = s.seq ∧
    (s.removeHolding c st k).scanner = s.scanner ∧ (s.removeHolding c st k).engine = s.engine ∧
    (s.removeHolding c st k).ports = s.ports := by
  unfold State.removeHolding
  split
  · exact ⟨rfl, rfl, rfl, rfl, rfl⟩
  · simp

/-- The entry that a removal leaves (R8). -/
theorem removeHolding_entry_same (c : Comp) (st : CustodyState) (k : Option OosCause) (x : Holding)
    (h : s.holding c = some x) :
    (s.removeHolding c st k).entry c = { s.entry c with state := st, cause := k, holding := none } := by
  simp only [State.removeHolding, h, State.entry, leaveRecord_frame]
  exact setEntry_entry_same ..

/-- Every other entry stays (R8). -/
theorem removeHolding_entry_other (c d : Comp) (st : CustodyState) (k : Option OosCause) (h : d ≠ c) :
    (s.removeHolding c st k).entry d = s.entry d := by
  unfold State.removeHolding
  split
  · rfl
  · simp only [State.entry, leaveRecord_frame]
    exact setEntry_entry_other s c d _ h

/-! ### Rest, review and out of service -/

/-- A return to rest leaves all but the custody table (R5, R24). -/
@[simp] theorem toRest_frame (c : Comp) :
    (s.toRest c).clock = s.clock ∧ (s.toRest c).seq = s.seq ∧ (s.toRest c).scanner = s.scanner ∧
    (s.toRest c).engine = s.engine ∧ (s.toRest c).ports = s.ports ∧
    (s.toRest c).custody.records = s.custody.records := by
  unfold State.toRest; split
  · simp
  · exact ⟨rfl, rfl, rfl, rfl, rfl, rfl⟩

/-- A return to rest changes no other entry. -/
theorem toRest_entry_other (c d : Comp) (h : d ≠ c) : (s.toRest c).entry d = s.entry d := by
  unfold State.toRest; split
  · rw [setCustody_entry_other _ _ _ _ h, updHolding_entry_other _ _ _ _ h]
  · rfl

/-- The entry of a holding that returns to rest (R5, R24). -/
theorem toRest_entry_same (c : Comp) (x : Holding) (r : RestState) (h : s.holding c = some x) (rest : x.rest = some r) :
    (s.toRest c).entry c =
      { s.entry c with state := RestState.custody r, holding := some { x with claimant := none } } := by
  simp [State.toRest, h, rest]

/-- A compartment that goes OUT_OF_SERVICE leaves all but the custody table (R4). -/
@[simp] theorem outOfService_frame (c : Comp) (k : OosCause) :
    (s.outOfService c k).clock = s.clock ∧ (s.outOfService c k).seq = s.seq ∧
    (s.outOfService c k).scanner = s.scanner ∧ (s.outOfService c k).engine = s.engine ∧
    (s.outOfService c k).ports = s.ports ∧ (s.outOfService c k).custody.records = s.custody.records := by
  simp [State.outOfService]

/-- The entry of a compartment that goes OUT_OF_SERVICE (R4). -/
@[simp] theorem outOfService_entry_same (c : Comp) (k : OosCause) :
    (s.outOfService c k).entry c = { s.entry c with state := .outOfService, cause := some k } := setEntry_entry_same ..

/-- Every other entry stays (R4). -/
theorem outOfService_entry_other (c d : Comp) (k : OosCause) (h : d ≠ c) :
    (s.outOfService c k).entry d = s.entry d := setEntry_entry_other s c d _ h

/-- A cause that is appended leaves all but the custody table (R6). -/
@[simp] theorem addCause_frame (c : Comp) (k : ReviewCause) :
    (s.addCause c k).clock = s.clock ∧ (s.addCause c k).seq = s.seq ∧ (s.addCause c k).scanner = s.scanner ∧
    (s.addCause c k).engine = s.engine ∧ (s.addCause c k).ports = s.ports ∧
    (s.addCause c k).custody.records = s.custody.records := ⟨rfl, rfl, rfl, rfl, rfl, rfl⟩

/-! ### Notices about a compartment -/

/-- How a notice names a compartment's consignment depends on the consignments and the record of its holding alone. -/
theorem form_congr {s t : State} (c : Comp) (records : t.custody.records = s.custody.records)
    (holding : (t.holding c).map (·.record) = (s.holding c).map (·.record)) : t.form c = s.form c := by
  simp only [State.form, State.record, records]
  match hs : s.holding c, ht : t.holding c with
  | none, none => rfl
  | none, some y => simp [hs, ht] at holding
  | some x, none => simp [hs, ht] at holding
  | some x, some y =>
    simp only [hs, ht, Option.map_some, Option.some.injEq] at holding
    simp only [holding]

/-- So does the sum of the paid lanes that it carries. -/
theorem paidTotal_congr {s t : State} (c : Comp) (records : t.custody.records = s.custody.records)
    (holding : (t.holding c).map (·.record) = (s.holding c).map (·.record)) : t.paidTotal c = s.paidTotal c := by
  simp only [State.paidTotal, State.consignment, State.record, records]
  match hs : s.holding c, ht : t.holding c with
  | none, none => rfl
  | none, some y => simp [hs, ht] at holding
  | some x, none => simp [hs, ht] at holding
  | some x, some y =>
    simp only [hs, ht, Option.map_some, Option.some.injEq] at holding
    simp only [Option.bind_some, holding]

/-- A notice that carries a delivery's code is the same before and after a change that keeps the consignment. -/
theorem noteCode_congr {s t : State} (k : NoticeKind) (c : Comp) (clock : t.clock = s.clock)
    (records : t.custody.records = s.custody.records)
    (holding : (t.holding c).map (·.record) = (s.holding c).map (·.record)) : t.noteCode k c = s.noteCode k c := by
  simp only [State.noteCode, State.note, State.codeForm, form_congr c records holding, clock]

/-- So is one that names the consignment either way. -/
theorem noteFull_congr {s t : State} (k : NoticeKind) (c : Comp) (clock : t.clock = s.clock)
    (records : t.custody.records = s.custody.records)
    (holding : (t.holding c).map (·.record) = (s.holding c).map (·.record)) : t.noteFull k c = s.noteFull k c := by
  simp only [State.noteFull, State.note, form_congr c records holding, paidTotal_congr c records holding, clock]

/-- A notice posted is taken by the ports as they stand, whatever else the state holds (R205). -/
theorem post_ports_congr {s t : State} (h : t.ports = s.ports) (r : Role) (n : Notice) :
    (t.post r n).ports = (s.post r n).ports := by
  simp only [State.post, h]

/-- A holding that enters REVIEW: its entry, and the REVIEW notice (R26). -/
theorem enterReview_entry_same (c : Comp) (k : ReviewCause) (x : Holding) (h : s.holding c = some x) :
    (s.enterReview c k).entry c =
      { s.entry c with state := .review, holding := some { x.addCause k with claimant := none } } := by
  show ((s.updHolding c _).setCustody c .review).entry c = _
  simp [h]

/-- Every other entry stays (R26). -/
theorem enterReview_entry_other (c d : Comp) (k : ReviewCause) (h : d ≠ c) :
    (s.enterReview c k).entry d = s.entry d := by
  show ((s.updHolding c _).setCustody c .review).entry d = _
  rw [setCustody_entry_other _ _ _ _ h, updHolding_entry_other _ _ _ _ h]

/-- A cause that is appended keeps the record of the holding (R6). -/
@[simp] theorem addCause_record (x : Holding) (k : ReviewCause) : (x.addCause k).record = x.record := by
  unfold Holding.addCause; split <;> rfl

/-- The REVIEW notice of a holding that enters REVIEW goes to operations, as the state before names it (R26). -/
theorem enterReview_ports (c : Comp) (k : ReviewCause) :
    (s.enterReview c k).ports = (s.post .operations ((s.noteCode .review c).withDetail k.detail)).ports := by
  have same : ((s.updHolding c fun h => { h.addCause k with claimant := none }).setCustody c .review).noteCode
      .review c = s.noteCode .review c :=
    noteCode_congr _ _ (by simp) (by simp) (by
      simp only [State.holding, setCustody_entry_same, updHolding_entry_same]
      cases h : (s.entry c).holding <;> simp)
  unfold State.enterReview; dsimp only
  rw [same]
  exact post_ports_congr (by simp) ..

/-- Entry into REVIEW leaves the sequencer, the scanner and the engine (R26). -/
@[simp] theorem enterReview_frame (c : Comp) (k : ReviewCause) :
    (s.enterReview c k).clock = s.clock ∧ (s.enterReview c k).seq = s.seq ∧
    (s.enterReview c k).scanner = s.scanner ∧ (s.enterReview c k).engine = s.engine := by
  simp [State.enterReview]

/-! ### Notices and reports -/

/-- A posted notice changes no entry (R205). -/
@[simp] theorem post_entry (r : Role) (n : Notice) (c : Comp) : (s.post r n).entry c = s.entry c := rfl

/-- A notice posted to two ports changes no entry and no report (R205). -/
@[simp] theorem postBoth_frame (a b : Role) (n : Notice) :
    (s.postBoth a b n).clock = s.clock ∧ (s.postBoth a b n).custody = s.custody ∧
    (s.postBoth a b n).seq = s.seq ∧ (s.postBoth a b n).scanner = s.scanner ∧
    (s.postBoth a b n).engine = s.engine := by
  unfold State.postBoth; split <;> exact ⟨rfl, rfl, rfl, rfl, rfl⟩

/-- Nor the entry of a compartment. -/
@[simp] theorem postBoth_entry (a b : Role) (n : Notice) (c : Comp) : (s.postBoth a b n).entry c = s.entry c := by
  simp [State.entry]

/-- So a notice posted to two ports looks at the ports alone (R205). -/
theorem postBoth_ports_congr {s t : State} (h : t.ports = s.ports) (a b : Role) (n : Notice) :
    (t.postBoth a b n).ports = (s.postBoth a b n).ports := by
  unfold State.postBoth
  split
  · exact post_ports_congr h ..
  · exact post_ports_congr (post_ports_congr h ..) ..

/-- A change of a column's state changes the sequencer, and asks for what follows it (R149). -/
@[simp] theorem setColumn_frame (col : Column) (st : ColumnState) :
    (s.setColumn col st).clock = s.clock ∧ (s.setColumn col st).custody = s.custody ∧
    (s.setColumn col st).charges = s.charges ∧ (s.setColumn col st).carriers = s.carriers ∧
    (s.setColumn col st).scanner = s.scanner ∧ (s.setColumn col st).engine = s.engine ∧
    (s.setColumn col st).ports = s.ports := by
  unfold State.setColumn State.tellScanner
  split <;> exact ⟨rfl, rfl, rfl, rfl, rfl, rfl, rfl⟩

/-- A withdrawal changes the sequencer, and asks for what follows it (R147, R148, R152). -/
@[simp] theorem withdraw_frame (c : Comp) :
    (s.withdraw c).clock = s.clock ∧ (s.withdraw c).custody = s.custody ∧ (s.withdraw c).charges = s.charges ∧
    (s.withdraw c).carriers = s.carriers ∧ (s.withdraw c).scanner = s.scanner ∧
    (s.withdraw c).engine = s.engine ∧ (s.withdraw c).ports = s.ports := by
  unfold State.withdraw State.disarmIfLast
  split
  · split
    · split
      · exact ⟨rfl, rfl, rfl, rfl, rfl, rfl, rfl⟩
      · exact setColumn_frame ..
    all_goals exact ⟨rfl, rfl, rfl, rfl, rfl, rfl, rfl⟩
  all_goals exact ⟨rfl, rfl, rfl, rfl, rfl, rfl, rfl⟩

/-- The outcome of a DROP holding changes the engine alone (R80). -/
@[simp] theorem reportDrop_frame (n : RingSlot) (c : Comp) (o : Status) (m : Option Nat) :
    (s.reportDrop n c o m).clock = s.clock ∧ (s.reportDrop n c o m).custody = s.custody ∧
    (s.reportDrop n c o m).seq = s.seq ∧ (s.reportDrop n c o m).scanner = s.scanner ∧
    (s.reportDrop n c o m).ports = s.ports := ⟨rfl, rfl, rfl, rfl, rfl⟩

/-- The end of a CARRIER claim changes the engine alone (R82, R85). -/
@[simp] theorem reportClaim_frame (c : Comp) (e : ClaimEnd) :
    (s.reportClaim c e).clock = s.clock ∧ (s.reportClaim c e).custody = s.custody ∧
    (s.reportClaim c e).seq = s.seq ∧ (s.reportClaim c e).scanner = s.scanner ∧
    (s.reportClaim c e).ports = s.ports := ⟨rfl, rfl, rfl, rfl, rfl⟩

/-- Neither report changes an entry. -/
@[simp] theorem reportDrop_entry (n : RingSlot) (c d : Comp) (o : Status) (m : Option Nat) :
    (s.reportDrop n c o m).entry d = s.entry d := rfl

/-- Neither report changes an entry. -/
@[simp] theorem reportClaim_entry (c d : Comp) (e : ClaimEnd) : (s.reportClaim c e).entry d = s.entry d := rfl

/-- The engine takes an outcome as its window stands, whatever else the state holds (R80). -/
theorem reportDrop_engine_congr {s t : State} (h : t.engine = s.engine) (n : RingSlot) (c : Comp) (o : Status)
    (m : Option Nat) : (t.reportDrop n c o m).engine = (s.reportDrop n c o m).engine := by
  simp only [State.reportDrop, State.setWindow, State.emit, h]

/-- So it takes the end of a claim (R82, R85). -/
theorem reportClaim_engine_congr {s t : State} (h : t.engine = s.engine) (c : Comp) (e : ClaimEnd) :
    (t.reportClaim c e).engine = (s.reportClaim c e).engine := by
  simp only [State.reportClaim, State.setWindow, State.emit, h]

/-- A RESERVED holding that is dropped is removed, and its origin told CANCELLED (R19). -/
theorem dropReserved_reserved (c : Comp) (x : Holding) (st : s.custodyState c = .reserved) (h : s.holding c = some x) :
    s.dropReserved c = (s.removeHolding c .free none).reportOrigin x.origin c .cancelled none := by
  unfold State.dropReserved; rw [st, h]

/-- A compartment that is not RESERVED, or has no holding, is left (R19). -/
theorem dropReserved_other (c : Comp) (h : s.custodyState c ≠ .reserved ∨ s.holding c = none) : s.dropReserved c = s := by
  unfold State.dropReserved
  split
  · simp_all
  · rfl

/-- A change of a holding that keeps its record, and of the custody state, keeps the record that the compartment
names. -/
theorem holding_record_setCustody (c : Comp) (f : Holding → Holding) (st : CustodyState)
    (keeps : ∀ x, (f x).record = x.record) :
    (((s.updHolding c f).setCustody c st).holding c).map (·.record) = (s.holding c).map (·.record) := by
  simp only [State.holding, setCustody_entry_same, updHolding_entry_same]
  cases h : (s.entry c).holding <;> simp [keeps]

end Sys2Proof.Machine
end

