-- ==== Sys2Proof/Laws/Frames.lean ====
section
/-! SUPPORT. What the levels of a line spell (R200), and what a port unit makes of the bytes that its line brings (R201):
bytes in the hunt state are discarded, and the bytes of a whole frame bring that frame's command and leave the unit
hunting. -/

namespace Sys2Proof.Machine

/-- The data bits of a byte are that byte's (R200). -/
theorem byteOfBits_dataBits : ∀ b : Byte, byteOfBits (dataBits b) = b := by decide

/-- The levels of a byte spell it, whatever follows them (R200). -/
theorem lineBytes_byteLevels (b : Byte) (t : List Bool) : lineBytes (byteLevels b ++ t) = some b :: lineBytes t := by
  show (some (byteOfBits (dataBits b)) :: lineBytes t : List (Option Byte)) = _
  rw [byteOfBits_dataBits]

/-- A byte without its stop bit is spelt as such (R200, R201). -/
theorem lineBytes_noStop (b : Byte) (t : List Bool) :
    lineBytes (false :: (dataBits b ++ false :: t)) = none :: lineBytes t := rfl

/-- The levels of bytes one after another spell them (R200). -/
theorem lineBytes_bytes (bytes : List Byte) : lineBytes (bytes.flatMap byteLevels) = bytes.map some := by
  induction bytes with
  | nil => rfl
  | cons b t ih => rw [List.flatMap_cons, lineBytes_byteLevels, ih, List.map_cons]

/-- A port that is brought the levels of bytes is brought those bytes (R200, R201). -/
theorem receiveLevels_bytes (s : State) (p : Fin 4) (x : Sense) (bytes : List Byte) :
    s.receiveLevels p x (bytes.flatMap byteLevels) = s.receiveBytes p x bytes := by
  rw [State.receiveLevels, lineBytes_bytes, List.foldl_map, State.receiveBytes]

@[simp] theorem putPort_port_self (s : State) (p : Fin 4) : s.putPort p (s.port p) = s := by
  have : put s.ports p (s.ports.get p) = s.ports := by
    show s.ports.set p.val s.ports[p.val] p.isLt = s.ports
    simp
  simp only [State.putPort, State.port, this]

@[simp] theorem putPort_putPort (s : State) (p : Fin 4) (u v : PortUnit) :
    (s.putPort p u).putPort p v = s.putPort p v := by
  simp [State.putPort, put]

/-- In the hunt state every byte but the sync byte is discarded (R201). -/
theorem receive_hunting (u : PortUnit) (p : Fin 4) (x : Sense) (b : Byte) (hunting : u.receiving = [])
    (h : b ≠ 0x5A#8) : u.receive p x b = (u, none) := by
  simp [PortUnit.receive, hunting, h]

/-- The sync byte begins a frame (R201). -/
theorem receive_sync (u : PortUnit) (p : Fin 4) (x : Sense) (hunting : u.receiving = []) :
    u.receive p x 0x5A#8 = ({ u with receiving := [0x5A#8] }, none) := by
  simp [PortUnit.receive, hunting]

/-- A byte inside a frame joins it, and the last one completes it (R201). -/
theorem receive_inside (u : PortUnit) (p : Fin 4) (x : Sense) (b : Byte) (inside : u.receiving ≠ []) :
    let bytes := u.receiving ++ [b]
    u.receive p x b = if frameLength bytes = some bytes.length then ({ u with receiving := [] }, readFrame p x bytes)
      else ({ u with receiving := bytes }, none) := by
  match h : u.receiving with
  | [] => exact absurd h inside
  | y :: t => simp [PortUnit.receive, h]

/-- A line that brings no sync byte to a hunting unit changes nothing (R201). -/
theorem receiveBytes_hunting (p : Fin 4) (x : Sense) (junk : List Byte) (s : State)
    (hunting : (s.port p).receiving = []) (h : 0x5A#8 ∉ junk) : s.receiveBytes p x junk = s := by
  induction junk with
  | nil => rfl
  | cons b t ih =>
    have hb : b ≠ 0x5A#8 := fun e => h (e ▸ List.mem_cons_self ..)
    have one : s.receive p x (some b) = s := by
      unfold State.receive; split
      · rfl
      · simp [receive_hunting _ p x b hunting hb]
    show (s.receive p x (some b)).receiveBytes p x t = s
    rw [one]; exact ih fun e => h (List.mem_cons_of_mem _ e)

/-- The bytes that follow a frame's beginning, up to its last, bring its command (R201). -/
theorem receiveBytes_inside (p : Fin 4) (x : Sense) (rest : List Byte) :
    ∀ (s : State) (pre : List Byte), s.power.running = true → (s.port p).receiving = pre → pre ≠ [] → rest ≠ [] →
      (∀ m, m < rest.length → 0 < m → frameLength (pre ++ rest.take m) ≠ some (pre.length + m)) →
      frameLength (pre ++ rest) = some (pre.length + rest.length) →
      s.receiveBytes p x rest = { s.putPort p { s.port p with receiving := [] } with
        pending := s.pending ++ (readFrame p x (pre ++ rest)).toList } := by
  induction rest with
  | nil => intro s pre _ _ _ h; exact absurd rfl h
  | cons b t ih =>
    intro s pre running begun inside _ short whole
    show (s.receive p x (some b)).receiveBytes p x t = _
    have run : (!s.power.running) = false := by simp [running]
    have one := receive_inside (s.port p) p x b (by rw [begun]; exact inside)
    simp only [begun] at one
    match t with
    | [] =>
      have w : frameLength (pre ++ [b]) = some (pre ++ [b]).length := by simpa using whole
      simp only [State.receive, run, one, w, if_true, Bool.false_eq_true, if_false, State.receiveBytes, List.foldl_nil]
    | c :: t =>
      have w : frameLength (pre ++ [b]) ≠ some (pre ++ [b]).length := by
        simpa using short 1 (by simp) (by omega)
      have step : s.receive p x (some b) = s.putPort p { s.port p with receiving := pre ++ [b] } := by
        simp only [State.receive, run, one, w, Bool.false_eq_true, if_false, Option.toList_none, List.append_nil]
        rfl
      rw [step, ih (s.putPort p { s.port p with receiving := pre ++ [b] }) (pre ++ [b])]
      · simp
      · exact running
      · simp
      · simp
      · simp
      · intro m lt pos
        have := short (m + 1) (by simpa using lt) (by omega)
        simpa [Nat.add_comm, Nat.add_left_comm, Nat.add_assoc] using this
      · simpa [Nat.add_comm, Nat.add_left_comm, Nat.add_assoc] using whole

/-- The bytes of a whole frame, brought to a hunting unit of a running part, put that frame's command behind those that
wait, or its FRAME_DISCARDED, and the unit hunts again (R201). -/
theorem receiveBytes_frame (p : Fin 4) (x : Sense) (len : Byte) (rest : List Byte) (s : State)
    (running : s.power.running = true) (hunting : (s.port p).receiving = []) (size : rest.length = len.toNat + 4) :
    s.receiveBytes p x (0x5A#8 :: len :: rest) =
      { s with pending := s.pending ++ (readFrame p x (0x5A#8 :: len :: rest)).toList } := by
  show (s.receive p x (some 0x5A#8)).receiveBytes p x (len :: rest) = _
  have step : s.receive p x (some 0x5A#8) = s.putPort p { s.port p with receiving := [0x5A#8] } := by
    simp only [State.receive, running, Bool.not_true, Bool.false_eq_true, if_false, receive_sync _ p x hunting,
      Option.toList_none, List.append_nil]
    rfl
  rw [step, receiveBytes_inside p x (len :: rest) (s.putPort p { s.port p with receiving := [0x5A#8] }) [0x5A#8]]
  · have : ({ s.port p with receiving := [] } : PortUnit) = s.port p := by rw [← hunting]
    simp [this]
  · exact running
  · simp
  · simp
  · simp
  · intro m lt pos
    match m, pos with
    | m + 1, _ =>
      simp only [List.take_succ_cons, List.singleton_append, frameLength]
      simp only [List.length_cons, size] at lt
      simp only [ne_eq, Option.some.injEq, List.length_singleton]
      omega
  · simp [frameLength, size]; omega

end Sys2Proof.Machine
end

