-- ==== Sys2Proof/Laws/InnerEngine.lean ====
section
/-! SUPPORT. `Inner` for the operations of the allocator, the manifest engine, the scanner and the end of a step. -/

namespace Sys2Proof.Machine

variable {s t : State}

/-! ### The allocator -/

@[simp] theorem Inner.reserve (c : Comp) (x : Holding) (h : Inner s t) : Inner s (t.reserve c x) := h.setEntry ..

@[simp] theorem Inner.commitGroup (n : RecordNo) (i : Fin 8) (code cod : Nat) (ps : List Placed) (h : Inner s t) :
    Inner s (t.commitGroup n i code cod ps) := by
  unfold State.commitGroup; dsimp only
  refine Inner.raiseLive _ _ (Inner.foldl _ (fun _ _ hu => hu.reserve ..) _ _ ?_)
  exact h.of_eq rfl rfl rfl rfl rfl rfl rfl rfl rfl

@[simp] theorem Inner.commitReturn (n : RecordNo) (i : Fin 8) (c : Comp) (z : SizeClass) (r : Option Text)
    (h : Inner s t) : Inner s (t.commitReturn n i c z r) :=
  (((h.putRecord ..).reserve ..).raiseLive ..)

@[simp] theorem Inner.releasePaidReturn (n : RecordNo) (c : Comp) (h : Inner s t) :
    Inner s (t.releasePaidReturn n c) := by
  unfold State.releasePaidReturn; split
  · exact h.requestFresh ..
  all_goals exact h.of_eq rfl rfl rfl rfl rfl rfl rfl rfl rfl

/-! ### The manifest engine -/

@[simp] theorem Inner.feedOne (h : Inner s t) : Inner s t.feedOne := by
  unfold State.feedOne; split
  · exact h
  · exact ((h.setWindow _).requestFresh ..).emit _

@[simp] theorem Inner.started (rs : List WindowRecord) (h : Inner s t) : Inner s (t.started rs) :=
  (h.setWindow _).setPointer _

@[simp] theorem Inner.afterStart (h : Inner s t) : Inner s t.afterStart := ((h.emit _).emit _).emit _

@[simp] theorem Inner.startPlaced (d : Descriptor) (i : Fin 8) (ps : List Placed) (n : RecordNo) (h : Inner s t) :
    Inner s (t.startPlaced d i ps n) := by
  unfold State.startPlaced; dsimp only
  refine Inner.foldl _ (fun _ _ hu => hu.requestFresh ..) _ _ ?_
  refine Inner.started _ (Inner.commitGroup _ _ _ _ _ ?_)
  split
  · exact h
  · exact h.of_eq rfl rfl rfl rfl rfl rfl rfl rfl rfl

@[simp] theorem Inner.startGroup (n : Nat) (h : Inner s t) : Inner s (t.startGroup n) := by
  unfold State.startGroup; dsimp only
  refine Inner.afterStart ?_
  repeat' split
  all_goals simp (maxDischargeDepth := 12) [h]

@[simp] theorem Inner.recallFrom (d : Descriptor) (r : Text) (i : Fin 8) (h : Inner s t) :
    Inner s (t.recallFrom d r i) := by
  unfold State.recallFrom; dsimp only; repeat' split
  all_goals simp (maxDischargeDepth := 12) [h]

@[simp] theorem Inner.startFails (k : DescKind) (st : Status) (h : Inner s t) : Inner s (t.startFails k st) :=
  h.started _

@[simp] theorem Inner.startRecall (h : Inner s t) : Inner s t.startRecall := by
  unfold State.startRecall; dsimp only
  refine Inner.afterStart ?_
  repeat' split
  all_goals simp (maxDischargeDepth := 12) [h]

@[simp] theorem Inner.pickupFrom (i : Fin 8) (h : Inner s t) : Inner s (t.pickupFrom i) :=
  Inner.foldl _ (fun _ _ hu => hu.claim ..) _ _ (h.started _)

@[simp] theorem Inner.startPickup (h : Inner s t) : Inner s t.startPickup := by
  unfold State.startPickup; dsimp only
  refine Inner.afterStart ?_
  repeat' split
  all_goals simp (maxDischargeDepth := 12) [h]

@[simp] theorem Inner.suspend (i : RingSlot) (h : Inner s t) : Inner s (t.suspend i) := (h.setEngine _).post ..

@[simp] theorem Inner.lookDrop (h : Inner s t) : Inner s t.lookDrop := by
  unfold State.lookDrop; dsimp only; repeat' split
  all_goals simp (maxDischargeDepth := 12) [h]

@[simp] theorem Inner.lookNow (h : Inner s t) : Inner s t.lookNow := by
  unfold State.lookNow; dsimp only; repeat' split
  all_goals simp (maxDischargeDepth := 12) [h]

@[simp] theorem Inner.retireOne (r : WindowRecord) (l : List WindowRecord) (st : Status) (h : Inner s t) :
    Inner s (t.retireOne r l st) := by
  unfold State.retireOne; dsimp only; split <;> simp (maxDischargeDepth := 12) [h]

@[simp] theorem Inner.retireAll : ∀ (l : List WindowRecord) (t : State), Inner s t → Inner s (State.retireAll l t)
  | [], _, h => h
  | r :: l, t, h => by
    unfold State.retireAll; split
    · exact Inner.retireAll l _ (h.retireOne ..)
    · exact h

@[simp] theorem Inner.retireNow (h : Inner s t) : Inner s t.retireNow := by
  unfold State.retireNow; dsimp only; repeat' split
  all_goals simp (maxDischargeDepth := 12) [h]

@[simp] theorem Inner.stopRecord (r : WindowRecord) (h : Inner s t) : Inner s (t.stopRecord r) := by
  unfold State.stopRecord; repeat' split
  all_goals simp (maxDischargeDepth := 12) [h]

@[simp] theorem Inner.engineStop (h : Inner s t) : Inner s t.engineStop := by
  unfold State.engineStop; split
  iterate 2 exact (Inner.foldl _ (fun _ _ hu => hu.stopRecord _) _ _ (h.setEngine _)).emit _
  all_goals exact h

/-! ### The scanner -/

@[simp] theorem Inner.confirmClosure (c : Comp) (k : OpeningKind) (h : Inner s t) : Inner s (t.confirmClosure c k) :=
  (h.setDoor ..).custodyClosure ..

@[simp] theorem Inner.fittingRead (c : Comp) (h : Inner s t) : Inner s (t.fittingRead c) := by
  unfold State.fittingRead; repeat' split
  all_goals simp (maxDischargeDepth := 12) [h]

@[simp] theorem Inner.applySample (c : Comp) (h : Inner s t) : Inner s (t.applySample c) := by
  unfold State.applySample; split <;> simp (maxDischargeDepth := 12) [h]

@[simp] theorem Inner.baselineSample (c : Comp) (h : Inner s t) : Inner s (t.baselineSample c) := by
  unfold State.baselineSample; repeat' split
  all_goals simp (maxDischargeDepth := 12) [h]

@[simp] theorem Inner.readColumn (c : Column) (h : Inner s t) : Inner s (t.readColumn c) := by
  unfold State.readColumn
  refine Inner.foldl _ (fun u p hu => ?_) _ _ (h.setOwed ..)
  split <;> simp (maxDischargeDepth := 12) [hu]

@[simp] theorem Inner.owedRead (c : Column) (h : Inner s t) : Inner s (t.owedRead c) := by
  unfold State.owedRead; split
  · exact h.readColumn _
  · exact h

@[simp] theorem Inner.noteInterrupted (b : State) (c : Comp) (d : Detail) (h : Inner s t) :
    Inner s (t.noteInterrupted b c d) := by
  unfold State.noteInterrupted; split <;> simp (maxDischargeDepth := 12) [h]

@[simp] theorem Inner.reconcileCut (c : Comp) (h : Inner s t) : Inner s (t.reconcileCut c) := by
  unfold State.reconcileCut; split <;> simp (maxDischargeDepth := 12) [h]

@[simp] theorem Inner.revert (c : Comp) (h : Inner s t) : Inner s (t.revert c) := by
  unfold State.revert; split <;> simp (maxDischargeDepth := 12) [h]

@[simp] theorem Inner.reconcileWaiting (c : Comp) (h : Inner s t) : Inner s (t.reconcileWaiting c) := by
  unfold State.reconcileWaiting; split <;> simp (maxDischargeDepth := 12) [h]

@[simp] theorem Inner.reconcileRest (c : Comp) (h : Inner s t) : Inner s (t.reconcileRest c) := by
  unfold State.reconcileRest; split <;> simp (maxDischargeDepth := 12) [h]

@[simp] theorem Inner.reconcileFlown (c : Comp) (f : FlightEntry) (h : Inner s t) :
    Inner s (t.reconcileFlown c f) := by
  unfold State.reconcileFlown; repeat' split
  all_goals simp (maxDischargeDepth := 12) [h]

@[simp] theorem Inner.reconcileOne (c : Comp) (h : Inner s t) : Inner s (t.reconcileOne c) := by
  unfold State.reconcileOne; repeat' split
  all_goals simp (maxDischargeDepth := 12) [h]

@[simp] theorem Inner.reconcile (h : Inner s t) : Inner s t.reconcile := by
  have hf : Inner s (Comp.all.foldl State.reconcileOne t) :=
    Inner.foldl _ (fun _ _ hu => Inner.reconcileOne _ hu) _ _ h
  unfold State.reconcile
  generalize Comp.all.foldl State.reconcileOne t = u at hf
  dsimp only
  exact hf.trans ⟨rfl, rfl, rfl, rfl, rfl, rfl, rfl, rfl, rfl, rfl, fun _ => PortGrew.refl _, id, le_max_left ..,
    fun _ => CarrierKept.refl _, id⟩

@[simp] theorem Inner.advanceSweep (h : Inner s t) : Inner s t.advanceSweep := by
  unfold State.advanceSweep; split
  all_goals exact h.of_eq rfl rfl rfl rfl rfl rfl rfl rfl rfl

@[simp] theorem Inner.takeColumn (h : Inner s t) : Inner s t.takeColumn := by
  unfold State.takeColumn; dsimp only; split <;> simp (maxDischargeDepth := 12) [h]

@[simp] theorem Inner.windowEnds (c : Comp) (h : Inner s t) : Inner s (t.windowEnds c) := by
  unfold State.windowEnds; split <;> simp (maxDischargeDepth := 12) [h]

@[simp] theorem Inner.ajarEnds (c : Comp) (h : Inner s t) : Inner s (t.ajarEnds c) := by
  unfold State.ajarEnds; split <;> simp (maxDischargeDepth := 12) [h]

/-! ### The end of a step -/

@[simp] theorem Inner.offerPaid (h : Inner s t) : Inner s t.offerPaid := by
  unfold State.offerPaid; split
  · exact h
  · split
    · exact h
    · split
      · refine Inner.requestFresh _ _ _ _ ?_
        exact h.of_eq rfl rfl rfl rfl rfl rfl rfl rfl rfl
      all_goals exact h

@[simp] theorem Inner.movePass : ∀ (l : List Comp) (t : State), Inner s t → Inner s (State.movePass l t)
  | [], _, h => h
  | c :: l, t, h => by
    unfold State.movePass; repeat' split
    · exact h
    · exact Inner.movePass l _ ((h.setPending _).failEntry ..)
    · exact Inner.movePass l _ h
    · exact Inner.movePass l _ ((h.setPending _).requestFresh ..)

@[simp] theorem Inner.movePending (h : Inner s t) : Inner s t.movePending := by
  unfold State.movePending; split
  · exact Inner.movePass _ _ h
  · exact h

@[simp] theorem Inner.tellDeparture (h : Inner s t) : Inner s t.tellDeparture := by
  unfold State.tellDeparture; split
  all_goals exact h.of_eq rfl rfl rfl rfl rfl rfl rfl rfl rfl

@[simp] theorem Inner.work (g : Signal) (h : Inner s t) : Inner s (t.work g) := by
  unfold State.work; cases g <;> simp (maxDischargeDepth := 12) [h]

@[simp] theorem Inner.settle : ∀ (n : Nat) (t : State), Inner s t → Inner s (State.settle n t)
  | 0, _, h => h.of_eq rfl rfl rfl rfl rfl rfl rfl rfl rfl
  | n + 1, t, h => by
    unfold State.settle; split
    · exact h
    · dsimp only
      refine Inner.settle n _ (Inner.of_eq (Inner.work _ ?_) rfl rfl rfl rfl rfl rfl rfl rfl rfl)
      exact h.of_eq rfl rfl rfl rfl rfl rfl rfl rfl rfl

@[simp] theorem Inner.arbiterLooks (h : Inner s t) : Inner s t.arbiterLooks := by
  unfold State.arbiterLooks; split
  · exact Inner.arbitrate _ _ h
  · exact h

/-- The end of a step changes none of the parts that only commands of their own change (log 10). -/
@[simp] theorem Inner.complete (h : Inner s t) : Inner s t.complete :=
  (Inner.settle _ _ h).arbiterLooks.begin

/-- Between steps no consequence waits (log 10). -/
theorem complete_settled (s : State) : s.complete.signals = [] ∧ s.complete.arbiterDue = false := ⟨rfl, rfl⟩

/-- A step that has noted nothing ends at once. -/
theorem complete_of_settled {s : State} (h : s.signals = []) (a : s.arbiterDue = false) : s.complete = s := by
  unfold State.complete
  have : State.settle settleFuel s = s := by
    unfold settleFuel State.settle
    simp [h]
  rw [this]
  unfold State.arbiterLooks State.begin
  cases s
  simp_all

end Sys2Proof.Machine
end

