-- ==== Sys2Proof/WellFormed.lean ====
section
/-! DEFINITION. Which commands a frame can carry: every number fits the field that R211 and R212 give it, a
collection code field holds 8 characters and a parcel reference field at most 21 (the 20 bytes of R211 and the mark
of a length byte above 20, which the frame reader adds). An event has no operand that could be ill formed. -/

namespace Sys2Proof

/-- A number that fits one byte. -/
def fits8 (n : Nat) : Bool := decide (n < 256)
/-- A number that fits two bytes. -/
def fits16 (n : Nat) : Bool := decide (n < 65536)
/-- A number that fits four bytes. -/
def fits32 (n : Nat) : Bool := decide (n < 4294967296)
/-- A collection code field: 8 characters (R211). -/
def codeField (t : Text) : Bool := decide (t.length = 8)
/-- A parcel reference field (R211). -/
def parcelField (t : Text) : Bool := decide (t.length ≤ 21)

/-- The payload of a frame is 0 to 255 bytes long (R201). -/
def Head.wf (h : Head) : Bool := fits8 h.len

/-- Four numbers of one byte each. -/
def PerSize.wf8 (p : PerSize Nat) : Bool := fits8 p.s && fits8 p.m && fits8 p.l && fits8 p.xl
/-- Four numbers of four bytes each. -/
def PerSize.wf32 (p : PerSize Nat) : Bool := fits32 p.s && fits32 p.m && fits32 p.l && fits32 p.xl

/-- The descriptor slot bytes of Slot Write (R211). -/
def SlotFields.wf (f : SlotFields) : Bool :=
  fits32 f.carrierId && parcelField f.parcelRef && (f.cod.all fits32) && (f.code.all codeField)

/-- The class values of Set Tariff: F (2), U (1), B (1), r1 (2), r2 (2), C (4), L (2) (R212). -/
def ClassValues.wf (v : ClassValues) : Bool :=
  fits16 v.f && fits8 v.u && fits8 v.b && fits16 v.r1 && fits16 v.r2 && fits32 v.c && fits16 v.l

/-- The BANK values of Set Tariff (R212). -/
def BankValues.wf (v : BankValues) : Bool := v.mult.wf8 && v.fee.wf32 && fits8 v.grace

/-- The values of Amend Holding (R212). -/
def AmendFields.wf (v : AmendFields) : Bool :=
  parcelField v.parcelRef && fits8 v.tariffClass && fits32 v.depositMinute && fits32 v.cod

/-- The values of Set Carrier (R212). -/
def CarrierFields.wf (v : CarrierFields) : Bool := fits32 v.id && fits8 v.tariffClass && fits8 v.quota

/-- The values of Set Timing (R212). -/
def TimingFields.wf (v : TimingFields) : Bool :=
  fits16 v.pulseLength && fits8 v.budget && fits8 v.openWindow && fits16 v.ajarTime

/-- The commands whose operands a frame can carry. -/
def Instr.wf : Instr → Bool
  | .readNotice h => h.wf
  | .portReset h _ => h.wf
  | .lookup h code => h.wf && codeField code
  | .quote h code => h.wf && codeField code
  | .voidQuote h slot gen => h.wf && fits8 slot && fits8 gen
  | .collect h code => h.wf && codeField code
  | .returnBegin h carrierId _ ref => h.wf && fits32 carrierId && parcelField ref
  | .returnCancel h record _ => h.wf && fits8 record
  | .releaseCharge h slot gen => h.wf && fits8 slot && fits8 gen
  | .slotWrite h slot fields => h.wf && fits8 slot && fields.wf
  | .slotRead h slot => h.wf && fits8 slot
  | .handOver h first count => h.wf && fits8 first && fits8 count
  | .start h slot => h.wf && fits8 slot
  | .resume h => h.wf
  | .stop h _ => h.wf
  | .fetchCharge h ref => h.wf && ref.all (fun r => fits8 r.1 && fits8 r.2)
  | .paymentResult h slot gen _ amountO amountK =>
    h.wf && fits8 slot && fits8 gen && fits32 amountO && fits32 amountK
  | .setCompartment h comp _ _ _ => h.wf && fits8 comp
  | .withholdToReview h _ comp => h.wf && fits8 comp
  | .withholdToOutOfService h _ comp => h.wf && fits8 comp
  | .resolveReviewRestore h _ comp => h.wf && fits8 comp
  | .resolveReviewWaive h _ comp => h.wf && fits8 comp
  | .resolveReviewRetire h _ comp => h.wf && fits8 comp
  | .resolveReviewWithdraw h _ comp => h.wf && fits8 comp
  | .returnToService h comp => h.wf && fits8 comp
  | .amendHolding h comp _ v => h.wf && fits8 comp && v.wf
  | .setCarrier h index _ v => h.wf && fits8 index && v.wf
  | .readCarrier h index => h.wf && fits8 index
  | .setTariff h target _ cls bank => h.wf && fits8 target && cls.wf && bank.wf
  | .readTariff h target => h.wf && fits8 target
  | .setMasks h _ => h.wf
  | .clearConditions h _ => h.wf
  | .readConditions h => h.wf
  | .serviceRelease h comp _ => h.wf && fits8 comp
  | .withdrawService h comp => h.wf && fits8 comp
  | .testPulse h comp => h.wf && fits8 comp
  | .columnRestore h column => h.wf && fits8 column
  | .setTiming h _ v => h.wf && v.wf
  | .readCompartment h comp => h.wf && fits8 comp
  | .readConsignment h record => h.wf && fits8 record
  | .readCharge h slot => h.wf && fits8 slot
  | .readQueueQueue h _ => h.wf
  | .readQueueEngine h _ => h.wf
  | .readQueuePickup h _ slot => h.wf && fits8 slot
  | .readQueueLists h _ => h.wf
  | .readClock h => h.wf
  | .unknownRequestCode h _ => h.wf
  | .frameDiscarded _ => true
  | .frameGapTimeout _ => true
  | .responseSent _ => true
  | .armingEnd _ => true
  | .pulseGood _ _ => true
  | .pulseOpenCoil _ _ => true
  | .pulseShort _ _ => true
  | .testPulseEnd _ _ _ => true
  | .runWindowEnd _ _ => true
  | .recoveringEnd _ => true
  | .svcKeyOn => true
  | .svcKeyOff => true
  | .pfailAssert => true
  | .pfailNegate _ => true
  | .mainsFall => true
  | .mainsReturn _ => true
  | .resetAssert => true
  | .resetRelease _ => true
  | .retentionLoss => true
  | .custodyTick => true
  | .chargeExpiry _ => true
  | .lockoutEnd => true
  | .sweepStart => true
  | .sweepColumnStep _ => true
  | .openWindowEnd _ => true
  | .ajarTimerEnd _ => true

end Sys2Proof
end

