-- ==== Sys2Proof/Laws/PerInstr.lean ====
section
/-! SUPPORT. The per-command family F: a command that travels in a frame has a row of the request table of R212
whose code, roles and payload length are well formed, and whose frame is the frame of the command's own head; an
event has no row. One lemma for each constructor. -/

namespace Sys2Proof.Laws.F

set_option Elab.async false

open Sys2Proof Sys2Proof.Machine

/-- A well-formed command's row of the request table: the head it names fits a frame, its code is not the code of
another direction (a response sets bit 7, R203), some role may send it, and its payload fits one frame (R201). -/
def Statement (i : Instr) : Prop :=
  i.wf = true → ∀ (h : Head) (code : Nat) (roles : List Role) (n : Nat), requestRow i = some (h, code, roles, n) →
    h.len < 256 ∧ code < 128 ∧ roles ≠ [] ∧ n < 256

/-- The one argument of every lemma below: the row's numbers are literals, and the head is the command's own. -/
theorem of_row (i : Instr) (h : Head) (code : Nat) (roles : List Role) (n : Nat)
    (hrow : requestRow i = some (h, code, roles, n)) (hwf : i.wf = true → h.wf = true)
    (hcode : code < 128) (hroles : roles ≠ []) (hn : n < 256) : Statement i := by
  intro hi h' code' roles' n' hr
  rw [hrow] at hr
  cases hr
  exact ⟨of_decide_eq_true (hwf hi), hcode, hroles, hn⟩

/-- An event has no row. -/
theorem of_event (i : Instr) (hrow : requestRow i = none) : Statement i := by
  intro _ h code roles n hr
  rw [hrow] at hr
  cases hr

theorem readNotice (h : Head) : Statement (.readNotice h) :=
  of_row _ _ _ _ _ rfl (by simp +contextual [Instr.wf]) (by decide) (by decide) (by decide)
theorem portReset (h : Head) (sense : Sense) : Statement (.portReset h sense) :=
  of_row _ _ _ _ _ rfl (by simp +contextual [Instr.wf]) (by decide) (by decide) (by decide)
theorem lookup (h : Head) (code : Text) : Statement (.lookup h code) :=
  of_row _ _ _ _ _ rfl (by simp +contextual [Instr.wf]) (by decide) (by decide) (by decide)
theorem quote (h : Head) (code : Text) : Statement (.quote h code) :=
  of_row _ _ _ _ _ rfl (by simp +contextual [Instr.wf]) (by decide) (by decide) (by decide)
theorem voidQuote (h : Head) (slot gen : Nat) : Statement (.voidQuote h slot gen) :=
  of_row _ _ _ _ _ rfl (by simp +contextual [Instr.wf]) (by decide) (by decide) (by decide)
theorem collect (h : Head) (code : Text) : Statement (.collect h code) :=
  of_row _ _ _ _ _ rfl (by simp +contextual [Instr.wf]) (by decide) (by decide) (by decide)
theorem returnBegin (h : Head) (carrierId : Nat) (size : Option SizeClass) (parcelRef : Text)
    : Statement (.returnBegin h carrierId size parcelRef) :=
  of_row _ _ _ _ _ rfl (by simp +contextual [Instr.wf]) (by decide) (by decide) (by decide)
theorem returnCancel (h : Head) (record : Nat) (sense : Sense) : Statement (.returnCancel h record sense) :=
  of_row _ _ _ _ _ rfl (by simp +contextual [Instr.wf]) (by decide) (by decide) (by decide)
theorem releaseCharge (h : Head) (slot gen : Nat) : Statement (.releaseCharge h slot gen) :=
  of_row _ _ _ _ _ rfl (by simp +contextual [Instr.wf]) (by decide) (by decide) (by decide)
theorem slotWrite (h : Head) (slot : Nat) (fields : SlotFields) : Statement (.slotWrite h slot fields) :=
  of_row _ _ _ _ _ rfl (by simp +contextual [Instr.wf]) (by decide) (by decide) (by decide)
theorem slotRead (h : Head) (slot : Nat) : Statement (.slotRead h slot) :=
  of_row _ _ _ _ _ rfl (by simp +contextual [Instr.wf]) (by decide) (by decide) (by decide)
theorem handOver (h : Head) (first count : Nat) : Statement (.handOver h first count) :=
  of_row _ _ _ _ _ rfl (by simp +contextual [Instr.wf]) (by decide) (by decide) (by decide)
theorem start (h : Head) (slot : Nat) : Statement (.start h slot) :=
  of_row _ _ _ _ _ rfl (by simp +contextual [Instr.wf]) (by decide) (by decide) (by decide)
theorem resume (h : Head) : Statement (.resume h) :=
  of_row _ _ _ _ _ rfl (by simp +contextual [Instr.wf]) (by decide) (by decide) (by decide)
theorem stop (h : Head) (sense : Sense) : Statement (.stop h sense) :=
  of_row _ _ _ _ _ rfl (by simp +contextual [Instr.wf]) (by decide) (by decide) (by decide)
theorem fetchCharge (h : Head) (ref : Option (Nat × Nat)) : Statement (.fetchCharge h ref) :=
  of_row _ _ _ _ _ rfl (by simp +contextual [Instr.wf]) (by decide) (by decide) (by decide)
theorem paymentResult (h : Head) (slot gen : Nat) (outcome : Option CardOutcome) (amountO amountK : Nat)
    : Statement (.paymentResult h slot gen outcome amountO amountK) :=
  of_row _ _ _ _ _ rfl (by simp +contextual [Instr.wf]) (by decide) (by decide) (by decide)
theorem setCompartment (h : Head) (comp : Nat) (fitted : Option Bool) (size : Option SizeClass) (use : Option UseClass)
    : Statement (.setCompartment h comp fitted size use) :=
  of_row _ _ _ _ _ rfl (by simp +contextual [Instr.wf]) (by decide) (by decide) (by decide)
theorem withholdToReview (h : Head) (targetOk : Bool) (comp : Nat)
    : Statement (.withholdToReview h targetOk comp) :=
  of_row _ _ _ _ _ rfl (by simp +contextual [Instr.wf]) (by decide) (by decide) (by decide)
theorem withholdToOutOfService (h : Head) (targetOk : Bool) (comp : Nat)
    : Statement (.withholdToOutOfService h targetOk comp) :=
  of_row _ _ _ _ _ rfl (by simp +contextual [Instr.wf]) (by decide) (by decide) (by decide)
theorem resolveReviewRestore (h : Head) (actionOk : Bool) (comp : Nat)
    : Statement (.resolveReviewRestore h actionOk comp) :=
  of_row _ _ _ _ _ rfl (by simp +contextual [Instr.wf]) (by decide) (by decide) (by decide)
theorem resolveReviewWaive (h : Head) (actionOk : Bool) (comp : Nat)
    : Statement (.resolveReviewWaive h actionOk comp) :=
  of_row _ _ _ _ _ rfl (by simp +contextual [Instr.wf]) (by decide) (by decide) (by decide)
theorem resolveReviewRetire (h : Head) (actionOk : Bool) (comp : Nat)
    : Statement (.resolveReviewRetire h actionOk comp) :=
  of_row _ _ _ _ _ rfl (by simp +contextual [Instr.wf]) (by decide) (by decide) (by decide)
theorem resolveReviewWithdraw (h : Head) (actionOk : Bool) (comp : Nat)
    : Statement (.resolveReviewWithdraw h actionOk comp) :=
  of_row _ _ _ _ _ rfl (by simp +contextual [Instr.wf]) (by decide) (by decide) (by decide)
theorem returnToService (h : Head) (comp : Nat) : Statement (.returnToService h comp) :=
  of_row _ _ _ _ _ rfl (by simp +contextual [Instr.wf]) (by decide) (by decide) (by decide)
theorem amendHolding (h : Head) (comp : Nat) (sel : BitVec 16) (v : AmendFields)
    : Statement (.amendHolding h comp sel v) :=
  of_row _ _ _ _ _ rfl (by simp +contextual [Instr.wf]) (by decide) (by decide) (by decide)
theorem setCarrier (h : Head) (index : Nat) (sel : BitVec 16) (v : CarrierFields)
    : Statement (.setCarrier h index sel v) :=
  of_row _ _ _ _ _ rfl (by simp +contextual [Instr.wf]) (by decide) (by decide) (by decide)
theorem readCarrier (h : Head) (index : Nat) : Statement (.readCarrier h index) :=
  of_row _ _ _ _ _ rfl (by simp +contextual [Instr.wf]) (by decide) (by decide) (by decide)
theorem setTariff (h : Head) (target : Nat) (sel : BitVec 16) (cls : ClassValues) (bank : BankValues)
    : Statement (.setTariff h target sel cls bank) :=
  of_row _ _ _ _ _ rfl (by simp +contextual [Instr.wf]) (by decide) (by decide) (by decide)
theorem readTariff (h : Head) (target : Nat) : Statement (.readTariff h target) :=
  of_row _ _ _ _ _ rfl (by simp +contextual [Instr.wf]) (by decide) (by decide) (by decide)
theorem setMasks (h : Head) (set : Byte) : Statement (.setMasks h set) :=
  of_row _ _ _ _ _ rfl (by simp +contextual [Instr.wf]) (by decide) (by decide) (by decide)
theorem clearConditions (h : Head) (set : Byte) : Statement (.clearConditions h set) :=
  of_row _ _ _ _ _ rfl (by simp +contextual [Instr.wf]) (by decide) (by decide) (by decide)
theorem readConditions (h : Head) : Statement (.readConditions h) :=
  of_row _ _ _ _ _ rfl (by simp +contextual [Instr.wf]) (by decide) (by decide) (by decide)
theorem serviceRelease (h : Head) (comp : Nat) (clearance : Option Bool)
    : Statement (.serviceRelease h comp clearance) :=
  of_row _ _ _ _ _ rfl (by simp +contextual [Instr.wf]) (by decide) (by decide) (by decide)
theorem withdrawService (h : Head) (comp : Nat) : Statement (.withdrawService h comp) :=
  of_row _ _ _ _ _ rfl (by simp +contextual [Instr.wf]) (by decide) (by decide) (by decide)
theorem testPulse (h : Head) (comp : Nat) : Statement (.testPulse h comp) :=
  of_row _ _ _ _ _ rfl (by simp +contextual [Instr.wf]) (by decide) (by decide) (by decide)
theorem columnRestore (h : Head) (column : Nat) : Statement (.columnRestore h column) :=
  of_row _ _ _ _ _ rfl (by simp +contextual [Instr.wf]) (by decide) (by decide) (by decide)
theorem setTiming (h : Head) (sel : BitVec 16) (v : TimingFields) : Statement (.setTiming h sel v) :=
  of_row _ _ _ _ _ rfl (by simp +contextual [Instr.wf]) (by decide) (by decide) (by decide)
theorem readCompartment (h : Head) (comp : Nat) : Statement (.readCompartment h comp) :=
  of_row _ _ _ _ _ rfl (by simp +contextual [Instr.wf]) (by decide) (by decide) (by decide)
theorem readConsignment (h : Head) (record : Nat) : Statement (.readConsignment h record) :=
  of_row _ _ _ _ _ rfl (by simp +contextual [Instr.wf]) (by decide) (by decide) (by decide)
theorem readCharge (h : Head) (slot : Nat) : Statement (.readCharge h slot) :=
  of_row _ _ _ _ _ rfl (by simp +contextual [Instr.wf]) (by decide) (by decide) (by decide)
theorem readQueueQueue (h : Head) (partOk : Bool) : Statement (.readQueueQueue h partOk) :=
  of_row _ _ _ _ _ rfl (by simp +contextual [Instr.wf]) (by decide) (by decide) (by decide)
theorem readQueueEngine (h : Head) (partOk : Bool) : Statement (.readQueueEngine h partOk) :=
  of_row _ _ _ _ _ rfl (by simp +contextual [Instr.wf]) (by decide) (by decide) (by decide)
theorem readQueuePickup (h : Head) (partOk : Bool) (slot : Nat) : Statement (.readQueuePickup h partOk slot) :=
  of_row _ _ _ _ _ rfl (by simp +contextual [Instr.wf]) (by decide) (by decide) (by decide)
theorem readQueueLists (h : Head) (partOk : Bool) : Statement (.readQueueLists h partOk) :=
  of_row _ _ _ _ _ rfl (by simp +contextual [Instr.wf]) (by decide) (by decide) (by decide)
theorem readClock (h : Head) : Statement (.readClock h) :=
  of_row _ _ _ _ _ rfl (by simp +contextual [Instr.wf]) (by decide) (by decide) (by decide)
theorem unknownRequestCode (h : Head) (code : Byte) : Statement (.unknownRequestCode h code) :=
  of_event _ rfl
theorem frameDiscarded (port : Fin 4) : Statement (.frameDiscarded port) :=
  of_event _ rfl
theorem frameGapTimeout (port : Fin 4) : Statement (.frameGapTimeout port) :=
  of_event _ rfl
theorem responseSent (port : Fin 4) : Statement (.responseSent port) :=
  of_event _ rfl
theorem armingEnd (column : Column) : Statement (.armingEnd column) :=
  of_event _ rfl
theorem pulseGood (column : Column) (sense : Sense) : Statement (.pulseGood column sense) :=
  of_event _ rfl
theorem pulseOpenCoil (column : Column) (sense : Sense) : Statement (.pulseOpenCoil column sense) :=
  of_event _ rfl
theorem pulseShort (column : Column) (sense : Sense) : Statement (.pulseShort column sense) :=
  of_event _ rfl
theorem testPulseEnd (column : Column) (outcome : PulseOutcome) (sense : Sense)
    : Statement (.testPulseEnd column outcome sense) :=
  of_event _ rfl
theorem runWindowEnd (column : Column) (sense : Sense) : Statement (.runWindowEnd column sense) :=
  of_event _ rfl
theorem recoveringEnd (column : Column) : Statement (.recoveringEnd column) :=
  of_event _ rfl
theorem svcKeyOn : Statement .svcKeyOn :=
  of_event _ rfl
theorem svcKeyOff : Statement .svcKeyOff :=
  of_event _ rfl
theorem pfailAssert : Statement .pfailAssert :=
  of_event _ rfl
theorem pfailNegate (straps : Straps) : Statement (.pfailNegate straps) :=
  of_event _ rfl
theorem mainsFall : Statement .mainsFall :=
  of_event _ rfl
theorem mainsReturn (straps : Straps) : Statement (.mainsReturn straps) :=
  of_event _ rfl
theorem resetAssert : Statement .resetAssert :=
  of_event _ rfl
theorem resetRelease (straps : Straps) : Statement (.resetRelease straps) :=
  of_event _ rfl
theorem retentionLoss : Statement .retentionLoss :=
  of_event _ rfl
theorem custodyTick : Statement .custodyTick :=
  of_event _ rfl
theorem chargeExpiry (slot : ChargeSlot) : Statement (.chargeExpiry slot) :=
  of_event _ rfl
theorem lockoutEnd : Statement .lockoutEnd :=
  of_event _ rfl
theorem sweepStart : Statement .sweepStart :=
  of_event _ rfl
theorem sweepColumnStep (sense : Sense) : Statement (.sweepColumnStep sense) :=
  of_event _ rfl
theorem openWindowEnd (comp : Comp) : Statement (.openWindowEnd comp) :=
  of_event _ rfl
theorem ajarTimerEnd (comp : Comp) : Statement (.ajarTimerEnd comp) :=
  of_event _ rfl

end Sys2Proof.Laws.F
end

