-- ==== Sys2Proof/Laws/Serve.lean ====
section
/-! SUPPORT. What becomes of a frame and of an event, said once for all commands: a frame that passes the checks of R202
is its block's, and one that does not is refused on its port. -/

namespace Sys2Proof.Machine

variable {s : State} {h : Head} {code : Byte} {role : Role} {n : Nat} {late : State → List Field}
  {body : State → State × Answer}

/-- A state between steps begins a command as it is. -/
theorem begin_of_settled (hs : s.Settled) : s.begin = s := by
  obtain ⟨a, b⟩ := hs
  cases s
  simp_all [State.begin]

/-- Nothing a command leaves unnoted has consequences. -/
theorem complete_settled_id (hs : s.Settled) : s.complete = s := complete_of_settled hs.1 hs.2

/-- A frame that passes the checks of R202 reaches its block. -/
theorem serveLate_passes {carried : Role → Bool} (hp : s.FramePasses h role n) (hc : carried role = true) :
    s.serveLate h code carried n late body = (s.frameTaken h.port).takeRequest h code late body := by
  obtain ⟨hs, hr, hb, hrole, hl⟩ := hp
  unfold State.serveLate
  rw [begin_of_settled hs]
  have e : (s.frameTaken h.port).port h.port = { s.port h.port with receiving := [] } := onPort_port_same ..
  simp [hr, e, hb, hrole, hl, hc]

theorem serve_passes {carried : Role → Bool} (hp : s.FramePasses h role n) (hc : carried role = true) :
    s.serve h code carried n body = (s.frameTaken h.port).takeRequest h code (fun _ => []) body :=
  serveLate_passes hp hc

/-- A request whose block notes no consequence ends with its response (R203, R204). -/
theorem takeRequest_quiet (hs : (body s).1.Settled) :
    s.takeRequest h code late body = (body s).1.respond h code ((body s).2.withLate (late (body s).1)) := by
  unfold State.takeRequest
  simp [complete_settled_id hs]

/-- The common checks of a custody request pass (R30, R31, R193). -/
theorem guarded_passes {b : State × Answer} (hi : s.InService) : s.guarded b = b := by
  unfold State.guarded State.unlessRestoring State.unlessUncommissioned
  simp [hi.1, hi.2]

/-- An event in a running part makes its change and ends the step. -/
theorem event_running {f : State → State} (hr : s.Running) : s.event f = (f s).complete := by
  unfold State.event
  simp [hr.2, begin_of_settled hr.1]

/-! ### Operands that name what exists -/

@[simp] theorem compOf_val (c : Comp) : compOf c.val = some c := by simp [compOf, c.isLt]
@[simp] theorem recordOf_val (n : RecordNo) : recordOf n.val = some n := by simp [recordOf, n.isLt]
@[simp] theorem ringSlotOf_val (i : RingSlot) : ringSlotOf i.val = some i := by simp [ringSlotOf, i.isLt]
@[simp] theorem chargeSlotOf_val (i : ChargeSlot) : chargeSlotOf i.val = some i := by simp [chargeSlotOf, i.isLt]
@[simp] theorem carrierOf_val (i : Fin 8) : carrierOf i.val = some i := by simp [carrierOf, i.isLt]
@[simp] theorem classOf_val (i : Fin 4) : classOf i.val = some i := by simp [classOf, i.isLt]
@[simp] theorem columnOf_val (c : Column) : columnOf c.val = some c := by simp [columnOf, c.isLt]

/-- A frame changes no port but its own. -/
theorem frameTaken_other (p q : Fin 4) (hq : q ≠ p) : (s.frameTaken p).port q = s.port q :=
  onPort_port_other _ _ _ _ hq

@[simp] theorem frameTaken_settled (p : Fin 4) : (s.frameTaken p).Settled ↔ s.Settled := Iff.rfl

/-- An answer with no late field. -/
@[simp] theorem withLate_nil (a : Answer) : a.withLate [] = a := by
  obtain ⟨r, _, _, _⟩ := a
  cases r <;> simp [Answer.withLate]

/-- A request that passes the checks of R202 is answered after the consequences of its block's change (R203, R204). -/
theorem serve_completes {carried : Role → Bool} {t : State} {a : Answer} (hp : s.FramePasses h role n)
    (hc : carried role = true) (hb : body (s.frameTaken h.port) = (t, a)) :
    s.serve h code carried n body = t.complete.respond h code a := by
  rw [serve_passes hp hc]
  unfold State.takeRequest
  simp [hb]

/-- A request whose block's change has no consequence. -/
theorem serve_answers {carried : Role → Bool} {t : State} {a : Answer} (hp : s.FramePasses h role n)
    (hc : carried role = true) (hb : body (s.frameTaken h.port) = (t, a)) (ht : t.Settled) :
    s.serve h code carried n body = t.respond h code a := by
  rw [serve_completes hp hc hb, complete_settled_id ht]

/-- A courier request is answered with the engine's state after it (R71, R91). -/
theorem serveCourier_completes {t : State} {a : Answer} (hp : s.FramePasses h .courier n)
    (hb : body (s.frameTaken h.port) = (t, a)) :
    s.serveCourier h code n body = t.complete.respond h code (a.withLate t.complete.engineField) := by
  unfold State.serveCourier
  rw [serveLate_passes hp rfl]
  unfold State.takeRequest
  simp [hb]

end Sys2Proof.Machine
end

