-- ==== Sys2Proof/Tests/Slice0.lean ====
section
/-! SUPPORT. The model's own tests: the smoke test of WellFormed, the manual's worked cases, one step of each command
on a small bank, and for each obligation a state and operands that meet its hypotheses. -/

namespace Sys2Proof.Tests

set_option Elab.async false

open Sys2Proof Sys2Proof.Machine

/-! ### A small bank -/

/-- A compartment entry, fitted, of size S and use class ANY, in a state with a holding. -/
def cell (st : CustodyState) (x : Option Holding) : CompartmentEntry :=
  { fitted := true, size := .s, use := .any, state := st, cause := none, holding := x }

/-- A holding of a record, deposited at minute 40. -/
def held (r : RecordNo) (rest : RestState) : Holding :=
  { record := r, parcelRef := none, size := .s, tariffClass := 0, depositMinute := some 40, rest := some rest,
    claimant := none, origin := .console, causes := [], releaseInterrupted := false, collectIncomplete := false }

/-- A delivery of carrier 0 with a code. -/
def delivery (code : Nat) (pieces : List Comp) : Consignment :=
  { code := some code, kind := .delivery, carrier := 0, pieces := pieces, cod := 0, laneO := 0, laneK := 0, paidO := 0,
    paidK := 0, paidThrough := none, waived := false, openRef := none }

/-- A return of carrier 0 with its fee in lane O. -/
def returned (piece : Comp) (fee : Nat) : Consignment :=
  { delivery 0 [piece] with code := none, kind := .returnDrop, laneO := fee }

/-- Compartment 0 FREE, 1 HELD (delivery 12345678), 2 RESERVED (return, unpaid), 3 REVIEW (delivery 22222222),
4 OUT_OF_SERVICE without a holding, 5 RELEASING to the customer (delivery 33333333), 6 LOADING, 7 EMPTYING,
143 FREE; every door SHUT; minute 100; class 0 asks 100 for each 15 minutes. -/
def bank : State :=
  let s := State.reset
  let s := { s with
    power := { s.power with restoring := false }
    clock := { minute := 100, subMinute := 5 }
    scanner := { s.scanner with doors := Vector.replicate 144 (some .shut), phase := .normal, sweeping := false }
    tariff := { s.tariff with classes := put s.tariff.classes 0 ⟨0, 15, 0, 100, 100, 0, 60⟩ }
    carriers := put s.carriers 0 { id := 77, enabled := true, rights := ⟨true, true, true, true⟩,
                                   sizes := ⟨true, true, true, true⟩, tariffClass := 0, mode := .prepaid,
                                   quota := 144, live := 6 }
    custody := { s.custody with codeMap := [(12345678, 1), (22222222, 3), (33333333, 5)] }
    codeGen := { seed := 0, position := 0, drawn := 1 } }
  let s := s.putEntry 0 (cell .free none)
  let s := s.putEntry 1 (cell .held (some (held 1 .held)))
  let s := s.putEntry 2 (cell .reserved (some { held 2 .held with rest := none, depositMinute := none }))
  let s := s.putEntry 3 (cell .review (some { held 3 .overstayed with causes := [.operator] }))
  let s := s.putEntry 4 { cell .outOfService none with cause := some .operator }
  let s := s.putEntry 5 (cell .releasing (some { held 5 .held with claimant := some .customer }))
  let s := s.putEntry 6 (cell .loading (some { held 6 .held with rest := none, depositMinute := none }))
  let s := s.putEntry 7 (cell .emptying (some { held 5 .held with claimant := some .customer }))
  let s := s.putEntry 143 (cell .free none)
  let s := s.putRecord 1 (some (delivery 12345678 [1]))
  let s := s.putRecord 2 (some (returned 2 0))
  let s := s.putRecord 3 (some (delivery 22222222 [3]))
  let s := s.putRecord 5 (some (delivery 33333333 [5, 7]))
  s.putRecord 6 (some (returned 6 0))

/-- A frame's head on a port, with its payload length. -/
def head (port : Fin 4) (len : Nat) : Head := { port := port, seq := 7, len := len }

/-- The console stands at port 0, the courier at 1, the payment module at 2, operations at 3. -/
theorem bank_inService : bank.InService := by unfold State.InService; decide +kernel

/-- The text of a code. -/
def digits (n : Nat) : Text := codeBytes n

/-- The state after a command. -/
def after (c : Instr) (s : State) : State :=
  match exec c s with
  | .next t => t
  | .fault _ | .refused _ => s

/-- What a port answers to a command: the result and reason of the response it sends last. -/
def answer (c : Instr) (s : State) (p : Fin 4) : Option (Result × Option Reason) :=
  ((after c s).port p).sending.getLast?.map fun x => (x.response.result, x.response.reason)

/-- The bank with one command's port answering operations: 3 is the operations port. -/
def ops (len : Nat) : Head := head 3 len

/-- The bank with charge slot 0 holding a charge of generation 1 for the delivery of record 1. -/
def charged (st : ChargeState) : State :=
  let s := { bank with charges := { bank.charges with
    gens := put bank.charges.gens 0 1
    recs := put bank.charges.recs 0 { ChargeRecord.blank with
      state := st, record := some 1, laneO := 400, expiry := secUnits 120, code := some 12345678 }
    ended := if st.isEnded then [0] else [] } }
  s.updRecord 1 fun k => { k with openRef := if st.isLive then some ⟨0, 1⟩ else none }

/-- The bank with one release entry in flight for compartment 5 and column 0 pulsing. -/
def pulsing (cls : EntryClass) (attempt : Nat) (restore : Bool) : State :=
  let s := { bank with seq := { bank.seq with
    queue := [{ comp := 5, cls := cls, purpose := .collect, origin := .console, attempt := attempt, passOver := 0,
                restore := restore, inFlight := true }]
    flight := [{ comp := 5, purpose := .collect, restore := restore }] } }
  s.putColumn 0 (.pulsing (msUnits 600) (msUnits 150))

/-- The bank with the manifest engine in a state. -/
def engineIn (st : EngineState) : State := { bank with engine := { bank.engine with state := st } }

/-- A sense in which every door reads shut and every compartment empty, but for the named ones. -/
def senseOf (opens occupied : BitVec 144) : Sense := { doors := opens, occupied := occupied }

/-- The quiet sense. -/
def quiet : Sense := senseOf 0 0

/-- The straps of the bank. -/
def straps : Straps :=
  #v[⟨.console, .k115⟩, ⟨.courier, .k115⟩, ⟨.payment, .k115⟩, ⟨.operations, .k115⟩]

/-- The bank whose class 0 asks nothing. -/
def freeBank : State :=
  { bank with tariff := { bank.tariff with classes := put bank.tariff.classes 0 ⟨0, 15, 0, 0, 0, 0, 60⟩ } }

/-- A part whose supply has fallen. -/
def fallen : State := { bank with power := { bank.power with running := false, mains := false } }

/-- A part that the RESET line holds stopped. -/
def heldReset : State := { bank with power := { bank.power with running := false, resetLine := true } }

/-- A part that waits for PFAIL to be negated. -/
def heldPfail : State := { bank with power := { bank.power with running := false, pfail := true } }

/-! ### The smoke test of WellFormed -/

/-- A slot's fields that a frame can carry. -/
def goodSlot : SlotFields :=
  { kind := some .drop, first := true, last := true, notify := true, carrierId := 77, parcelRef := [], size := some .s,
    cod := none, code := some (digits 1) }

theorem test_wf_good : Instr.wf (.lookup (head 0 8) (digits 12345678)) = true ∧
    Instr.wf (.slotWrite (head 1 43) 31 goodSlot) = true ∧ Instr.wf .custodyTick = true := by decide +kernel
theorem test_wf_length : Instr.wf (.readNotice (head 0 256)) = false := by decide
theorem test_wf_code : Instr.wf (.lookup (head 0 8) [0x31]) = false := by decide
theorem test_wf_byte : Instr.wf (.start (head 1 1) 256) = false := by decide
theorem test_wf_word : Instr.wf (.returnBegin (head 0 26) 4294967296 none []) = false := by decide
theorem test_wf_parcel : Instr.wf (.returnBegin (head 0 26) 0 none (List.replicate 22 0x41)) = false := by decide
theorem test_wf_slot : Instr.wf (.slotWrite (head 1 43) 0 { goodSlot with cod := some 4294967296 }) = false ∧
    Instr.wf (.slotWrite (head 1 43) 0 { goodSlot with code := some [] }) = false ∧
    Instr.wf (.slotWrite (head 1 43) 0 { goodSlot with carrierId := 4294967296 }) = false := by decide +kernel
theorem test_wf_reference : Instr.wf (.fetchCharge (head 2 3) (some (0, 256))) = false := by decide
theorem test_wf_class :
    Instr.wf (.setTariff (ops 25) 0 0 ⟨65536, 0, 0, 0, 0, 0, 0⟩ ⟨⟨0, 0, 0, 0⟩, ⟨0, 0, 0, 0⟩, none, 0⟩) = false := by decide
theorem test_wf_bank :
    Instr.wf (.setTariff (ops 25) 4 0 ⟨0, 0, 0, 0, 0, 0, 0⟩ ⟨⟨256, 0, 0, 0⟩, ⟨0, 0, 0, 0⟩, none, 0⟩) = false ∧
    Instr.wf (.setTariff (ops 25) 4 0 ⟨0, 0, 0, 0, 0, 0, 0⟩ ⟨⟨0, 0, 0, 0⟩, ⟨0, 0, 0, 4294967296⟩, none, 0⟩) = false := by
  decide
theorem test_wf_amend : Instr.wf (.amendHolding (ops 34) 0 0 ⟨[], 256, 0, none, 0⟩) = false := by decide
theorem test_wf_carrier : Instr.wf (.setCarrier (ops 13) 0 0 ⟨0, none, 0, 0, 0, none, 256⟩) = false := by decide
theorem test_wf_timing : Instr.wf (.setTiming (ops 8) 0 ⟨65536, 0, 0, 0⟩) = false := by decide

/-! ### The manual's worked cases (section 5.7, chapter 11) -/

/-- Tariff class 1 of section 5.7. -/
def classOne : ClassValues := ⟨60, 30, 4, 150, 100, 1200, 4320⟩

theorem test_two_pieces : (pieceFee classOne 12 .nearestEven 10000 10437).1 = 1800 ∧
    (pieceFee classOne 10 .nearestEven 10000 10437).1 = 1500 ∧
    (pieceFee classOne 12 .nearestEven 10000 10437).2.capped = true ∧
    (pieceFee classOne 10 .nearestEven 10000 10200).1 = 875 ∧
    (pieceFee classOne 11 .nearestEven 10000 10200).1 = 962 ∧ (pieceFee classOne 11 .up 10000 10200).1 = 963 := by
  decide
theorem test_started_days : (pieceFee classOne 12 .nearestEven 10000 13000).1 = 5400 ∧
    (stageCap 10000 1200 1440).1 = 1200 ∧ (stageCap 10000 1200 1441).1 = 2400 := by decide
theorem test_tie_and_saturation :
    (pieceFee { classOne with c := 700 } 12 .nearestEven 10000 10200).2.capped = true ∧
    (pieceFee ⟨0, 15, 0, 0, 9999, 0, 0⟩ 16 .nearestEven 0 2000).1 = 999999 ∧
    (pieceFee ⟨0, 15, 0, 0, 9999, 0, 0⟩ 16 .nearestEven 0 2000).2.sat = true := by decide
theorem test_rounding : ([8, 9, 10, 12, 13, 20].map fun m => (stageScale .nearestEven 1003 m).1) =
      [1003, 1128, 1254, 1504, 1630, 2508] ∧
    ([8, 9, 10, 12, 13, 20].map fun m => (stageScale .up 1003 m).1) = [1003, 1129, 1254, 1505, 1630, 2508] ∧
    ([8, 9, 10, 12, 13, 20].map fun m => (stageScale .down 1003 m).2) = [false, true, true, true, true, true] := by
  decide
theorem test_future_deposit : (pieceFee classOne 12 .nearestEven 10500 10437).1 = 0 ∧
    (pieceFee classOne 12 .nearestEven 10500 10437).2.clock = true := by decide
theorem test_return_lanes : returnLanes .split 120 = (60, 60) ∧ returnLanes .split 351 = (176, 175) ∧
    returnLanes .split 353 = (176, 177) ∧ returnLanes .carrierFull 353 = (0, 353) := by decide

theorem test_crc : crc16 [0x31, 0x32, 0x33, 0x34, 0x35, 0x36, 0x37, 0x38, 0x39] = 0x29B1 := by decide +kernel
theorem test_frame_read : readFrame 3 quiet (frame 9 0x4D [5]) =
    some (.withdrawService { port := 3, seq := 9, len := 1 } 5) := by decide +kernel
theorem test_frame_spoilt : readFrame 3 quiet [0x5A, 1, 9, 0x4D, 5, 0, 0] = some (.frameDiscarded 3) := by
  decide +kernel

theorem test_receive : (bank.receiveBytes 3 quiet ([0x00, 0xFF] ++ frame 9 0x4D [5])).pending =
      [.withdrawService { port := 3, seq := 9, len := 1 } 5] ∧
    ((bank.receiveBytes 3 quiet [0xFF, 0x5A, 1]).port 3).receiving = [0x5A, 1] ∧
    ((bank.receiveBytes 3 quiet [0xFF, 0x5A, 1]).receive 3 quiet none).pending = [.frameDiscarded 3] ∧
    (bank.receive 3 quiet none).pending = [] := by decide +kernel

/-- A byte's levels, written out: start bit, 10110010 with the least significant bit first, stop bit. -/
theorem test_byteLevels : byteLevels 0xB2 = [false, false, true, false, false, true, true, false, true, true] ∧
    lineBytes ([true, true] ++ byteLevels 0xB2 ++ [true] ++ byteLevels 0x5A) = [some 0xB2, some 0x5A] ∧
    lineBytes [false, true, true, true, true, true, true, true, true, false, true] = [none] := by decide
theorem test_receiveLevels :
    (bank.receiveLevels 3 quiet ([true, true] ++ (frame 9 0x4D [5]).flatMap byteLevels)).pending =
      [.withdrawService { port := 3, seq := 9, len := 1 } 5] := by decide +kernel
theorem test_responseBytes : (Response.mk 9 0x4D .refused (some .unknown) 2 false [.u8 7]).frame =
    frame 9 0x4D [2, BitVec.ofNat 8 (Reason.unknown.ctorIdx + 1), 2, 1, 7] := by decide +kernel

theorem test_compartment_fields :
    ((bank.compFields 0).flatMap fieldBytes).length = ((bank.compFields 1).flatMap fieldBytes).length ∧
    holdingWidth = (((bank.entry 1).fields.drop 6).flatMap fieldBytes).length := by decide +kernel

/-! ### One step of each command -/

theorem test_readNotice : answer (.readNotice (ops 0)) bank 3 = some (.done, none) ∧
    ((after (.readNotice (ops 0)) bank).port 3).queue = [] := by decide +kernel
theorem test_portReset : answer (.portReset (head 0 0) quiet) (charged .opened) 0 = some (.done, none) ∧
    ((after (.portReset (head 0 0) quiet) (charged .opened)).charge 0).state = .void := by decide +kernel
theorem test_lookup : answer (.lookup (head 0 8) (digits 12345678)) bank 0 = some (.done, none) ∧
    answer (.lookup (head 0 8) (digits 1)) bank 0 = some (.refused, some .unknown) := by decide +kernel
theorem test_quote : answer (.quote (head 0 8) (digits 12345678)) bank 0 = some (.accepted, none) ∧
    ((after (.quote (head 0 8) (digits 12345678)) bank).charge 0).laneO = 400 := by decide +kernel
theorem test_voidQuote : answer (.voidQuote (head 0 2) 0 1) (charged .opened) 0 = some (.done, none) ∧
    ((after (.voidQuote (head 0 2) 0 1) (charged .opened)).charge 0).cause = some .voidQuote := by decide +kernel
theorem test_collect : answer (.collect (head 0 8) (digits 12345678)) bank 0 = some (.refused, some .due) ∧
    answer (.collect (head 0 8) (digits 12345678)) freeBank 0 = some (.accepted, none) ∧
    (after (.collect (head 0 8) (digits 12345678)) freeBank).custodyState 1 = .releasing := by decide +kernel
theorem test_returnBegin : answer (.returnBegin (head 0 26) 77 (some .s) []) bank 0 = some (.accepted, none) ∧
    (after (.returnBegin (head 0 26) 77 (some .s) []) bank).custodyState 0 = .reserved ∧
    (after (.returnBegin (head 0 26) 77 (some .s) []) bank).flying.length = 1 := by decide +kernel
theorem test_returnCancel : answer (.returnCancel (head 0 1) 2 quiet) bank 0 = some (.done, none) ∧
    (after (.returnCancel (head 0 1) 2 quiet) bank).custodyState 2 = .free ∧
    (after (.returnCancel (head 0 1) 2 quiet) bank).record 2 = none := by decide +kernel
theorem test_releaseCharge : answer (.releaseCharge (head 0 2) 0 1) (charged .paid) 0 = some (.done, none) ∧
    ((after (.releaseCharge (head 0 2) 0 1) (charged .paid)).charge 0).state = .free := by decide +kernel
theorem test_slotWrite : answer (.slotWrite (head 1 43) 31 goodSlot) bank 1 = some (.done, none) ∧
    ((after (.slotWrite (head 1 43) 31 goodSlot) bank).slot 31).desc.carrierId = 77 := by decide +kernel
theorem test_slotRead : answer (.slotRead (head 1 1) 31) bank 1 = some (.done, none) := by decide +kernel
theorem test_handOver : answer (.handOver (head 1 2) 31 2) bank 1 = some (.done, none) ∧
    ((after (.handOver (head 1 2) 31 2) bank).slot 0).owner = .engine := by decide +kernel
theorem test_start : answer (.start (head 1 1) 0) bank 1 = some (.done, none) ∧
    (after (.start (head 1 1) 0) bank).engine.state = .suspended := by decide +kernel
theorem test_resume : answer (.resume (head 1 0)) (engineIn .stopping) 1 = some (.refused, some .notReady) ∧
    (after (.resume (head 1 0)) (engineIn .suspended)).engine.state = .suspended := by decide +kernel
theorem test_stop : (after (.stop (head 1 0) quiet) (engineIn .running)).engine.state = .stopped := by decide +kernel
theorem test_fetchCharge : answer (.fetchCharge (head 2 3) none) (charged .opened) 2 = some (.done, none) ∧
    ((after (.fetchCharge (head 2 3) none) (charged .opened)).charge 0).state = .presented := by decide +kernel
theorem test_paymentResult :
    answer (.paymentResult (head 2 11) 0 1 (some .approved) 400 0) (charged .presented) 2 = some (.done, none) ∧
    ((after (.paymentResult (head 2 11) 0 1 (some .approved) 400 0) (charged .presented)).record 1).map
      (fun k => (k.paidO, k.paidThrough)) = some (400, some 115) := by decide +kernel
theorem test_setCompartment :
    (after (.setCompartment (ops 4) 20 (some true) (some .m) (some .any)) bank).custodyState 20 = .free ∧
    answer (.setCompartment (ops 4) 1 (some true) (some .m) (some .any)) bank 3 = some (.refused, some .occupied) := by
  decide +kernel
theorem test_withhold : (after (.withholdToReview (ops 2) true 1) bank).custodyState 1 = .review ∧
    (after (.withholdToOutOfService (ops 2) true 1) bank).custodyState 1 = .outOfService := by decide +kernel
theorem test_resolve : (after (.resolveReviewRestore (ops 2) true 3) bank).custodyState 3 = .overstayed ∧
    ((after (.resolveReviewWaive (ops 2) true 3) bank).record 3).map (·.waived) = some true ∧
    (after (.resolveReviewRetire (ops 2) true 3) bank).record 3 = none ∧
    (after (.resolveReviewWithdraw (ops 2) true 3) bank).custodyState 3 = .outOfService := by decide +kernel
theorem test_returnToService : (after (.returnToService (ops 1) 4) bank).custodyState 4 = .free := by decide +kernel
theorem test_amendHolding : ((after (.amendHolding (ops 34) 1 4 ⟨[], 0, 50, none, 0⟩) bank).holding 1).map
    (·.depositMinute) = some (some 50) := by decide +kernel
theorem test_setCarrier :
    ((after (.setCarrier (ops 13) 1 0x43 ⟨9, some true, 0, 0, 0, none, 200⟩) bank).carriers.get 1).quota = 144 ∧
    answer (.setCarrier (ops 13) 0 1 ⟨9, none, 0, 0, 0, none, 0⟩) bank 3 = some (.refused, some .occupied) := by
  decide +kernel
theorem test_readCarrier : answer (.readCarrier (ops 1) 7) bank 3 = some (.done, none) ∧
    answer (.readCarrier (ops 1) 8) bank 3 = some (.refused, some .format) := by decide +kernel
theorem test_setTariff :
    ((after (.setTariff (ops 25) 2 1 ⟨2000, 0, 0, 0, 0, 0, 0⟩ ⟨⟨0, 0, 0, 0⟩, ⟨0, 0, 0, 0⟩, none, 0⟩) bank).tariff.classes.get
      2).f = 1440 := by decide +kernel
theorem test_readTariff : answer (.readTariff (ops 1) 4) bank 3 = some (.done, none) ∧
    answer (.readTariff (ops 1) 5) bank 3 = some (.refused, some .format) := by decide +kernel
theorem test_setMasks : (after (.setMasks (ops 1) 0x21) bank).tariff.masks =
    ⟨true, false, false, false, false, true⟩ := by decide +kernel
theorem test_clearConditions : (after (.clearConditions (ops 1) 0x3F) bank).stickySet = CondSet.none := by
  decide +kernel
theorem test_readConditions : answer (.readConditions (ops 0)) bank 3 = some (.done, none) := by decide +kernel
theorem test_serviceRelease : answer (.serviceRelease (ops 2) 1 (some true)) bank 3 = some (.accepted, none) ∧
    (after (.serviceRelease (ops 2) 1 (some true)) bank).seq.pendingService = [1] := by decide +kernel
theorem test_withdrawService : answer (.withdrawService (ops 1) 1) bank 3 = some (.refused, some .unknown) := by
  decide +kernel
theorem test_testPulse : answer (.testPulse (ops 1) 0) bank 3 = some (.accepted, none) ∧
    (after (.testPulse (ops 1) 0) bank).column 0 = .arming (msUnits 30) := by decide +kernel
theorem test_columnRestore :
    answer (.columnRestore (ops 1) 8) (bank.putColumn 8 .disabled) 3 = some (.accepted, none) ∧
    answer (.columnRestore (ops 1) 8) bank 3 = some (.refused, some .notReady) := by decide +kernel
theorem test_setTiming : (after (.setTiming (ops 8) 3 ⟨1, 9, 0, 0⟩) bank).seq.pulseLength = 80 ∧
    (after (.setTiming (ops 8) 3 ⟨1, 9, 0, 0⟩) bank).seq.budget = 3 := by decide +kernel
theorem test_reads : answer (.readCompartment (ops 1) 143) bank 3 = some (.done, none) ∧
    answer (.readConsignment (ops 1) 5) bank 3 = some (.done, none) ∧
    answer (.readCharge (ops 1) 7) bank 3 = some (.done, none) ∧ answer (.readClock (ops 0)) bank 3 = some (.done, none) := by
  decide +kernel
theorem test_readQueue : answer (.readQueueQueue (ops 2) true) bank 3 = some (.done, none) ∧
    answer (.readQueueEngine (ops 2) true) bank 3 = some (.done, none) ∧
    answer (.readQueuePickup (ops 2) true 0) bank 3 = some (.refused, some .unknown) ∧
    answer (.readQueueLists (ops 2) true) bank 3 = some (.done, none) := by decide +kernel
theorem test_unknownRequestCode : answer (.unknownRequestCode (ops 0) 0x77) bank 3 = some (.refused, some .role) := by
  decide +kernel
theorem test_frames_without_answer : answer (.frameDiscarded 3) bank 3 = none ∧ answer (.frameGapTimeout 3) bank 3 = none := by
  decide +kernel
theorem test_responseSent :
    ((after (.responseSent 3) (after (.readClock (ops 0)) bank)).port 3).busy = false := by decide +kernel
theorem test_armingEnd : (after (.armingEnd 0) ((pulsing .custody 1 false).putColumn 0 (.arming 1))).column 0 =
    .pulsing (msUnits 600) (msUnits 150) := by decide +kernel
theorem test_drive : (pulsing .service 1 false).lockDrive 5 = some .full ∧ (pulsing .test 1 true).lockDrive 5 = some .reduced ∧
    (pulsing .custody 1 false).positionDrive 5 = true ∧ (pulsing .custody 1 false).positionDrive 4 = false ∧
    (bank.putColumn 0 (.arming 1)).columnDrive 0 = true ∧ (bank.putColumn 0 (.recovering 1)).columnLine 0 = false ∧
    (after .sweepStart bank).columnLine 0 = true := by decide +kernel
theorem test_pulseGood : (after (.pulseGood 0 quiet) (pulsing .custody 1 false)).door 5 =
      some (.released .custody (secUnits 20)) ∧
    (after (.pulseGood 0 quiet) (pulsing .custody 1 false)).column 0 = .recovering (msUnits 50) := by decide +kernel
theorem test_pulseOpenCoil :
    (after (.pulseOpenCoil 0 quiet) (pulsing .custody 1 false)).seq.queue.map (·.attempt) = [2] ∧
    (after (.pulseOpenCoil 0 quiet) (pulsing .custody 2 false)).custodyState 5 = .outOfService := by decide +kernel
theorem test_pulseShort : (after (.pulseShort 0 quiet) (pulsing .custody 1 false)).column 0 = .disabled ∧
    (after (.pulseShort 0 quiet) (pulsing .custody 1 false)).custodyState 5 = .held := by decide +kernel
theorem test_testPulseEnd : (after (.testPulseEnd 0 .good quiet) (pulsing .test 1 true)).column 0 =
      .recovering (msUnits 50) ∧
    (after (.testPulseEnd 0 .openCoil quiet) (pulsing .test 1 true)).column 0 = .disabled := by decide +kernel
theorem test_runWindowEnd : (after (.runWindowEnd 0 quiet) (bank.putColumn 0 (.armed 1))).column 0 =
    .recovering (msUnits 50) := by decide +kernel
theorem test_recoveringEnd : (after (.recoveringEnd 0) (bank.putColumn 0 (.recovering 1))).column 0 = .idle := by
  decide +kernel
theorem test_svcKey : (after .svcKeyOn bank).seq.svcKey = true ∧
    (after .svcKeyOff (after .svcKeyOn bank)).seq.svcKey = false := by decide +kernel
theorem test_pfail : (after .pfailAssert bank).power.pfail = true ∧
    (after (.pfailNegate straps) heldPfail).power.restoring = true := by decide +kernel
theorem test_mains : (after .mainsFall bank).power.running = false ∧
    (after (.mainsReturn straps) fallen).power.lastStart = .mainsReturn := by decide +kernel
theorem test_reset : (after .resetAssert bank).power.running = false ∧
    (after (.resetRelease straps) heldReset).power.lastStart = .resetLine := by decide +kernel
theorem test_retentionLoss : (after .retentionLoss bank).intact = false := by decide +kernel
theorem test_custodyTick : (after .custodyTick bank).clock = ⟨101, 0⟩ ∧
    (after .custodyTick bank).custodyState 1 = .overstayed := by decide +kernel
theorem test_chargeExpiry : ((after (.chargeExpiry 0) (charged .opened)).charge 0).state = .expired := by decide +kernel
theorem test_lockoutEnd : (after .lockoutEnd { bank with limiter := ⟨5, some 1⟩ }).limiter = ⟨0, none⟩ := by decide +kernel
theorem test_sweepStart : (after .sweepStart bank).scanner.sweeping = true ∧
    (after .sweepStart bank).scanner.pointer = 0 := by decide +kernel
theorem test_sweepColumnStep :
    (after (.sweepColumnStep (senseOf 1 0)) (after .sweepStart bank)).door 0 = some (.forced none) ∧
    (after (.sweepColumnStep (senseOf 1 0)) (after .sweepStart bank)).custodyState 0 = .outOfService := by decide +kernel
theorem test_openWindowEnd :
    (after (.openWindowEnd 5) (bank.setDoor 5 (some (.released .custody 1)))).custodyState 5 = .held := by decide +kernel
theorem test_ajarTimerEnd :
    (after (.ajarTimerEnd 5) (bank.setDoor 5 (some (.opened (some .custody) 1 none)))).door 5 =
      some (.ajar (some .custody) none) := by decide +kernel

/-! ### The hypotheses of the obligations are met -/

/-- A frame passes the checks of R202 on a state whose port and power are the bank's. -/
theorem passes (s : State) (h : Head) (r : Role) (n : Nat)
    (w : s.signals = [] ∧ s.arbiterDue = false ∧ s.power.running = true ∧ (s.port h.port).busy = false ∧
      (s.port h.port).role = some r ∧ h.len = n) : s.FramePasses h r n :=
  ⟨⟨w.1, w.2.1⟩, w.2.2.1, w.2.2.2.1, w.2.2.2.2.1, w.2.2.2.2.2⟩

/-- A state is in service. -/
theorem serves (s : State) (w : s.power.restoring = false ∧ s.anyFitted = true) : s.InService := w

/-- A state is between steps with its mains domain running. -/
theorem runs (s : State) (w : s.signals = [] ∧ s.arbiterDue = false ∧ s.power.running = true) : s.Running :=
  ⟨⟨w.1, w.2.1⟩, w.2.2⟩

theorem witness_EmptyQueue : bank.pending = [] ∧ fallen.pending = [] ∧ fallen.power.running = false ∧
    bank.power.running = true ∧ bank.clock.subMinute + 1 < 1966080 ∧ bank.charges.subSecond + 1 < 32768 := by
  decide +kernel

theorem witness_Invariants : bank.Settled ∧ bank.NoticesBounded ∧ bank.QueueBounded ∧ bank.OneEntryEach ∧
    bank.BudgetKept ∧ bank.ClockInRange ∧ ∃ t, step { bank with pending := [.testPulse (ops 1) 0] } = .next t := by
  unfold State.Settled State.NoticesBounded State.QueueBounded State.OneEntryEach State.BudgetKept State.ClockInRange
  exact ⟨by decide +kernel, by decide +kernel, by decide +kernel, by decide +kernel, by decide +kernel,
    by decide +kernel, _, rfl⟩

/-- The small bank meets the invariants of the custody table, the charges and the pulses, and steps. -/
theorem witness_CustodyInOrder : bank.CustodyInOrder ∧ ∃ t, step { bank with pending := [.custodyTick] } = .next t :=
  ⟨⟨by decide +kernel, by decide +kernel, by decide +kernel, by decide +kernel⟩, _, rfl⟩

theorem witness_ChargesInOrder : (charged .presented).ChargesInOrder ∧
    ∃ t, step { charged .presented with pending := [.chargeExpiry 0] } = .next t :=
  ⟨by decide +kernel, _, rfl⟩

theorem witness_PulsesInOrder : (pulsing .custody 1 false).PulsesInOrder ∧ State.reset.PulsesInOrder ∧
    ∃ t, step { pulsing .custody 1 false with pending := [.pulseGood 0 quiet] } = .next t := by
  refine ⟨?_, ?_, _, rfl⟩ <;> unfold State.PulsesInOrder State.OneEntryEach <;> decide +kernel

/-- LOCKOUT_END meets the premises of every frame. -/
theorem witness_Frames : Instr.NoPower .lockoutEnd ∧ Instr.NoPower .sweepStart ∧ ∃ t, exec .lockoutEnd bank = .next t := by
  refine ⟨⟨⟨?_, ?_, ?_⟩, ?_, ?_⟩, ⟨⟨?_, ?_, ?_⟩, ?_, ?_⟩, _, rfl⟩ <;> simp

theorem witness_RequestsKeepOtherPorts : requestRow (.readClock (ops 0)) = some (ops 0, 0x55, [.operations], 0) ∧
    (1 : Fin 4) ≠ (ops 0).port ∧ ∃ t, exec (.readClock (ops 0)) bank = .next t := ⟨rfl, by decide, _, rfl⟩

/-- A bank whose console port is busy with two transmissions, the first of them the response of a frame. -/
def busy : State :=
  { bank with ports := put bank.ports 0 { bank.port 0 with
    busy := true
    sending := [{ response := (bank.port 0).response (head 0 0) 0x01 (done []), clearsBusy := true, busyRefusal := false }] } }

theorem witness_FrameChecks : bank.Running ∧ busy.Running ∧ (busy.port 0).busy = true ∧
    (bank.port 3).busy = false ∧ (∀ r ∈ [Role.console], (bank.port 3).role ≠ some r) ∧
    (bank.port 0).role = some .console ∧ (head 0 7).len ≠ 8 :=
  ⟨runs _ (by decide +kernel), runs _ (by decide +kernel), by decide +kernel⟩

theorem witness_SerialLine : bank.power.running = true ∧ (busy.port 0).sending.length = 1 ∧
    (bank.port 3).role = some .operations ∧ (bank.port 3).queue.length < 16 ∧ (bank.port 0).role ≠ some .operations := by
  decide +kernel

/-- A bank whose operations port holds 16 notices. -/
def fullPort : State :=
  { bank with ports := put bank.ports 3 { bank.port 3 with queue := List.replicate 16 Notice.backupLost } }

theorem witness_PostToFullQueue : (fullPort.port 3).role = some .operations ∧ 16 ≤ (fullPort.port 3).queue.length := by
  decide +kernel

theorem witness_ReceivedFrames : bank.power.running = true ∧ (bank.port 3).receiving = [] ∧ ([5] : List Byte).length ≤ 255 ∧
    0x5A#8 ∉ ([0x00, 0xFF] : List Byte) ∧ [0x00#8, 0x00#8] ≠ crcBytes [1, 9, 0x4D, 5] ∧ fallen.power.running = false ∧
    ((bank.receiveBytes 3 quiet [0x5A]).port 3).receiving ≠ [] := by decide +kernel

theorem witness_ReadNotice : bank.FramePasses (ops 0) .operations 0 ∧ (bank.port 3).queue = [Notice.backupLost] ∧
    bank.FramePasses (head 0 0) .console 0 ∧ (bank.port 0).queue = [] :=
  ⟨passes _ _ _ _ (by decide +kernel), by decide +kernel, passes _ _ _ _ (by decide +kernel), by decide +kernel⟩

theorem witness_PortReset : bank.Running ∧ (bank.port 0).role = some .console ∧ (bank.port 1).role = some .courier ∧
    (bank.port 2).role = some .payment ∧ (bank.port 3).role = some .operations ∧ (head 2 0).len = 0 ∧
    (engineIn .suspended).Running ∧ ((engineIn .suspended).port 1).role = some .courier ∧ busy.Running ∧
    ((charged .opened).charge 0).state = .opened ∧ ((charged .paid).charge 0).state ≠ .opened ∧
    (∀ j, ((charged .opened).charge j).record.bind (charged .opened).waitingReturn = none) :=
  ⟨runs _ (by decide +kernel), by decide +kernel, by decide +kernel, by decide +kernel, by decide +kernel, rfl,
    runs _ (by decide +kernel), by decide +kernel, runs _ (by decide +kernel), by decide +kernel⟩

theorem witness_Reads : bank.FramePasses (ops 1) .operations 1 ∧ bank.FramePasses (ops 2) .operations 2 ∧
    bank.FramePasses (ops 0) .operations 0 ∧ (bank.record 5).isSome = true ∧ bank.record 143 = none ∧ (143 : Nat) < 144 ∧
    (7 : Nat) < 8 ∧ (4 : Nat) < 5 ∧ bank.pickupAt 31 = none :=
  ⟨passes _ _ _ _ (by decide +kernel), passes _ _ _ _ (by decide +kernel), passes _ _ _ _ (by decide +kernel),
    by decide +kernel⟩

/-- A bank whose window holds a STARTED PICKUP of slot 31. -/
def picking : State :=
  { bank with engine := { bank.engine with
    state := .running, window := [{ WindowRecord.fresh 31 .pickup none with outstanding := [5], claimed := 1 }] } }

theorem witness_ReadPickup : (picking.pickupAt 31).isSome = true := by decide +kernel

theorem witness_Masks : bank.FramePasses (ops 1) .operations 1 ∧ (condsOf 0x3F).isSome = true ∧
    (condsOf 0x00).isSome = true ∧ 64 ≤ (0x40 : Byte).toNat :=
  ⟨passes _ _ _ _ (by decide +kernel), by decide +kernel⟩

theorem witness_SetTariff : bank.FramePasses (ops 25) .operations 25 ∧ (0x7F : BitVec 16).toNat < 128 ∧
    (0x3FF : BitVec 16).toNat < 1024 ∧ ((0x3FF : BitVec 16).getLsbD 8 = true → some RoundingMode.up ≠ none) ∧
    1024 ≤ (0x400 : BitVec 16).toNat :=
  ⟨passes _ _ _ _ (by decide +kernel), by decide +kernel⟩

/-- The fields of a carrier entry that a Set Carrier writes. -/
def carrierSet (id : Nat) : CarrierFields := ⟨id, some true, 0x0F, 0x0F, 3, some .split, 145⟩

theorem witness_SetCarrier : bank.FramePasses (ops 13) .operations 13 ∧ carrierFormatOk 0x7F (carrierSet 9) = true ∧
    ((bank.carriers.get 1).written 0x7F (carrierSet 9)).enabled = true ∧ (bank.carriers.get 1).live = 0 ∧
    (∀ j, j ≠ (1 : Fin 8) → (bank.carriers.get j).enabled = true →
      (bank.carriers.get j).id ≠ ((bank.carriers.get 1).written 0x7F (carrierSet 9)).id) ∧
    ((bank.carriers.get 0).written 0x7F (carrierSet 9)).id ≠ (bank.carriers.get 0).id ∧ 0 < (bank.carriers.get 0).live ∧
    (bank.carriers.get 0).enabled = true ∧
    (bank.carriers.get 0).id = ((bank.carriers.get 1).written 0x7F (carrierSet 77)).id :=
  ⟨passes _ _ _ _ (by decide +kernel), by decide +kernel⟩

/-- Each way in which a Set Carrier is malformed, at the first value outside its range. -/
theorem witness_MalformedCarrier : 128 ≤ (0x80 : BitVec 16).toNat ∧ (7 : Nat) < 8 ∧
    ∀ n ∈ [(1, { carrierSet 9 with enabled := none }), (2, { carrierSet 9 with rights := 0x10 }),
        (3, { carrierSet 9 with sizes := 0x10 }), (4, { carrierSet 9 with tariffClass := 4 }),
        (5, { carrierSet 9 with mode := none })],
      (0x7F : BitVec 16).getLsbD n.1 = true ∧ carrierFormatOk 0x7F n.2 = false := by decide +kernel

theorem witness_SetTiming : bank.FramePasses (ops 8) .operations 8 ∧ (0xF : BitVec 16).toNat < 16 ∧
    bank.flying.length ≤ max 1 (min 0 3) ∧ 16 ≤ (0x10 : BitVec 16).toNat :=
  ⟨passes _ _ _ _ (by decide +kernel), by decide +kernel⟩

/-- A bank with two entries in flight. -/
def twoFlying : State :=
  { bank with seq := { bank.seq with
    queue := [5, 7].map fun c => { Entry.fresh c .custody .collect .console with inFlight := true } } }

theorem witness_SetTimingOccupied : twoFlying.FramePasses (ops 8) .operations 8 ∧ (0xF : BitVec 16).getLsbD 1 = true ∧
    max 1 (min 1 3) < twoFlying.flying.length :=
  ⟨passes _ _ _ _ (by decide +kernel), by decide +kernel⟩

/-! ### The console -/

theorem witness_KnownCode : bank.FramePasses (head 0 8) .console 8 ∧ bank.InService ∧
    parseCode (digits 12345678) = some 12345678 ∧ bank.limiter.lockout = none ∧ bank.findCode 12345678 = some 1 ∧
    bank.record 1 = some (delivery 12345678 [1]) :=
  ⟨passes _ _ _ _ (by decide +kernel), serves _ (by decide +kernel), by decide +kernel⟩

/-- A bank whose limiter is locked. -/
def lockedBank : State := { bank with limiter := ⟨5, some (secUnits 300)⟩ }

theorem witness_CodeChecks : lockedBank.FramePasses (head 0 8) .console 8 ∧ lockedBank.InService ∧
    parseCode (List.replicate 8 0x2F) = none ∧ lockedBank.limiter.lockout = some (secUnits 300) ∧
    bank.findCode 99999999 = none ∧ parseCode (digits 99999999) = some 99999999 :=
  ⟨passes _ _ _ _ (by decide +kernel), serves _ (by decide +kernel), by decide +kernel⟩

theorem witness_Quote : bank.collectable (delivery 12345678 [1]) = true ∧
    bank.openChargeIs (delivery 12345678 [1]) .presented = false ∧
    (bank.unmaskedOf (bank.evaluate (delivery 12345678 [1])).raised).any = false ∧
    (bank.evaluate (delivery 12345678 [1])).total ≠ 0 ∧
    (((bank.knownAttempt).addSticky (bank.evaluate (delivery 12345678 [1])).raised).voidOpen (delivery 12345678 [1])
      .requote).slotToTake = some 0 := by decide +kernel

/-- A bank in which a delivery's piece is still LOADING. -/
def loadingBank : State := bank.setCustody 1 .loading

theorem witness_QuoteChecks : loadingBank.FramePasses (head 0 8) .console 8 ∧ loadingBank.InService ∧
    loadingBank.findCode 12345678 = some 1 ∧ loadingBank.record 1 = some (delivery 12345678 [1]) ∧
    loadingBank.collectable (delivery 12345678 [1]) = false ∧
    (charged .presented).openChargeIs { delivery 12345678 [1] with openRef := some ⟨0, 1⟩ } .presented = true ∧
    (charged .presented).collectable { delivery 12345678 [1] with openRef := some ⟨0, 1⟩ } = true ∧
    (charged .presented).record 1 = some { delivery 12345678 [1] with openRef := some ⟨0, 1⟩ } :=
  ⟨passes _ _ _ _ (by decide +kernel), serves _ (by decide +kernel), by decide +kernel⟩

/-- The bank whose class 0 has a unit length that is none. -/
def reviewBank : State :=
  { bank with tariff := { bank.tariff with classes := put bank.tariff.classes 0 ⟨0, 7, 0, 100, 100, 0, 60⟩ } }

theorem witness_UnmaskedCondition : reviewBank.FramePasses (head 0 8) .console 8 ∧ reviewBank.InService ∧
    reviewBank.findCode 12345678 = some 1 ∧ reviewBank.record 1 = some (delivery 12345678 [1]) ∧
    reviewBank.collectable (delivery 12345678 [1]) = true ∧
    reviewBank.openChargeIs (delivery 12345678 [1]) .presented = false ∧
    (reviewBank.unmaskedOf (reviewBank.evaluate (delivery 12345678 [1])).raised).any = true ∧
    ((reviewBank.evaluate (delivery 12345678 [1])).pieces.filter
      fun p => (reviewBank.unmaskedOf p.raised).any).length = 1 ∧
    ((bank.evaluate (delivery 12345678 [1])).pieces.filter fun p => (bank.unmaskedOf p.raised).any) = [] ∧
    answer (.quote (head 0 8) (digits 12345678)) reviewBank 0 = some (.refused, some .review) ∧
    (after (.collect (head 0 8) (digits 12345678)) reviewBank).custodyState 1 = .review :=
  ⟨passes _ _ _ _ (by decide +kernel), serves _ (by decide +kernel), by decide +kernel⟩

/-- The bank, asking nothing, with a delivery's piece in another custody state. -/
def pieceIn (st : CustodyState) : State := freeBank.setCustody 1 st

/-- The bank with every charge slot OPEN. -/
def chargesTaken : State :=
  { bank with charges := { bank.charges with recs := Vector.replicate 8 { ChargeRecord.blank with state := .opened } } }

theorem witness_LaterChecks :
    answer (.quote (head 0 8) (digits 12345678)) chargesTaken 0 = some (.refused, some .qfull) ∧
    (∀ p ∈ [(CustodyState.releasing, Reason.claimed), (.emptying, .claimed), (.review, .review),
        (.outOfService, .outOfService)],
      (pieceIn p.1).custodyState 1 = p.1 ∧ (pieceIn p.1).collectable (delivery 12345678 [1]) = true ∧
      answer (.collect (head 0 8) (digits 12345678)) (pieceIn p.1) 0 = some (.refused, some p.2)) ∧
    [1] = ([] : List Comp) ++ 1 :: [] ∧
    answer (.collect (head 0 8) (digits 12345678)) (freeBank.setQueue [Entry.fresh 1 .custody .collect .console]) 0 =
      some (.refused, some .occupied) ∧
    answer (.collect (head 0 8) (digits 12345678))
      (freeBank.setQueue (List.replicate 16 (Entry.fresh 20 .custody .collect .console))) 0 =
      some (.refused, some .qfull) := by decide +kernel

theorem witness_FeeConditionPieces : bank.holding 1 = some (held 1 .held) ∧ (bank.custodyState 1).isRest = true ∧
    (bank.holding 3).map (fun x => (x.causes.contains .feeCondition, x.causes.length)) = some (false, 1) ∧
    bank.custodyState 3 = .review ∧ (bank.holding 5).isSome = true ∧ (bank.custodyState 5).isRest = false ∧
    bank.custodyState 5 ≠ .review := by decide +kernel

theorem witness_Collect : freeBank.FramePasses (head 0 8) .console 8 ∧ freeBank.InService ∧
    freeBank.findCode 12345678 = some 1 ∧ freeBank.record 1 = some (delivery 12345678 [1]) ∧
    freeBank.collectable (delivery 12345678 [1]) = true ∧
    (freeBank.unmaskedOf (freeBank.evaluate (delivery 12345678 [1])).raised).any = false ∧
    (freeBank.evaluate (delivery 12345678 [1])).total = 0 ∧
    (∀ c ∈ (delivery 12345678 [1]).pieces, freeBank.custodyState c = .held ∨ freeBank.custodyState c = .overstayed) ∧
    (∀ c ∈ (delivery 12345678 [1]).pieces, freeBank.hasEntry c = false) ∧
    (delivery 12345678 [1]).pieces.length + freeBank.seq.queue.length ≤ 16 ∧ (freeBank.holding 1).isSome = true :=
  ⟨passes _ _ _ _ (by decide +kernel), serves _ (by decide +kernel), by decide +kernel⟩

/-- The bank with carrier 0 changed. -/
def carrierWith (f : CarrierEntry → CarrierEntry) : State := bank.putCarrier 0 (f (bank.carriers.get 0))

/-- A bank whose carrier 0 pays return fees in full, of 351 for size class S. -/
def feeBank : State :=
  { bank with
    carriers := put bank.carriers 0 { bank.carriers.get 0 with mode := .carrierFull }
    tariff := { bank.tariff with bank := { bank.tariff.bank with fee := ⟨351, 0, 0, 0⟩ } } }

theorem witness_ReturnBegin : bank.FramePasses (head 0 26) .console 26 ∧ bank.InService ∧ parcelOk [] = true ∧
    bank.matchCarrier 77 = .found 0 ∧ (bank.carriers.get 0).rights.acceptReturns = true ∧
    sizeAt (bank.carriers.get 0).sizes .s = true ∧ bank.quotaAdmits 0 1 = true ∧
    bank.placeOne .returnDrop .s [] = some 0 ∧ bank.freeRecord = some 0 ∧ bank.seq.queue.length < 16 ∧
    returnLanes (bank.carriers.get 0).mode (sizeAt bank.tariff.bank.fee .s) = (0, 0) ∧
    returnLanes (feeBank.carriers.get 0).mode (sizeAt feeBank.tariff.bank.fee .s) = (0, 351) ∧
    feeBank.slotToTake = some 0 ∧ feeBank.placeOne .returnDrop .s [] = some 0 ∧ feeBank.matchCarrier 77 = .found 0 :=
  ⟨passes _ _ _ _ (by decide +kernel), serves _ (by decide +kernel), by decide +kernel⟩

/-- The bank with the RESERVED return's pulse in progress. -/
def returnFlying : State :=
  { bank with seq := { bank.seq with queue := [{ Entry.fresh 2 .custody .deposit .console with inFlight := true }] } }

/-- The bank with the RESERVED return's charge PRESENTED. -/
def returnPresented : State :=
  let s := { bank with charges := { bank.charges with
    gens := put bank.charges.gens 0 1
    recs := put bank.charges.recs 0 { ChargeRecord.blank with state := .presented, record := some 2, laneO := 5 } } }
  s.putRecord 2 (some { returned 2 5 with openRef := some ⟨0, 1⟩ })

theorem witness_ReturnCancel : bank.FramePasses (head 0 1) .console 1 ∧ bank.InService ∧
    bank.record 2 = some (returned 2 0) ∧ (returned 2 0).kind = .returnDrop ∧ (returned 2 0).pieces = [2] ∧
    bank.custodyState 2 = .reserved ∧ bank.entryInFlight 2 = false ∧ bank.returnPaying (returned 2 0) = false ∧
    returnFlying.entryInFlight 2 = true ∧ returnPresented.entryInFlight 2 = false ∧
    returnPresented.returnPaying { returned 2 5 with openRef := some ⟨0, 1⟩ } = true :=
  ⟨passes _ _ _ _ (by decide +kernel), serves _ (by decide +kernel), by decide +kernel⟩

theorem witness_ReturnBeginRefuses : parcelOk [0x01] = false ∧ bank.matchCarrier 5 = .unknown ∧
    bank.matchCarrier 0 = .notPermitted ∧
    ((carrierWith fun e => { e with rights := ⟨false, false, false, false⟩ }).carriers.get 0).rights.acceptReturns =
      false ∧
    sizeAt ((carrierWith fun e => { e with sizes := ⟨false, true, true, true⟩ }).carriers.get 0).sizes .s = false ∧
    ((carrierWith fun e => { e with quota := 6 }).carriers.get 0).quota < (bank.carriers.get 0).live + 1 ∧
    bank.placeOne .returnDrop .m [] = none ∧ sizeAt (bank.carriers.get 0).sizes .m = true ∧
    bank.placeOne .returnDrop .s [] = some 0 ∧ bank.freeRecord = some 0 ∧
    answer (.returnBegin (head 0 26) 77 (some .s) [])
      (bank.setQueue (List.replicate 16 (Entry.fresh 20 .custody .collect .console))) 0 = some (.refused, some .qfull) ∧
    ({ feeBank with charges := chargesTaken.charges } : State).slotToTake = none ∧
    answer (.returnBegin (head 0 26) 77 (some .s) []) { feeBank with charges := chargesTaken.charges } 0 =
      some (.refused, some .qfull) ∧
    (∀ i, (chargesTaken.charge i).state ≠ .free) ∧ (∀ j, j < 1 → ((charged .opened).charge j).state ≠ .free) ∧
    (charged .opened).slotToTake = some 1 := by decide +kernel

theorem witness_ReturnCancelRefuses : (143 : Nat) < 144 ∧ bank.record 0 = none ∧
    bank.record 1 = some (delivery 12345678 [1]) ∧ (delivery 12345678 [1]).kind = .delivery ∧
    bank.record 6 = some (returned 6 0) ∧ bank.custodyState 6 ≠ .reserved := by decide +kernel

theorem witness_Charges (st : ChargeState) (w : st ≠ .free) :
    (charged st).FramePasses (head 0 2) .console 2 ∧ (charged st).FramePasses (head 2 3) .payment 3 ∧
    (charged st).FramePasses (head 2 11) .payment 11 ∧ (charged st).InService ∧
    ((charged st).chargeNamed 0 1).map (·.state) = some st ∧ (charged st).chargeNamed 0 2 = none := by
  refine ⟨passes _ _ _ _ ?_, passes _ _ _ _ ?_, passes _ _ _ _ ?_, serves _ ?_, ?_, ?_⟩ <;>
    revert w <;> cases st <;> decide +kernel

theorem witness_ReleaseCharge : ChargeState.paid.isEnded = true ∧ ChargeState.void.isEnded = true ∧
    ChargeState.opened.isLive = true ∧ ChargeState.presented.isLive = true := by decide

/-! ### The courier -/

/-- The bank with every ring slot of the engine. -/
def engineRing : State := { bank with engine := { bank.engine with
  ring := bank.engine.ring.map fun x => { x with owner := Owner.engine } } }

theorem witness_Slots : bank.FramePasses (head 1 43) .courier 43 ∧ bank.FramePasses (head 1 1) .courier 1 ∧
    bank.FramePasses (head 1 2) .courier 2 ∧ (SlotFields.descriptor goodSlot).isSome = true ∧
    SlotFields.descriptor { goodSlot with size := none } = none ∧ (bank.slot 31).owner = .courier ∧
    (engineRing.slot 0).owner = .engine ∧ (∀ j ∈ slotRun 31 32, (bank.slot j).owner = .courier) ∧
    (∃ j ∈ slotRun 31 1, (engineRing.slot j).owner = .engine) :=
  ⟨passes _ _ _ _ (by decide +kernel), passes _ _ _ _ (by decide +kernel), passes _ _ _ _ (by decide +kernel),
    by decide +kernel⟩

theorem witness_EngineStates (st : EngineState) : (engineIn st).FramePasses (head 1 1) .courier 1 ∧
    (engineIn st).FramePasses (head 1 0) .courier 0 ∧ (engineIn st).InService ∧ (engineIn st).engine.state = st ∧
    ((engineIn st).slot (engineIn st).engine.pointer).owner = .courier := by
  refine ⟨passes _ _ _ _ ?_, passes _ _ _ _ ?_, serves _ ?_, rfl, ?_⟩ <;> cases st <;> decide +kernel

/-- A descriptor of carrier 77 with a parcel reference, asking to be told. -/
def desc (kind : DescKind) (first last : Bool) : Descriptor :=
  { kind := kind, first := first, last := last, notify := true, carrierId := 77, parcelRef := some [0x41], size := .s,
    cod := none, code := none }

/-- The bank with a RUNNING engine at slot 0, whose first slots are the engine's with these descriptors. -/
def ringed (ds : List Descriptor) : State :=
  { bank with engine := { bank.engine with
    ring := Vector.ofFn fun i : Fin 32 => match ds[i.val]? with
      | some d => { Slot.blank with owner := .engine, desc := d }
      | none => Slot.blank
    state := .running, pointer := 0 } }

/-- A group of two descriptors, and its window with no room for it. -/
def group : State := ringed [desc .drop true false, desc .drop false true]

theorem witness_GroupReading : (ringed [desc .drop true true]).scanGroup 4 0 0 = .good 1 ∧ group.scanGroup 4 0 0 = .good 2 ∧
    (ringed [desc .drop true false, desc .drop false false, desc .drop false false, desc .drop false true]).scanGroup
      4 0 0 = .good 4 ∧
    (ringed [desc .drop true false]).scanGroup 4 0 0 = .incomplete 1 ∧
    (ringed [desc .drop true false, desc .recall false true]).scanGroup 4 0 0 = .bad 1 ∧
    (ringed [desc .drop true false, desc .drop true true]).scanGroup 4 0 0 = .bad 1 ∧
    (ringed [desc .drop true false, desc .drop false false, desc .drop false false, desc .drop false false]).scanGroup
      4 0 0 = .bad 4 := by decide +kernel

theorem witness_EngineLooks : group.engine.state = .running ∧ group.engineOwns group.engine.pointer = true ∧
    (group.slot group.engine.pointer).desc.kind = .drop ∧ (group.slot group.engine.pointer).desc.first = true ∧
    group.engine.window.length + 2 ≤ 8 ∧ group.releaseRoom 2 = true ∧ group.feedable = none ∧
    ((ringed [desc .drop false true]).slot 0).desc.first = false ∧
    ¬ (group.setWindow (List.replicate 7 (WindowRecord.fresh 31 .pickup none))).engine.window.length + 2 ≤ 8 ∧
    (group.lookNow).engine.window.length = 2 ∧ group.releaseRoom 13 = false := by decide +kernel

theorem witness_DropGroup : (∃ d ∈ [{ desc .drop true true with parcelRef := none }], d.parcelRef = none) ∧
    (∀ d ∈ [desc .drop true true], d.parcelRef ≠ none) ∧
    bank.checkGroup { desc .drop true true with carrierId := 5 } [desc .drop true true] = .fails .unknownCarrier ∧
    bank.checkGroup (desc .drop true true) [desc .drop true true, desc .drop true true] = .passes 0 [0, 143] ∧
    bank.freeRecord = some 0 := by decide +kernel

theorem witness_GroupChecks : bank.matchCarrier 5 = .unknown ∧ bank.matchCarrier 0 = .notPermitted ∧
    bank.matchCarrier 77 = .found 0 ∧ (bank.carriers.get 0).rights.deliver = true ∧ min ((none : Option Nat).getD 0) 999999 = 0 ∧
    (bank.carriers.get 0).rights.cod = true ∧ sizeAt (bank.carriers.get 0).sizes .s = true ∧
    ((carrierWith fun e => { e with rights := ⟨false, false, false, false⟩ }).carriers.get 0).rights.deliver = false ∧
    sizeAt ((carrierWith fun e => { e with sizes := ⟨false, true, true, true⟩ }).carriers.get 0).sizes .s = false ∧
    (bank.findCode 12345678).isSome = true ∧ bank.findCode 99999999 = none ∧
    ((carrierWith fun e => { e with quota := 6 }).carriers.get 0).quota < (bank.carriers.get 0).live + 1 ∧
    (bank.carriers.get 0).live + 4 ≤ (bank.carriers.get 0).quota ∧ bank.placeAll [.s, .s, .s] [] = none ∧
    bank.placeAll [.s, .s] [] = some [0, 143] ∧ bank.placeOne .delivery .m [] = none ∧
    bank.placeOne .delivery .s [0] = some 143 := by decide +kernel

theorem witness_GroupCommit : (([⟨0, desc .drop true false, 0⟩, ⟨1, desc .drop false true, 143⟩] : List Placed).map
      fun p => p.comp).Nodup ∧
    (∀ p ∈ ([⟨0, desc .drop true false, 0⟩, ⟨1, desc .drop false true, 143⟩] : List Placed),
      bank.hasEntry p.comp = false ∧ bank.column p.comp.column ≠ .disabled) ∧ 2 + bank.seq.queue.length ≤ 16 ∧
    bank.custody.codeMap.length ≤ 144 ∧ (desc .drop true false).code = none ∧
    { desc .drop true false with code := some 5 }.code ≠ none := by decide +kernel

/-- The bank with a parcel reference on a holding, and a RECALL of it by the engine. -/
def recalling (c : Comp) : State := (ringed [desc .recall false false]).updHolding c fun x => { x with parcelRef := some [0x41] }

theorem witness_Recall : ((recalling 1).slot (recalling 1).engine.pointer).desc.kind = .recall ∧
    (desc .recall false false).parcelRef = some [0x41] ∧ { desc .recall false false with parcelRef := none }.parcelRef = none ∧
    (recalling 1).matchCarrier 77 = .found 0 ∧ (recalling 1).recallCandidates 0 [0x41] = [1] ∧
    (recalling 1).custodyState 1 = .held ∧ (recalling 1).hasEntry 1 = false ∧
    (recalling 5).recallCandidates 0 [0x41] = [5] ∧ (recalling 5).custodyState 5 = .releasing ∧
    (recalling 0).recallCandidates 0 [0x41] = [] ∧ (bank.custodyState 7 = .emptying) ∧ bank.custodyState 3 = .review ∧
    bank.custodyState 4 = .outOfService ∧ bank.custodyState 2 = .reserved ∧ bank.custodyState 6 = .loading ∧
    (bank.setCustody 5 .held).custodyState 5 = .held ∧ (pulsing .custody 1 false).hasEntry 5 = true := by decide +kernel

theorem witness_Pickup : (bank.setCustody 6 .returnHeld).pickupClaims 0 = [6] ∧ bank.pickupClaims 0 = [] ∧
    (bank.carriers.get 0).rights.pickupReturns = true ∧
    ((carrierWith fun e => { e with rights := ⟨false, false, false, false⟩ }).carriers.get 0).rights.pickupReturns =
      false := by decide +kernel

/-- The bank whose window holds a STARTED PICKUP with compartments 5 and 7 to feed. -/
def feeding : State :=
  bank.setWindow [{ WindowRecord.fresh 31 .pickup none with outstanding := [5, 7], waiting := [5, 7], claimed := 2 }]

theorem witness_Feeding : feeding.feedable = some 5 ∧ feeding.releaseRoom 1 = true ∧ bank.feedable = none ∧
    (bank.setQueue (List.replicate 16 (Entry.fresh 20 .custody .collect .console))).releaseRoom 1 = false := by decide +kernel

theorem witness_Reports : feeding.engine.window = [] ++ { WindowRecord.fresh 31 .pickup none with
      outstanding := [5, 7], waiting := [5, 7], claimed := 2 } :: [] ∧ (5 : Comp) ∈ ([5, 7] : List Comp) ∧
    WindowRecord.takesDrop 3 2 { WindowRecord.fresh 3 .drop none with comp := some 2 } = true ∧
    WindowRecord.takesClaim 5 { WindowRecord.fresh 3 .recall none with comp := some 5 } = true ∧
    (∀ q ∈ feeding.engine.window, WindowRecord.takesDrop 31 5 q = false) ∧
    (∀ q ∈ feeding.engine.window, WindowRecord.takesClaim 1 q = false) := by decide +kernel

/-- The bank with a queued entry for the RESERVED compartment 2. -/
def depositQueued : State := { bank with seq := { bank.seq with queue := [Entry.fresh 2 .custody .deposit .courier] } }

theorem witness_StopRecord : (depositQueued.entryOf 2).map (·.inFlight) = some false ∧
    (returnFlying.entryOf 2).map (·.inFlight) = some true ∧ bank.entryOf 2 = none ∧
    { WindowRecord.fresh 3 .drop none with comp := some 2 }.outcome = none ∧
    (WindowRecord.fresh 3 .drop (some .format)).outcome ≠ none ∧ (WindowRecord.fresh 3 .recall none).kind ≠ .drop ∧
    (WindowRecord.fresh 3 .drop none).comp = none := by decide

theorem witness_Retirement : ((bank.slot 3).desc).notify = false ∧ ((group.slot 0).desc).notify = true := by
  decide +kernel

/-- An engine in a state whose window holds one record. -/
def windowed (st : EngineState) (o : Option Status) : State := (engineIn st).setWindow [WindowRecord.fresh 3 .drop o]

theorem witness_RetirementInOrder : (windowed .stopping (some .format)).engine.state = .stopping ∧
    (State.retireAll (windowed .stopping (some .format)).engine.window (windowed .stopping (some .format))).engine.window = [] ∧
    (State.retireAll (windowed .stopping none).engine.window (windowed .stopping none)).engine.window ≠ [] ∧
    (State.retireAll (windowed .running (some .format)).engine.window (windowed .running (some .format))).engine.window.length
      < (windowed .running (some .format)).engine.window.length ∧
    (State.retireAll (windowed .running none).engine.window (windowed .running none)).engine.window.length =
      (windowed .running none).engine.window.length ∧
    (windowed .stopped none).engine.state = .stopped ∧ (windowed .suspended none).engine.state = .suspended := by
  decide +kernel

/-! ### The payment module -/

theorem witness_FetchCharge : (charged .opened).oldestOpen = some 0 ∧ (charged .presented).oldestOpen = none ∧
    ((charged .opened).charge 0).state = .opened ∧ (charged .opened).power.restoring = false := by decide +kernel

theorem witness_Approved : ((charged .presented).chargeNamed 0 1).map (fun r => (r.state, r.record)) =
      some (.presented, some 1) ∧ ((charged .presented).record 1).map (·.kind) = some .delivery ∧
    ((charged .presented).charge 0).laneO ≠ 399 := by decide +kernel

theorem witness_Restoring : State.reset.FramePasses (head 2 11) .payment 11 ∧ State.reset.power.restoring = true :=
  ⟨passes _ _ _ _ (by decide +kernel), by decide +kernel⟩

theorem witness_ChargeExpiry : (charged .opened).Running ∧ ((charged .opened).charge 0).state = .opened ∧
    ((charged .opened).charge 0).record.bind (charged .opened).waitingReturn = none ∧
    (((charged .opened).charge 7).state).isLive = false :=
  ⟨runs _ (by decide +kernel), by decide +kernel⟩

/-! ### Operations -/

theorem witness_SetCompartment : bank.FramePasses (ops 4) .operations 4 ∧ bank.holding 143 = none ∧
    bank.hasEntry 143 = false ∧ bank.pendingFor 143 = false ∧ bank.power.restoring = false :=
  ⟨passes _ _ _ _ (by decide +kernel), by decide +kernel⟩

theorem witness_Withhold : bank.FramePasses (ops 2) .operations 2 ∧ bank.InService ∧ (bank.holding 1).isSome = true ∧
    (bank.custodyState 1).isRest = true ∧ (bank.holding 3).isSome = true ∧ bank.custodyState 3 = .review ∧
    bank.custodyState 0 = .free ∧ bank.custodyState 2 = .reserved ∧ bank.custodyState 6 = .loading ∧
    bank.custodyState 5 = .releasing ∧ bank.custodyState 7 = .emptying ∧ bank.holding 0 = none ∧
    bank.custodyState 4 = .outOfService ∧ bank.custodyState 20 = .notFitted ∧
    (∀ c ∈ ([2, 5, 6, 7] : List Comp), (bank.holding c).isSome = true) ∧
    ((bank.setCustody 1 .outOfService).holding 1).isSome = true ∧
    (bank.setCustody 1 .outOfService).custodyState 1 = .outOfService :=
  ⟨passes _ _ _ _ (by decide +kernel), serves _ (by decide +kernel), by decide +kernel⟩

theorem witness_ReturnToService : bank.FramePasses (ops 1) .operations 1 ∧ bank.InService ∧
    bank.column (4 : Comp).column ≠ .disabled ∧ bank.door 4 = some .shut ∧ bank.custodyState 4 = .outOfService ∧
    bank.holding 4 = none ∧ (bank.putColumn 0 .disabled).column (4 : Comp).column = .disabled ∧
    bank.custodyState 0 ≠ .outOfService :=
  ⟨passes _ _ _ _ (by decide +kernel), serves _ (by decide +kernel), by decide +kernel⟩

theorem witness_ReturnToServiceHolding : ((bank.setCustody 1 .outOfService).holding 1).map (·.rest) = some (some .held) ∧
    (bank.setCustody 1 .outOfService).custodyState 1 = .outOfService := by decide +kernel

theorem witness_AmendHolding : bank.FramePasses (ops 34) .operations 34 ∧ bank.InService ∧
    bank.amendOk 1 (held 1 .held) 0x1F ⟨[0x41], 3, 50, some .overstayed, 5⟩ = true ∧
    bank.holding 1 = some (held 1 .held) ∧ bank.holding 0 = none ∧
    bank.amendOk 1 (held 1 .held) 0x20 ⟨[], 3, 50, some .overstayed, 5⟩ = false :=
  ⟨passes _ _ _ _ (by decide +kernel), serves _ (by decide +kernel), by decide +kernel⟩

/-- A part that has left RESTORING with no compartment fitted. -/
def unfitted : State := { State.reset with power := { State.reset.power with restoring := false } }

theorem witness_NotInService : State.reset.power.restoring = true ∧ unfitted.power.restoring = false ∧
    unfitted.anyFitted = false ∧
    ∀ s ∈ [State.reset, unfitted], ∀ p ∈ [((3 : Fin 4), Role.operations, 1), (3, .operations, 2), (3, .operations, 4),
        (3, .operations, 34), (0, .console, 1), (0, .console, 2), (0, .console, 8), (0, .console, 26), (1, .courier, 0),
        (1, .courier, 1), (2, .payment, 3)], s.FramePasses (head p.1 p.2.2) p.2.1 p.2.2 := by
  refine ⟨by decide +kernel, by decide +kernel, by decide +kernel, ?_⟩
  unfold State.FramePasses State.Settled; decide +kernel

/-! ### Removals, and releases that end shut -/

theorem witness_Removal : (bank.holding 5).map (·.record) = some 5 ∧ bank.record 5 = some (delivery 33333333 [5, 7]) ∧
    ([5, 7] : List Comp).filter (· != 5) ≠ [] ∧ (bank.holding 1).map (·.record) = some 1 ∧
    bank.record 1 = some (delivery 12345678 [1]) ∧ ([1] : List Comp).filter (· != 1) = [] ∧
    bank.openChargeIs (delivery 12345678 [1]) .opened = false ∧
    bank.openChargeIs (delivery 12345678 [1]) .presented = false ∧
    ((charged .opened).record 1).map (fun k => (k.openRef, (charged .opened).openChargeIs k .opened)) =
      some (some ⟨0, 1⟩, true) ∧
    ((charged .presented).record 1).map (fun k => (charged .presented).openChargeIs k .presented) = some true := by
  decide +kernel

/-- The bank with compartment 5 claimed by w, and RELEASE_INTERRUPTED as b says. -/
def claimed (w : Claimant) (b : Bool) : State :=
  bank.updHolding 5 fun x => { x with claimant := some w, releaseInterrupted := b }

theorem witness_WindowShut : bank.custodyState 2 = .reserved ∧ (bank.holding 2).isSome = true ∧
    (∀ p ∈ [(Claimant.customer, false), (.carrier, false), (.service, false), (.customer, true)],
      ((claimed p.1 p.2).holding 5).map (fun x => (x.claimant, x.rest, x.releaseInterrupted)) =
        some (some p.1, some .held, p.2) ∧ (claimed p.1 p.2).custodyState 5 = .releasing) ∧
    bank.custodyState 1 ≠ .notFitted ∧ bank.custodyState 1 ≠ .reserved ∧ bank.custodyState 1 ≠ .releasing ∧
    (bank.holding 1).isSome = true ∧ bank.releaseWaits 5 = false ∧ feeding.releaseWaits 5 = true ∧
    (after (.openWindowEnd 5) (feeding.setDoor 5 (some (.released .service 1)))).custodyState 5 = .releasing ∧
    (after (.openWindowEnd 5) (bank.setDoor 5 (some (.released .service 1)))).custodyState 5 = .held := by
  decide +kernel

/-- A bank whose release queue is full. -/
def fullQueue : State :=
  { bank with seq := { bank.seq with
    queue := (List.range 16).map fun n => Entry.fresh (slotComp n) .custody .collect .console } }
where
  /-- Sixteen compartments of column 1. -/
  slotComp (n : Nat) : Comp := ⟨(16 + n) % 144, Nat.mod_lt _ (by omega)⟩

theorem witness_TestPulse : bank.FramePasses (ops 1) .operations 1 ∧ bank.InService ∧ bank.custodyState 20 = .notFitted ∧
    bank.custodyState 1 ≠ .notFitted ∧ bank.holding 1 ≠ none ∧ bank.holding 0 = none ∧ bank.custodyState 0 ≠ .notFitted ∧
    (bank.putColumn 0 .disabled).column (0 : Comp).column = .disabled ∧ bank.hasEntry 0 = false ∧ bank.pendingFor 0 = false ∧
    bank.seq.queue.length < 16 ∧ 16 ≤ fullQueue.seq.queue.length ∧ fullQueue.hasEntry 0 = false ∧
    (bank.setPending [0]).pendingFor 0 = true :=
  ⟨passes _ _ _ _ (by decide +kernel), serves _ (by decide +kernel), by decide +kernel⟩

theorem witness_ColumnRestore : bank.column 8 ≠ .disabled ∧ (bank.putColumn 8 .disabled).column 8 = .disabled ∧
    (bank.putColumn 8 .disabled).hasRestore 8 = false ∧ (bank.putColumn 8 .disabled).restoreComp 8 = some 143 ∧
    (bank.putColumn 7 .disabled).restoreComp 7 = none ∧ (pulsing .test 1 true).hasRestore 0 = true ∧
    (fullQueue.putColumn 8 .disabled).restoreComp 8 = some 143 ∧ (bank.putColumn 8 .disabled).hasEntry 143 = false := by
  decide +kernel

/-- The bank with SVC_KEY on. -/
def keyed : State := { bank with seq := { bank.seq with svcKey := true } }

theorem witness_ServiceRelease : keyed.FramePasses (ops 2) .operations 2 ∧ keyed.InService ∧
    keyed.custodyState 1 ≠ .notFitted ∧ keyed.column (1 : Comp).column ≠ .disabled ∧ keyed.releaseRefusal 1 true = none ∧
    keyed.hasEntry 1 = false ∧ keyed.pendingFor 1 = false ∧ keyed.seq.svcKey = true ∧ keyed.seq.pendingService = [] ∧
    keyed.seq.queue.length < 16 ∧ bank.seq.svcKey = false ∧ bank.seq.pendingService.length < 8 ∧
    bank.releaseRefusal 0 false = none ∧ 8 ≤ (bank.setPending [8, 9, 10, 11, 12, 13, 14, 15]).seq.pendingService.length :=
  ⟨passes _ _ _ _ (by decide +kernel), serves _ (by decide +kernel), by decide +kernel⟩

theorem witness_ServiceReleaseRefuses : (143 : Nat) < 144 ∧ bank.custodyState 20 = .notFitted ∧
    bank.column (20 : Comp).column ≠ .disabled ∧ (bank.putColumn 0 .disabled).column (1 : Comp).column = .disabled ∧
    (bank.putColumn 0 .disabled).custodyState 1 ≠ .notFitted ∧
    (∀ p ∈ [((2 : Comp), Reason.occupied), (6, .occupied), (5, .claimed), (7, .claimed), (0, .unknown), (4, .unknown),
        (3, .review)], answer (.serviceRelease (ops 2) p.1.val (some true)) bank 3 = some (.refused, some p.2)) ∧
    answer (.serviceRelease (ops 2) 1 (some true)) (bank.setCustody 1 .outOfService) 3 =
      some (.refused, some .outOfService) ∧
    (∀ s ∈ [bank.setQueue [Entry.fresh 1 .custody .collect .console], bank.setPending [1]],
      (s.custodyState 1).isRest = true ∧
      answer (.serviceRelease (ops 2) 1 (some false)) s 3 = some (.refused, some .duplicate)) := by decide +kernel

/-- The bank with a pending service entry that holds the claim of compartment 5. -/
def serviceWaits : State :=
  (bank.updHolding 5 fun x => { x with claimant := some .service }).setPending [5]

theorem witness_WithdrawService : serviceWaits.pendingFor 5 = true ∧ serviceWaits.custodyState 5 = .releasing ∧
    (serviceWaits.holding 5).any (fun x => x.claimant == some .service) = true ∧
    (bank.setPending [0]).pendingFor 0 = true ∧ (bank.setPending [0]).custodyState 0 ≠ .releasing ∧
    (pulsing .service 1 false).hasService 5 = true ∧ (pulsing .service 1 false).pendingFor 5 = false ∧
    bank.hasService 0 = false ∧ bank.pendingFor 0 = false := by decide +kernel

/-! ### The sequencer -/

theorem witness_ReleaseRequests : (pulsing .custody 1 false).hasEntry 5 = true ∧ fullQueue.hasEntry 0 = false ∧
    16 ≤ fullQueue.seq.queue.length ∧ bank.hasEntry 5 = false ∧ bank.seq.queue.length < 16 ∧
    (bank.putColumn 0 .disabled).column (5 : Comp).column = .disabled ∧ bank.column (5 : Comp).column ≠ .disabled := by
  decide +kernel

theorem witness_FailedRelease : bank.custodyState 0 = .free ∧ (bank.custodyState 1).isRest = true ∧
    bank.custodyState 3 = .review ∧ bank.custodyState 5 = .releasing ∧ (bank.holding 5).isSome = true ∧
    bank.custodyState 2 = .reserved ∧ (bank.holding 2).isSome = true ∧ bank.custodyState 6 = .loading ∧
    bank.custodyState 7 = .emptying ∧ bank.custodyState 4 = .outOfService ∧ bank.custodyState 20 = .notFitted := by
  decide +kernel

/-- The bank with a RESERVED holding of manifest slot 9 in compartment 2. -/
def fromSlot : State := bank.updHolding 2 fun x => { x with origin := .slot 9 }

theorem witness_FailureReports : (fromSlot.holding 2).map (·.origin) = some (.slot 9) ∧
    (bank.holding 2).map (·.origin) = some .console ∧
    (∀ w ∈ [Claimant.customer, .carrier, .service], ((claimed w false).holding 5).map (·.claimant) = some (some w)) ∧
    (Entry.fresh 0 .test .test .operations).origin = .operations ∧
    (Entry.fresh 5 .custody .collect .console).origin ≠ .operations ∧ bank.holding 0 = none ∧ bank.form 0 = none ∧
    bank.form 5 = some (.code 33333333) ∧ bank.form 2 = some (.record 2) ∧
    ((bank.failEntry (Entry.fresh 5 .custody .collect .console) .columnDown).port 0).queue.map (·.kind) =
      [.releaseFailed] := by decide +kernel

theorem witness_Departures : (feeding.feedable ≠ none ∧ feeding.paidReturns = [] ∧ feeding.seq.svcKey = false) ∧
    ({ feeding with paidReturns := [2] } : State).paidReturns ≠ [] ∧
    ((keyed.setPending [1]).seq.svcKey = true ∧ (keyed.setPending [1]).seq.pendingService ≠ []) ∧
    (depositQueued.entryOf 2).map (·.inFlight) = some false ∧
    (depositQueued.putColumn 0 (.armed 1)).column (2 : Comp).column = .armed 1 ∧
    (after (.returnCancel (head 0 1) 2 quiet) (depositQueued.putColumn 0 (.armed 1))).column 0 =
      .recovering (msUnits 50) ∧
    depositQueued.column (2 : Comp).column = .idle ∧ (returnFlying.entryOf 2).map (·.inFlight) = some true ∧
    bank.entryOf 2 = none := by decide +kernel

theorem witness_PaidReturns : bank.waitingReturn 2 = some 2 ∧ bank.hasEntry 2 = false ∧ bank.seq.queue.length < 16 ∧
    fullQueue.waitingReturn 2 = some 2 ∧ 16 ≤ fullQueue.seq.queue.length ∧ returnFlying.hasEntry 2 = true ∧
    bank.waitingReturn 1 = none ∧ bank.paidReturns = [] ∧ (fullQueue.paidReleases 2).paidReturns = [2] ∧
    (({ bank with paidReturns := [2] } : State).offerPaid).hasEntry 2 = true ∧
    (({ bank with paidReturns := [2] } : State).offerPaid).paidReturns = [] := by decide +kernel

theorem witness_PendingMoves : (keyed.setPending [0]).seq.svcKey = true ∧ bank.seq.svcKey = false ∧
    16 ≤ fullQueue.seq.queue.length ∧ keyed.seq.queue.length < 16 ∧
    (keyed.putColumn 0 .disabled).column (0 : Comp).column = .disabled ∧ keyed.column (0 : Comp).column ≠ .disabled ∧
    returnFlying.hasEntry 2 = true ∧ keyed.custodyState 2 = .reserved ∧ keyed.custodyState 6 = .loading ∧
    keyed.custodyState 7 = .emptying ∧ (keyed.holding 5).map (·.claimant) = some (some .customer) ∧
    keyed.custodyState 5 = .releasing ∧ keyed.hasEntry 0 = false ∧ keyed.custodyState 0 = .free ∧
    (State.movePass [2, 0] (keyed.setPending [2, 0])).seq.pendingService = [2] ∧
    (State.movePass [2, 0] (keyed.setPending [2, 0])).seq.queue = [serviceEntry 0] ∧
    (State.movePass [0] ((keyed.setPending [0]).putColumn 0 .disabled)).seq.pendingService = [] ∧
    ((keyed.setPending [1]).setCustody 1 .review).signals = [.movePending] := by decide +kernel

/-- The bank with one entry queued for compartment 5, and a state in which no entry is held back. -/
def queued (cls : EntryClass) : State :=
  { bank with seq := { bank.seq with queue := [Entry.fresh 5 cls .collect .console] } }

theorem witness_Arbiter : (queued .custody).choice = some (Entry.fresh 5 .custody .collect .console) ∧
    (queued .service).choice = some (Entry.fresh 5 .service .collect .console) ∧
    (queued .custody).arbiterHeld = false ∧
    (∀ x ∈ [Entry.fresh 7 .custody .collect .console], x.comp ≠ (Entry.fresh 5 .custody .collect .console).comp) := by
  decide +kernel

/-- An older entry with a count, before a younger CUSTODY entry for compartment 143, with column 1 ARMED. -/
def passed (e : Entry) : State :=
  ({ bank with seq := { bank.seq with queue := [e, Entry.fresh 143 .custody .collect .console] } } : State).putColumn 1
    (.armed 1)

theorem witness_Taking : (passed (Entry.fresh 5 .service .service .operations)).seq.queue =
      [Entry.fresh 5 .service .service .operations] ++ Entry.fresh 143 .custody .collect .console :: [] ∧
    (passed (Entry.fresh 5 .service .service .operations)).heldByPairing (Entry.fresh 5 .service .service .operations) =
      true ∧
    (passed (Entry.fresh 5 .custody .collect .console)).eligible (Entry.fresh 5 .custody .collect .console) = true ∧
    (passed (Entry.fresh 5 .custody .collect .console)).column 1 = .armed 1 ∧
    (passed (Entry.fresh 5 .custody .collect .console)).column 8 = .idle := by decide +kernel

theorem witness_PairingHold :
    (passed { serviceEntry 5 with passOver := 4 }).heldByPairing { serviceEntry 5 with passOver := 4 } = true ∧
    (passed { serviceEntry 5 with passOver := 4 }).choice = none ∧
    ((passed { serviceEntry 5 with passOver := 4 }).putColumn 1 .idle).heldByPairing
      { serviceEntry 5 with passOver := 4 } = false ∧
    (∀ x ∈ (passed (serviceEntry 5)).seq.queue, x.inFlight = true ∨ x.passOver ≠ 4) ∧
    (passed (serviceEntry 5)).choice = some (Entry.fresh 143 .custody .collect .console) := by decide +kernel

theorem witness_ColumnDrivers : (pulsing .custody 1 false).Running ∧
    ((pulsing .custody 1 false).putColumn 0 (.arming 0)).column 0 = .arming 0 ∧
    (((pulsing .custody 1 false).putColumn 0 (.arming 0)).flyingOn 0).isSome = true ∧
    (bank.putColumn 8 (.armed 0)).column 8 = .armed 0 ∧
    (bank.putColumn 8 (.recovering 0)).column 8 = .recovering 0 ∧
    (pulsing .custody 1 false).column 0 = .pulsing (msUnits 600) (msUnits 150) ∧
    (pulsing .custody 1 false).targeted 0 = false ∧
    ((queued .custody).putColumn 0 (.pulsing 1 0)).targeted 0 = true :=
  ⟨runs _ (by decide +kernel), by decide +kernel⟩

theorem witness_DriveOutputs : (∀ run left, bank.column (5 : Comp).column ≠ .pulsing run left) ∧
    (pulsing .custody 1 false).seq.queue = [] ++ { Entry.fresh 5 .custody .collect .console with inFlight := true } :: [] ∧
    (pulsing .custody 1 false).column (5 : Comp).column = .pulsing (msUnits 600) (msUnits 150) ∧
    (∀ e ∈ bank.seq.queue, e.inFlight = true → e.comp ≠ 5) ∧ (pulsing .custody 1 false).power.running = true := by
  have e : bank.column (5 : Comp).column = .idle := by decide +kernel
  refine ⟨by simp [e], by decide +kernel, by decide +kernel, by decide +kernel, by decide +kernel⟩

theorem witness_PulseEnds : (pulsing .service 1 false).Running ∧
    ((pulsing .custody 1 false).pulsingEntry 0).map (·.cls) = some .custody ∧
    ((pulsing .service 2 false).pulsingEntry 0).map (fun e => (e.cls, e.attempt)) = some (.service, 2) ∧
    ((pulsing .test 1 true).pulsingEntry 0).map (fun e => (e.cls, e.restore)) = some (.test, true) ∧
    ((pulsing .test 1 false).pulsingEntry 0).map (fun e => (e.cls, e.restore)) = some (.test, false) :=
  ⟨runs _ (by decide +kernel), by decide +kernel⟩

theorem witness_ServiceKey : bank.Running ∧ bank.seq.svcKey = false ∧ keyed.Running ∧ keyed.seq.svcKey = true :=
  ⟨runs _ (by decide +kernel), by decide +kernel, runs _ (by decide +kernel), by decide +kernel⟩

/-! ### The scanner, power and the clock -/

/-- The bank with a sweep standing at a column. -/
def sweepingAt (c : Column) : State :=
  { bank with scanner := { bank.scanner with sweeping := true, pointer := c } }

theorem witness_Sweep : (sweepingAt 8).Running ∧ (sweepingAt 8).scanner.sweeping = true ∧ (sweepingAt 7).scanner.pointer.val < 8 ∧
    bank.scanner.sweeping = false :=
  ⟨runs _ (by decide +kernel), by decide +kernel⟩

theorem witness_Samples : bank.door 143 = some .shut ∧ bank.doorOpen 143 = false ∧
    ({ bank with sense := senseOf (1 <<< 143) 0 } : State).doorOpen 143 = true ∧
    (bank.setDoor 1 (some (.released .service 1))).door 1 = some (.released .service 1) ∧
    (bank.setDoor 1 (some (.opened (some .custody) 1 (some .empty)))).door 1 =
      some (.opened (some .custody) 1 (some .empty)) ∧
    (bank.setDoor 1 (some (.forced (some .occupied)))).door 1 = some (.forced (some .occupied)) := by decide +kernel

theorem witness_AjarSamples : (bank.setDoor 1 (some (.ajar (some .service) none))).door 1 =
      some (.ajar (some .service) none) ∧
    (bank.setDoor 1 (some (.ajar (some .custody) (some .empty)))).door 1 = some (.ajar (some .custody) (some .empty)) ∧
    (bank.setDoor 1 (some (.forced none))).door 1 = some (.forced none) ∧
    ({ bank with sense := senseOf 2 0 } : State).doorOpen 1 = true ∧
    ((bank.setDoor 1 (some (.ajar (some .custody) (some .empty)))).applySample 1).door 1 = some .shut := by decide +kernel

theorem witness_FittingRead : (bank.setDoor 0 none).door 0 = none ∧ (bank.entry 0).fitted = true ∧
    ({ bank with sense := senseOf 1 0 } : State).doorOpen 0 = true ∧ bank.doorOpen 0 = false ∧
    (bank.setDoor 20 none).door 20 = none ∧ (bank.entry 20).fitted = false := by decide +kernel

theorem witness_OwedRead : (bank.setOwed 0 true).scanner.owed.get 0 = true ∧ ColumnState.busy (.recovering 1) = false ∧
    bank.scanner.owed.get 0 = false ∧ ColumnState.busy (.armed 1) = true ∧ (bank.column 0).busy = false ∧
    bank.scanner.phase ≠ .baseline := by decide +kernel

theorem witness_DoorTimers : (bank.setDoor 1 (some (.released .custody 0))).Running ∧
    (bank.setDoor 1 (some (.opened none 0 none))).Running ∧ (∀ k w, bank.door 1 ≠ some (.released k w)) ∧
    (∀ k a p, bank.door 1 ≠ some (.opened k a p)) := by
  have e : bank.door 1 = some .shut := by decide +kernel
  refine ⟨runs _ (by decide +kernel), runs _ (by decide +kernel), ?_, ?_⟩ <;> simp [e]

theorem witness_OpenedEvent : bank.custodyState 2 = .reserved ∧ bank.custodyState 5 = .releasing ∧
    bank.custodyState 0 ≠ .reserved ∧ bank.custodyState 0 ≠ .releasing ∧
    ((claimed .service false).holding 5).any (fun x => x.claimant == some .service) = true ∧
    (bank.holding 5).any (fun x => x.claimant == some .service) = false := by decide +kernel

theorem witness_Closures : bank.custodyState 6 = .loading ∧ (bank.holding 6).isSome = true ∧ (bank.consignment 6).isSome = true ∧
    bank.custodyState 7 = .emptying ∧ (bank.holding 7).map (·.rest) = some (some .held) ∧ bank.custodyState 0 = .free ∧
    bank.holding 0 = none ∧ (bank.custodyState 1).isRest = true ∧ (bank.holding 1).isSome = true ∧
    bank.custodyState 3 = .review ∧ (bank.holding 3).isSome = true ∧ bank.custodyState 4 = .outOfService ∧
    bank.holding 4 = none ∧ bank.custodyState 5 = .releasing ∧ bank.custodyState 2 = .reserved := by decide +kernel

theorem witness_ClosureReports : (fromSlot.setCustody 2 .loading).custodyState 2 = .loading ∧
    ((fromSlot.setCustody 2 .loading).holding 2).map (·.origin) = some (.slot 9) ∧
    (bank.holding 6).map (·.origin) = some .console ∧
    (∀ w ∈ [Claimant.customer, .carrier, .service], ((claimed w false).setCustody 5 .emptying).custodyState 5 = .emptying ∧
      (((claimed w false).setCustody 5 .emptying).holding 5).map (fun x => (x.claimant, x.rest)) =
        some (some w, some .held)) ∧
    (((bank.custodyClosure 6 .empty .custody).port 0).queue.map (·.kind)) = [.returnDone] ∧
    bank.custodyState 1 ≠ .loading ∧ bank.custodyState 1 ≠ .emptying ∧ bank.custodyState 20 = .notFitted := by
  decide +kernel

theorem witness_InspectionStates : bank.custodyState 4 = .outOfService ∧ bank.holding 4 = none ∧
    (bank.setCustody 1 .outOfService).custodyState 1 = .outOfService ∧
    ((bank.setCustody 1 .outOfService).holding 1).isSome = true ∧ bank.custodyState 2 = .reserved ∧
    bank.custodyState 6 = .loading ∧ bank.custodyState 5 = .releasing ∧ bank.custodyState 7 = .emptying ∧
    (bank.holding 7).map (·.claimant) = some (some .customer) ∧
    ((bank.custodyClosure 4 .occupied .service).port 3).queue.map (·.kind) =
      [.backupLost, .foreignObject, .serviceDone] ∧
    ((bank.custodyClosure 1 .empty .forced).port 3).queue.map (·.kind) = [.backupLost, .missing, .review] := by
  decide +kernel

theorem witness_ForcedStates : bank.custodyState 0 = .free ∧ (bank.custodyState 1).isRest = true ∧
    (bank.holding 1).isSome = true ∧ bank.custodyState 3 = .review ∧ (bank.holding 3).isSome = true ∧
    (fromSlot.holding 2).map (·.origin) = some (.slot 9) ∧ (bank.holding 2).map (·.origin) = some .console ∧
    (∀ w ∈ [Claimant.customer, .carrier, .service], (claimed w false).custodyState 5 = .releasing) ∧
    bank.custodyState 4 = .outOfService ∧ bank.holding 4 = none ∧ bank.custodyState 20 = .notFitted ∧
    ((serviceWaits.custodyForced 5).port 3).queue.map (·.kind) = [.backupLost, .forced, .review, .notOpened] ∧
    (serviceWaits.custodyForced 5).seq.pendingService = [] ∧ (depositQueued.custodyForced 2).seq.queue = [] := by
  decide +kernel

theorem witness_Lockout : lockedBank.Running ∧ lockedBank.limiter.lockout ≠ none ∧ bank.limiter.lockout = none :=
  ⟨runs _ (by decide +kernel), by decide +kernel⟩

theorem witness_Power : bank.power.running = true ∧ fallen.power.running = false ∧ fallen.power.mains = false ∧
    fallen.power.resetLine = false ∧ fallen.power.pfail = false ∧ heldReset.power.running = false ∧
    heldReset.power.mains = true ∧ heldReset.power.resetLine = true ∧ heldReset.power.pfail = false ∧
    heldPfail.power.running = false ∧ heldPfail.power.mains = true ∧ heldPfail.power.resetLine = false ∧
    heldPfail.power.pfail = true ∧ fallen.intact = true ∧
    ({ fallen with power := { fallen.power with checkOk := false } } : State).intact = false := by decide +kernel

theorem witness_PowerStops : bank.Running ∧ fallen.power.running = false ∧
    (after .mainsFall (bank.putColumn 8 .disabled)).column 8 = .idle := by
  exact ⟨runs _ (by decide +kernel), by decide +kernel, by decide +kernel⟩

theorem witness_NoStart : bank.power.mains = true ∧ bank.power.resetLine = false ∧
    ({ fallen with power := { fallen.power with pfail := true } } : State).power.pfail = true ∧
    ({ heldReset with power := { heldReset.power with mains := false } } : State).power.resetLine = true ∧
    fallen.power.running = false := by decide +kernel

theorem witness_Straps : (∀ q, q < 3 → (straps.get q).role ≠ (straps.get 3).role) ∧
    ∃ q : Fin 4, q < 3 ∧ ((put straps 0 ⟨.operations, .k115⟩).get q).role =
      ((put straps 0 ⟨.operations, .k115⟩).get 3).role := by decide

/-! ### RESTORING and the reconciliation -/

theorem witness_Baseline : (bank.entry 0).fitted = true ∧ (bank.entry 20).fitted = false ∧ State.reset.scanner.phase = .baseline ∧
    (bank.setPhase .second).scanner.phase = .second ∧ bank.scanner.phase = .normal ∧
    ((bank.setPhase .second).sweepComplete.port 2).queue.length = 1 := by decide +kernel

/-- The bank after its baseline sweep: compartment c found open or shut, and in the flight record or not. -/
def found (c : Comp) (isOpen : Bool) (flown : Option Purpose) : State :=
  let s := (bank.setPhase .baseline).setDoor c (some (if isOpen then .opened none 7 none else .shut))
  let s := s.setBaseline c (if isOpen then none else some { presence := .occupied, ajar := 7 })
  { s with seq := { s.seq with flight := match flown with
    | some p => [{ comp := c, purpose := p, restore := false }]
    | none => [] } }

theorem witness_ReconciledReleases : (found 2 true (some .deposit)).custodyState 2 = .reserved ∧
    ((found 2 true (some .deposit)).flightOf 2).isSome = true ∧
    foundOpen ((found 2 true (some .deposit)).door 2) = some 7 ∧ ((found 2 true (some .deposit)).holding 2).isSome = true ∧
    (bank.entry 2).fitted = true ∧ (found 5 true (some .collect)).custodyState 5 = .releasing ∧
    foundOpen ((found 5 false (some .collect)).door 5) = none ∧ ((found 5 false (some .collect)).flightOf 5).isSome = true ∧
    ((found 5 false none).holding 5).map (fun x => (x.rest, x.releaseInterrupted)) = some (some .held, false) ∧
    (found 5 false none).flightOf 5 = none ∧ (found 2 true none).flightOf 2 = none ∧
    foundOpen ((found 2 true none).door 2) = some 7 := by decide +kernel

/-- A release of compartment 5, claimed by w and cut by a fall of the supply, its door found shut. -/
def cut (w : Claimant) (interrupted : Bool) : State :=
  (found 5 false (some .collect)).updHolding 5 fun x => { x with claimant := some w, releaseInterrupted := interrupted }

theorem witness_ReconciledCuts : (found 2 false (some .deposit)).custodyState 2 = .reserved ∧
    ((found 2 false (some .deposit)).flightOf 2).isSome = true ∧ foundOpen ((found 2 false (some .deposit)).door 2) = none ∧
    (∀ w ∈ [Claimant.customer, .carrier, .service], ∀ b ∈ [false, true],
      (cut w b).custodyState 5 = .releasing ∧ ((cut w b).flightOf 5).isSome = true ∧
      foundOpen ((cut w b).door 5) = none ∧
      ((cut w b).holding 5).map (fun x => (x.claimant, x.releaseInterrupted)) = some (some w, b)) ∧
    (((cut .service false).reconcileOne 5).port 3).queue.map (·.kind) = [.backupLost, .serviceDone, .interrupted] := by
  decide +kernel

theorem witness_ReconciledRest : (found 6 true none).custodyState 6 = .loading ∧ (found 7 false none).custodyState 7 = .emptying ∧
    ((found 7 false none).scanner.baseline.get 7).isSome = true ∧ foundOpen ((found 7 false none).door 7) = none ∧
    ((found 1 true none).custodyState 1).isRest = true ∧ foundOpen ((found 1 true none).door 1) = some 7 ∧
    (found 3 true none).custodyState 3 = .review ∧ ((found 1 true none).reconcileOne 1).custodyState 1 = .review ∧
    ((found 6 true none).holding 6).isSome = true ∧ (found 1 false none).flightOf 1 = none := by decide +kernel

theorem witness_ReconciledEmpty : (found 0 true none).holding 0 = none ∧ (bank.entry 0).fitted = true ∧
    (found 0 true none).custodyState 0 = .free ∧ (found 4 false none).custodyState 4 = .outOfService ∧
    (found 4 false none).holding 4 = none ∧ (found 20 true none).holding 20 = none ∧ (bank.entry 20).fitted = false ∧
    ((found 0 true none).reconcileOne 0).custodyState 0 = .outOfService := by decide +kernel

theorem witness_ReconciledFlown : ((found 0 true (some .service)).flightOf 0).map (·.purpose) = some .service ∧
    ((found 0 false (some .test)).flightOf 0).map (·.purpose) = some .test ∧
    ((found 1 false (some .collect)).flightOf 1).map (·.purpose) = some .collect ∧
    (found 0 true (some .service)).custodyState 0 ≠ .reserved ∧ (found 0 true (some .service)).custodyState 0 ≠ .releasing ∧
    (found 0 true (some .service)).custodyState 0 ≠ .notFitted := by decide +kernel

theorem witness_Ticks : bank.Settled ∧ bank.clock.minute < 4294967295 ∧ fallen.power.running = false ∧
    ({ bank with clock := ⟨4294967295, 0⟩ } : State).clock.minute = 4294967295 :=
  ⟨⟨by decide +kernel, by decide +kernel⟩, by decide +kernel⟩

theorem witness_Overstay : bank.holding 1 = some (held 1 .held) ∧ (held 1 .held).depositMinute = some 40 ∧
    (bank.tariff.classes.get (held 1 .held).tariffClass).l = 60 ∧ ¬ 60 < bank.clock.minute - 40 ∧
    60 < ({ bank with clock := ⟨101, 0⟩ } : State).clock.minute - 40 := by decide +kernel

theorem witness_Dues : (delivery 12345678 [1]).kind = .delivery ∧
    ({ bank with clock := ⟨115, 0⟩ } : State).clock.minute ≤ 115 ∧ (115 : Nat) < 116 ∧
    (bank.evaluate { delivery 12345678 [1] with paidK := 1 }).laneK < 1 ∧
    (bank.evaluate (delivery 12345678 [1])).dueO = 400 ∧
    (bank.evaluate { delivery 12345678 [1] with waived := true }).dueO = 0 := by decide +kernel

/-! ### Clauses of the third review -/

/-- The last response a port sends refuses FORMAT. -/
def malformed (c : Instr) (p : Fin 4) : Bool := decide (answer c bank p = some (.refused, some .format))

theorem witness_FormatBounds :
    (malformed (.voidQuote (head 0 2) 8 1) 0 && malformed (.releaseCharge (head 0 2) 8 1) 0 &&
      malformed (.fetchCharge (head 2 3) (some (8, 1))) 2 && malformed (.paymentResult (head 2 11) 8 1 none 0 0) 2) = true ∧
    answer (.voidQuote (head 0 2) 7 1) bank 0 = some (.refused, some .unknown) ∧
    (malformed (.slotWrite (head 1 43) 32 goodSlot) 1 && malformed (.slotRead (head 1 1) 32) 1 &&
      malformed (.start (head 1 1) 32) 1 && malformed (.handOver (head 1 2) 32 1) 1 &&
      malformed (.handOver (head 1 2) 31 0) 1 && malformed (.handOver (head 1 2) 31 33) 1) = true ∧
    answer (.handOver (head 1 2) 31 32) bank 1 = some (.done, none) := by decide +kernel

theorem witness_FormatCompartments :
    (malformed (.setCompartment (ops 4) 144 (some true) (some .s) (some .any)) 3 &&
      malformed (.setCompartment (ops 4) 0 none (some .s) (some .any)) 3 &&
      malformed (.withholdToReview (ops 2) true 144) 3 && malformed (.withholdToOutOfService (ops 2) true 144) 3 &&
      malformed (.resolveReviewRestore (ops 2) true 144) 3 && malformed (.resolveReviewWithdraw (ops 2) true 144) 3 &&
      malformed (.returnToService (ops 1) 144) 3 && malformed (.amendHolding (ops 34) 144 0 ⟨[], 0, 0, none, 0⟩) 3 &&
      malformed (.testPulse (ops 1) 144) 3 && malformed (.withdrawService (ops 1) 144) 3 &&
      malformed (.columnRestore (ops 1) 9) 3) = true ∧
    answer (.columnRestore (ops 1) 8) bank 3 ≠ some (.refused, some .format) := by decide +kernel

theorem witness_Consequences : ({ bank with signals := [.retire, .look] } : State).signals = .retire :: [.look] ∧
    bank.signals = [] ∧ ({ windowed .stopping (some .format) with signals := [.retire] } : State).complete.engine.state =
      .stopped := by decide +kernel

/-- Two CUSTODY entries of two columns, and a change after which the arbiter looks. -/
def looked : State :=
  { passed (Entry.fresh 5 .custody .collect .console) with arbiterDue := true }

theorem witness_ArbiterLooks : looked.arbiterDue = true ∧ looked.OneEntryEach ∧ looked.seq.budget ≤ 3 ∧
    looked.choice = some (Entry.fresh 5 .custody .collect .console) ∧ looked.arbiterLooks.flying.length = 2 ∧
    bank.arbiterDue = false ∧ bank.choice = none ∧
    (Entry.fresh 5 .custody .collect .console).cls = .custody ∧
    ((queued .test).putColumn 0 .disabled).eligible { Entry.fresh 5 .test .test .operations with restore := true } =
      true ∧
    ((queued .custody).putColumn 0 .disabled).eligible (Entry.fresh 5 .custody .collect .console) = false := by
  unfold State.OneEntryEach; decide +kernel

/-- The bank one minute on, where the holding of compartment 1 has stood 61 minutes. -/
def late : State := { bank with clock := ⟨101, 0⟩ }

theorem witness_OverstaysAreTold : late.holding 1 = some (held 1 .held) ∧ late.custodyState 1 = .held ∧
    (60 : Nat) ≠ 0 ∧ 60 < late.clock.minute - 40 ∧ late.custodyState 5 = .releasing ∧
    (late.holding 5).map (fun x => (x.rest, x.depositMinute)) = some (some .held, some 40) ∧
    (late.overstayScan.port 1).queue.map (·.kind) = [.overstayed] ∧
    (late.overstayScan.port 3).queue.map (·.kind) = [.backupLost, .overstayed] ∧
    (late.overstayScan.holding 5).map (·.rest) = some (some .overstayed) := by decide +kernel

theorem witness_Evaluation : (returned 2 353).kind = .returnDrop ∧ (bank.evaluate (returned 2 353)).laneO = 353 ∧
    (bank.evaluate (returned 2 353)).pieces = [] ∧
    (bank.evaluate (delivery 12345678 [1, 6])).pieces.map (fun p => (p.comp, p.fee)) = [(1, 400)] ∧
    condAt (bank.evaluate { delivery 12345678 [1] with paidO := 401 }).raised .overpaid = true ∧
    condAt (bank.evaluate { delivery 12345678 [1] with paidO := 401, waived := true }).raised .overpaid = false ∧
    condAt (bank.evaluate { delivery 12345678 [1] with cod := 999999 }).raised .sat = true := by decide +kernel

theorem witness_FetchedCharge : ((charged .opened).charge 0).record = some 1 ∧
    ((charged .opened).record 1).map (·.code) = some (some 12345678) ∧
    ((charged .opened).putRecord 1 (some (returned 2 9))).record 1 = some (returned 2 9) ∧
    (charged .opened).chargeNamed 0 2 = none ∧ ((charged .opened).charge 7).state ≠ .opened := by decide +kernel

theorem witness_ChargesEnd : ((charged .opened).record 1).map (·.openRef) = some (some ⟨0, 1⟩) ∧
    (charged .opened).openChargeIs { delivery 12345678 [1] with openRef := some ⟨0, 1⟩ } .opened = true ∧
    (charged .presented).openChargeIs { delivery 12345678 [1] with openRef := some ⟨0, 1⟩ } .opened = false ∧
    ((charged .opened).endCharge 0 .void (some .requote) none).charges.ended = [0] ∧
    (((charged .opened).endCharge 0 .void (some .requote) none).record 1).map (·.openRef) = some none := by decide +kernel

/-- A charge that the return of record 2 waits on. -/
def returnCharged : State :=
  (charged .presented).putCharge 0 { ChargeRecord.blank with
    state := .presented, record := some 2, laneO := 353, expiry := secUnits 120 }

theorem witness_Reservations : (returnCharged.charge 0).record.bind returnCharged.waitingReturn = some 2 ∧
    ((charged .opened).charge 0).record.bind (charged .opened).waitingReturn = none ∧
    bank.custodyState 2 = .reserved ∧ (bank.holding 2).map (·.origin) = some .console ∧
    (fromSlot.holding 2).map (·.origin) = some (.slot 9) ∧ bank.custodyState 1 ≠ .reserved ∧
    ((after (.chargeExpiry 0) returnCharged).port 0).queue.map (·.kind) = [.chargeExpired, .returnDone] ∧
    (after (.chargeExpiry 0) returnCharged).custodyState 2 = .free ∧
    (bank.dropReserved 2).custodyState 2 = .free ∧
    (returnCharged.voidCharge 0 .portReset).2 = some 2 := by decide +kernel

theorem witness_LatePayments : ((charged .expired).chargeNamed 0 1).map (·.state) = some .expired ∧
    ((charged .void).chargeNamed 0 1).map (·.state) = some .void ∧
    ((charged .expired).charge 0).record = some 1 ∧ ((charged .expired).record 1).isSome = true ∧
    ((charged .expired).putRecord 1 none).record 1 = none ∧
    ((after (.paymentResult (head 2 11) 0 1 (some .approved) 400 1) (charged .expired)).port 2).queue.map
      (fun n => (n.kind, n.cons, n.amount)) = [(.latePayment, some (.code 12345678), 401)] := by decide +kernel

theorem witness_SetCompartmentRefuses : bank.holding 1 ≠ none ∧ (queued .test).hasEntry 5 = true ∧
    (keyed.setPending [0]).pendingFor 0 = true ∧ bank.custodyState 4 = .outOfService ∧
    answer (.setCompartment (ops 4) 1 (some true) (some .s) (some .any)) bank 3 = some (.refused, some .occupied) ∧
    (after (.setCompartment (ops 4) 4 (some true) (some .s) (some .any)) bank).entry 4 = bank.entry 4 ∧
    (after (.setCompartment (ops 4) 4 (some false) (some .s) (some .any)) bank).custodyState 4 = .notFitted := by
  decide +kernel

/-- A parcel reference of as many characters. -/
def letters (n : Nat) : Text := List.replicate n 0x41

theorem witness_AmendRows :
    ([(1, letters 20, 0, none), (2, [], 3, none), (8, [], 0, some .overstayed), (31, [0x20, 0x7E], 3, some .held)].map
      fun (sel, ref, cls, rest) =>
        (answer (.amendHolding (ops 34) 1 (BitVec.ofNat 16 sel) ⟨ref, cls, 0, rest, 999999⟩) bank 3 : _)) =
      List.replicate 4 (some (Result.done, (none : Option Reason))) ∧
    ([(1, [], 0, none), (1, letters 21, 0, none), (1, [0x1F], 0, none), (2, [], 4, none), (8, [], 0, none),
      (8, [], 0, some .returnHeld), (32, [], 0, none)].all fun (sel, ref, cls, rest) =>
        malformed (.amendHolding (ops 34) 1 (BitVec.ofNat 16 sel) ⟨ref, cls, 0, rest, 999999⟩) 3) = true ∧
    (malformed (.amendHolding (ops 34) 6 4 ⟨[], 0, 0, none, 0⟩) 3 &&
      malformed (.amendHolding (ops 34) 6 16 ⟨[], 0, 0, none, 0⟩) 3) = true ∧
    (after (.amendHolding (ops 34) 1 8 ⟨[], 0, 0, some .overstayed, 0⟩) bank).custodyState 1 = .overstayed ∧
    (after (.amendHolding (ops 34) 5 8 ⟨[], 0, 0, some .overstayed, 0⟩) bank).custodyState 5 = .releasing := by
  decide +kernel

theorem witness_ReviewAndRest : (bank.holding 3).map (·.causes) = some [.operator] ∧
    ((bank.enterReview 1 .missing).holding 1).map (·.causes) = some [.missing] ∧
    (bank.holding 7).map (·.rest) = some (some .held) ∧ (bank.toRest 7).custodyState 7 = .held ∧
    ((held 1 .held).addCause .forced).causes = [.forced] ∧
    ({ held 1 .held with causes := [.forced] }.addCause .forced).causes = [.forced] ∧
    (bank.outOfService 0 .foreignObject).custodyState 0 = .outOfService := by decide +kernel

theorem witness_ReservedWindowShut : (fromSlot.holding 2).map (·.origin) = some (.slot 9) ∧
    ((fromSlot.custodyWindowShut 2 .custody true).port 1).queue.map (fun n => (n.kind, n.detail)) =
      [(.notOpened, some (.word .interrupted))] ∧
    ((bank.custodyWindowShut 2 .custody false).port 0).queue.map (fun n => (n.kind, n.detail)) = [(.notOpened, none)] := by
  decide +kernel

theorem witness_RecallAndPickupLooks : (recalling 1).engine.state = .running ∧ (recalling 1).engineOwns 0 = true ∧
    (recalling 1).engine.window.length + 1 ≤ 8 ∧ (recalling 1).releaseRoom 1 = true ∧ (recalling 1).feedable = none ∧
    ((recalling 1).slot (recalling 1).engine.pointer).desc.kind = .recall ∧
    ((ringed [desc .pickup false false]).slot 0).desc.kind = .pickup ∧
    (((recalling 1).setWindow (List.replicate 8 (WindowRecord.fresh 3 .drop (some .format)))).lookNow.engine.window.length =
      8) := by decide +kernel

theorem witness_SweepAdvances : (sweepingAt 7).scanner.pointer.val + 1 = (8 : Column).val ∧
    (sweepingAt 8).scanner.pointer = 8 ∧ (sweepingAt 7).advanceSweep.scanner.pointer = 8 ∧
    (sweepingAt 8).advanceSweep.scanner.sweeping = false ∧
    (∀ d ∈ [Door.opened (some .custody) 5 none, .ajar none none, .forced none],
      (({ bank with sense := senseOf 2 0 } : State).setDoor 1 (some d)).doorOpen 1 = true) := by decide +kernel

theorem witness_BusyRefusals : (busy.port 0).sending.length = 1 ∧
    (∀ x ∈ (busy.port 0).sending.tail, x.busyRefusal = false) ∧
    (((busy.port 0).refuseBusy (head 0 0) 0x10).sending.length = 2) ∧
    (((busy.port 0).refuseBusy (head 0 0) 0x10).refuseBusy (head 0 0) 0x11).sending.length = 2 ∧
    (∃ x ∈ ((busy.port 0).refuseBusy (head 0 0) 0x10).sending.tail, x.busyRefusal = true) := by decide +kernel

theorem witness_ReadRecords : (0 : ChargeSlot) ∉ (charged .opened).charges.ended ∧
    (charged .paid).charges.ended = [] ++ 0 :: [] ∧ (bank.entry 0).holding = none ∧
    (bank.entry 3).holding = some { held 3 .overstayed with causes := [.operator] } ∧
    (∀ q ∈ ([] : List WindowRecord), ¬ (q.slot.val = 31 ∧ q.outcome = none ∧ q.kind = .pickup)) ∧
    bank.pickupAt 31 = none := by decide +kernel

theorem witness_ReadPickupFirst : ∃ r, picking.pickupAt 31 = some r ∧ ∃ older younger,
    picking.engine.window = older ++ r :: younger ∧ r.slot.val = 31 ∧ r.outcome = none ∧ r.kind = .pickup :=
  ⟨_, by decide +kernel, [], _, rfl, by decide +kernel⟩

theorem witness_Summary : bank.collectable (delivery 12345678 [1]) = true ∧
    bank.collectable (delivery 12345678 [1, 6]) = false ∧
    ((charged .opened).summary 1 { delivery 12345678 [1] with openRef := some ⟨0, 1⟩ }
      (bank.evaluate (delivery 12345678 [1]))).openRef = some (⟨0, 1⟩, .opened) ∧
    condAt ((bank.addSticky ⟨true, false, false, false, false, false⟩).tariff.sticky) .clock = some 100 ∧
    condAt ((late.addSticky ⟨true, true, false, false, false, false⟩).addSticky CondSet.none).tariff.sticky .tariff =
      some 101 := by decide +kernel

theorem witness_OpeningACharge : ((charged .paid).openIn 0 1 400 0).charges.ended = [] ∧
    ((charged .paid).openIn 0 1 400 0).charges.gens.get 0 = 2 ∧
    (((charged .paid).openIn 0 1 400 0).record 1).map (·.openRef) = some (some ⟨0, 2⟩) := by decide +kernel

end Sys2Proof.Tests
end

section
/-! SUPPORT. The custody table as a ledger: which record each compartment names, what each record fixes, the code map
and the live counts. The order of the custody table is that of its entries and that of its ledger. -/

namespace Sys2Proof.Machine

/-! ### The ledger -/

/-- What a consignment record fixes for the rest of the custody table (R9, R10). -/
structure Lot where
  code : Option Nat
  kind : ConsKind
  carrier : Fin 8
  pieces : List Comp

/-- The part of a consignment that the rest of the custody table depends on. -/
def Consignment.lot (k : Consignment) : Lot := ⟨k.code, k.kind, k.carrier, k.pieces⟩

/-- The custody table without the compartment entries' own fields. -/
structure Ledger where
  names : Comp → Option RecordNo
  lots : RecordNo → Option Lot
  codeMap : List (Nat × RecordNo)
  live : Fin 8 → Nat

/-- The ledger of a state. -/
def State.ledger (s : State) : Ledger :=
  { names := fun c => (s.holding c).map (·.record)
    lots := fun n => (s.record n).map Consignment.lot
    codeMap := s.custody.codeMap
    live := fun i => (s.carriers.get i).live }

/-- The carrier of the consignment that a compartment names. -/
def Ledger.carrierAt (l : Ledger) (c : Comp) : Option (Fin 8) := ((l.names c).bind l.lots).map Lot.carrier

/-- A ledger is in order (R5, R8 to R10, R50). -/
structure Ledger.InOrder (l : Ledger) : Prop where
  named : ∀ c n, l.names c = some n → ∃ k, l.lots n = some k ∧ c ∈ k.pieces
  pieces : ∀ n k, l.lots n = some k → k.pieces ≠ [] ∧ k.pieces.length ≤ 4 ∧ k.pieces.Nodup ∧
    ∀ c ∈ k.pieces, l.names c = some n
  codes : ∀ n k, l.lots n = some k → (k.kind = .delivery ↔ k.code ≠ none) ∧
    ∀ x, k.code = some x → (x, n) ∈ l.codeMap
  mapped : ∀ p ∈ l.codeMap, ∃ k, l.lots p.2 = some k ∧ k.code = some p.1
  sorted : l.codeMap.Pairwise fun p q => p.1 < q.1
  live : ∀ i, l.live i = (Finset.univ.filter fun c => l.carrierAt c = some i).card

/-- The live holdings of a carrier, counted over the ledger (R50). -/
theorem liveHoldings_length (s : State) (i : Fin 8) :
    (s.liveHoldings i).length = (Finset.univ.filter fun c => s.ledger.carrierAt c = some i).card := by
  have same : ∀ c, s.ofCarrier i c = decide (s.ledger.carrierAt c = some i) := by
    intro c
    unfold State.ofCarrier Ledger.carrierAt State.ledger State.consignment
    cases hx : s.holding c with
    | none => simp [hx]
    | some x => cases hk : s.record x.record <;> simp [hx, hk, Consignment.lot, beq_eq_decide]
  unfold State.liveHoldings Comp.all
  rw [show s.ofCarrier i = fun c => decide (s.ledger.carrierAt c = some i) from funext same]
  rfl

/-- The custody table is in order when its entries and its ledger are. -/
theorem custodyInOrder_iff (s : State) : s.CustodyInOrder ↔ (∀ c, (s.entry c).InOrder) ∧ s.ledger.InOrder := by
  constructor
  · rintro ⟨entries, ⟨named, pieces⟩, ⟨codes, mapped, sorted⟩, live⟩
    refine ⟨entries, ?_, ?_, ?_, ?_, sorted, fun i => (live i).trans (liveHoldings_length s i)⟩
    · intro c n h
      obtain ⟨x, hx, rfl⟩ := Option.map_eq_some_iff.mp h
      obtain ⟨k, hk, hc⟩ := named c x hx
      exact ⟨k.lot, Option.map_eq_some_iff.mpr ⟨k, hk, rfl⟩, hc⟩
    · intro n l h
      obtain ⟨k, hk, rfl⟩ := Option.map_eq_some_iff.mp h
      obtain ⟨ne, len, nodup, all⟩ := pieces n k hk
      refine ⟨ne, len, nodup, fun c hc => ?_⟩
      obtain ⟨x, hx, hn⟩ := all c hc
      exact Option.map_eq_some_iff.mpr ⟨x, hx, hn⟩
    · intro n l h
      obtain ⟨k, hk, rfl⟩ := Option.map_eq_some_iff.mp h
      exact codes n k hk
    · intro p hp
      obtain ⟨k, hk, hc⟩ := mapped p hp
      exact ⟨k.lot, Option.map_eq_some_iff.mpr ⟨k, hk, rfl⟩, hc⟩
  · rintro ⟨entries, l⟩
    refine ⟨entries, ⟨?_, ?_⟩, ⟨?_, ?_, l.sorted⟩, fun i => (l.live i).trans (liveHoldings_length s i).symm⟩
    · intro c x hx
      obtain ⟨_, hl, hc⟩ := l.named c x.record (Option.map_eq_some_iff.mpr ⟨x, hx, rfl⟩)
      obtain ⟨k, hk, rfl⟩ := Option.map_eq_some_iff.mp hl
      exact ⟨k, hk, hc⟩
    · intro n k hk
      obtain ⟨ne, len, nodup, all⟩ := l.pieces n k.lot (Option.map_eq_some_iff.mpr ⟨k, hk, rfl⟩)
      exact ⟨ne, len, nodup, fun c hc => Option.map_eq_some_iff.mp (all c hc)⟩
    · intro n k hk
      exact l.codes n k.lot (Option.map_eq_some_iff.mpr ⟨k, hk, rfl⟩)
    · intro p hp
      obtain ⟨_, hl, hc⟩ := l.mapped p hp
      obtain ⟨k, hk, rfl⟩ := Option.map_eq_some_iff.mp hl
      exact ⟨k, hk, hc⟩

/-! ### A compartment leaves the ledger -/

/-- The lot of a record after a compartment has left it: none with its last piece (R8, R11). -/
def Lot.without (k : Lot) (c : Comp) : Option Lot :=
  if k.pieces.filter (· != c) = [] then none else some { k with pieces := k.pieces.filter (· != c) }

/-- The ledger after a compartment has left the record it names (R8, R11, R50). -/
def Ledger.remove (l : Ledger) (c : Comp) (n : RecordNo) (k : Lot) : Ledger :=
  { names := Function.update l.names c none
    lots := Function.update l.lots n (k.without c)
    codeMap := if k.pieces.filter (· != c) = [] then l.codeMap.filter (fun p => p.2 != n) else l.codeMap
    live := Function.update l.live k.carrier (l.live k.carrier - 1) }

theorem Lot.without_eq_some {k j : Lot} {c : Comp} (h : k.without c = some j) :
    k.pieces.filter (· != c) ≠ [] ∧ j = { k with pieces := k.pieces.filter (· != c) } := by
  unfold Lot.without at h
  split at h
  · cases h
  · rename_i ne
    exact ⟨ne, (Option.some.inj h).symm⟩

theorem Lot.without_of_mem {k : Lot} {c d : Comp} (hd : d ∈ k.pieces) (ne : d ≠ c) :
    k.without c = some { k with pieces := k.pieces.filter (· != c) } := by
  unfold Lot.without
  exact if_neg (List.ne_nil_of_mem (List.mem_filter.mpr ⟨hd, by simpa using ne⟩))

variable {l : Ledger} {c : Comp} {n : RecordNo} {k : Lot}

/-- A compartment other than the one that leaves keeps its carrier (R50). -/
theorem Ledger.carrierAt_remove (h : l.InOrder) (lot : l.lots n = some k) (d : Comp) :
    (l.remove c n k).carrierAt d = if d = c then none else l.carrierAt d := by
  unfold Ledger.carrierAt Ledger.remove
  by_cases hd : d = c
  · simp [hd]
  · simp only [Function.update_of_ne hd, if_neg hd]
    cases hn : l.names d with
    | none => rfl
    | some m =>
      by_cases hm : m = n
      · obtain ⟨k', hk', hp⟩ := h.named d m hn
        subst hm
        rw [lot] at hk'
        cases hk'
        simp [lot, Lot.without_of_mem hp hd]
      · simp [Function.update_of_ne hm]

/-- The order of the ledger is kept when a compartment leaves it. -/
theorem Ledger.InOrder.remove (h : l.InOrder) (name : l.names c = some n) (lot : l.lots n = some k) :
    (l.remove c n k).InOrder where
  named d m hd := by
    unfold Ledger.remove at hd ⊢
    by_cases hc : d = c
    · simp [hc] at hd
    · simp only [Function.update_of_ne hc] at hd
      obtain ⟨j, hj, hp⟩ := h.named d m hd
      by_cases hm : m = n
      · subst hm
        rw [lot] at hj
        cases hj
        exact ⟨{ k with pieces := k.pieces.filter (· != c) }, by simp [Lot.without_of_mem hp hc],
          List.mem_filter.mpr ⟨hp, by simpa using hc⟩⟩
      · exact ⟨j, by simp [Function.update_of_ne hm, hj], hp⟩
  pieces m j hj := by
    unfold Ledger.remove at hj ⊢
    by_cases hm : m = n
    · subst hm
      simp only [Function.update_self] at hj
      obtain ⟨ne, rfl⟩ := Lot.without_eq_some hj
      obtain ⟨-, len, nodup, all⟩ := h.pieces m k lot
      refine ⟨ne, (List.length_filter_le ..).trans len, nodup.filter _, fun d hd => ?_⟩
      obtain ⟨hd, hc⟩ := List.mem_filter.mp hd
      simp only [bne_iff_ne] at hc
      simp [Function.update_of_ne hc, all d hd]
    · simp only [Function.update_of_ne hm] at hj
      obtain ⟨ne, len, nodup, all⟩ := h.pieces m j hj
      refine ⟨ne, len, nodup, fun d hd => ?_⟩
      have hc : d ≠ c := by
        rintro rfl
        exact hm (Option.some.inj ((all d hd).symm.trans name))
      simp [Function.update_of_ne hc, all d hd]
  codes m j hj := by
    unfold Ledger.remove at hj ⊢
    by_cases hm : m = n
    · subst hm
      simp only [Function.update_self] at hj
      obtain ⟨ne, rfl⟩ := Lot.without_eq_some hj
      simp only [if_neg ne]
      exact h.codes m k lot
    · simp only [Function.update_of_ne hm] at hj
      obtain ⟨kind, code⟩ := h.codes m j hj
      refine ⟨kind, fun x hx => ?_⟩
      dsimp only
      split
      · exact List.mem_filter.mpr ⟨code x hx, by simpa using hm⟩
      · exact code x hx
  mapped p hp := by
    unfold Ledger.remove at hp ⊢
    dsimp only at hp ⊢
    by_cases hm : p.2 = n
    · split at hp
      · simp [hm] at hp
      · rename_i ne
        obtain ⟨j, hj, hc⟩ := h.mapped p hp
        rw [hm, lot] at hj
        cases hj
        exact ⟨{ k with pieces := k.pieces.filter (· != c) }, by simp [hm, Lot.without, ne], hc⟩
    · have old : p ∈ l.codeMap := by
        split at hp
        · exact (List.mem_filter.mp hp).1
        · exact hp
      simpa [Function.update_of_ne hm] using h.mapped p old
  sorted := by
    unfold Ledger.remove
    dsimp only
    split
    · exact h.sorted.filter _
    · exact h.sorted
  live i := by
    have at_c : l.carrierAt c = some k.carrier := by simp [Ledger.carrierAt, name, lot]
    have after : (Finset.univ.filter fun d => (l.remove c n k).carrierAt d = some i) =
        (Finset.univ.filter fun d => l.carrierAt d = some i).erase c := by
      ext d
      rw [Finset.mem_filter, Finset.mem_erase, Finset.mem_filter, Ledger.carrierAt_remove h lot]
      by_cases hd : d = c <;> simp [hd]
    rw [after]
    unfold Ledger.remove
    by_cases hi : i = k.carrier
    · subst hi
      rw [Finset.card_erase_of_mem (by simp [at_c]), ← h.live]
      simp
    · rw [Finset.erase_eq_of_notMem (by simp [at_c, Ne.symm hi]), ← h.live]
      simp [Function.update_of_ne hi]

/-! ### A record joins the ledger -/

/-- The ledger after a record has been entered with its pieces, its code and its carrier's count (R9, R10, R50). -/
def Ledger.add (l : Ledger) (n : RecordNo) (k : Lot) : Ledger :=
  { names := fun c => if c ∈ k.pieces then some n else l.names c
    lots := Function.update l.lots n (some k)
    codeMap := k.code.elim l.codeMap fun x => mapInsert x n l.codeMap
    live := Function.update l.live k.carrier (l.live k.carrier + k.pieces.length) }

/-- The code map holds what it held and the pair entered (R10). -/
theorem mem_mapInsert (x : Nat) (r : RecordNo) (p : Nat × RecordNo) :
    ∀ m : List (Nat × RecordNo), p ∈ mapInsert x r m ↔ p = (x, r) ∨ p ∈ m
  | [] => by simp [mapInsert]
  | q :: m => by
    unfold mapInsert
    split
    · simp
    · simp only [List.mem_cons, mem_mapInsert x r p m]
      tauto

/-- The code map stays in ascending code order when a new code enters it (R10). -/
theorem mapInsert_sorted (x : Nat) (r : RecordNo) : ∀ m : List (Nat × RecordNo),
    (m.Pairwise fun p q => p.1 < q.1) → (∀ p ∈ m, p.1 ≠ x) → (mapInsert x r m).Pairwise fun p q => p.1 < q.1
  | [], _, _ => by simp [mapInsert]
  | q :: m, sorted, new => by
    obtain ⟨head, tail⟩ := List.pairwise_cons.mp sorted
    unfold mapInsert
    split
    · rename_i lt
      exact List.pairwise_cons.mpr ⟨fun p hp => by
        rcases List.mem_cons.mp hp with rfl | hp
        · exact lt
        · exact lt.trans (head p hp), sorted⟩
    · rename_i ge
      have first : q.1 ≠ x := new q (by simp)
      refine List.pairwise_cons.mpr ⟨fun p hp => ?_,
        mapInsert_sorted x r m tail fun p hp => new p (List.mem_cons_of_mem _ hp)⟩
      rcases (mem_mapInsert x r p m).mp hp with rfl | hp
      · show q.1 < x
        omega
      · exact head p hp

/-- A record that is not in use is named by no compartment. -/
theorem Ledger.InOrder.names_ne (h : l.InOrder) (free : l.lots n = none) (d : Comp) : l.names d ≠ some n := by
  intro hd
  obtain ⟨k, hk, -⟩ := h.named d n hd
  simp [free] at hk

/-- The code map after a record has been entered (R10). -/
theorem Ledger.mem_codeMap_add (p : Nat × RecordNo) :
    p ∈ (l.add n k).codeMap ↔ (k.code = some p.1 ∧ p.2 = n) ∨ p ∈ l.codeMap := by
  show p ∈ k.code.elim l.codeMap (fun x => mapInsert x n l.codeMap) ↔ _
  cases hc : k.code with
  | none => simp
  | some x =>
    simp only [Option.elim_some, mem_mapInsert, Option.some.injEq]
    constructor
    · rintro (rfl | hp)
      · exact .inl ⟨rfl, rfl⟩
      · exact .inr hp
    · rintro (⟨rfl, rfl⟩ | hp)
      · exact .inl rfl
      · exact .inr hp

/-- The carriers that compartments belong to after a record has been entered (R50). -/
theorem Ledger.carrierAt_add (h : l.InOrder) (free : l.lots n = none) (d : Comp) :
    (l.add n k).carrierAt d = if d ∈ k.pieces then some k.carrier else l.carrierAt d := by
  unfold Ledger.carrierAt Ledger.add
  by_cases hd : d ∈ k.pieces
  · simp [hd]
  · simp only [if_neg hd]
    cases hn : l.names d with
    | none => rfl
    | some m =>
      have hm : m ≠ n := fun e => h.names_ne free d (e ▸ hn)
      simp [Function.update_of_ne hm]

/-- The order of the ledger is kept when an unused record is entered, whose pieces name none and whose code is new. -/
theorem Ledger.InOrder.add (h : l.InOrder) (free : l.lots n = none) (some_piece : k.pieces ≠ [])
    (few : k.pieces.length ≤ 4) (nodup : k.pieces.Nodup) (unnamed : ∀ d ∈ k.pieces, l.names d = none)
    (kind : k.kind = .delivery ↔ k.code ≠ none) (new : ∀ x, k.code = some x → ∀ p ∈ l.codeMap, p.1 ≠ x) :
    (l.add n k).InOrder := by
  have lots_n : (l.add n k).lots n = some k := Function.update_self ..
  have lots_ne : ∀ m, m ≠ n → (l.add n k).lots m = l.lots m := fun m hm => Function.update_of_ne hm ..
  have names_in : ∀ d ∈ k.pieces, (l.add n k).names d = some n := fun d hd => if_pos hd
  have names_out : ∀ d, d ∉ k.pieces → (l.add n k).names d = l.names d := fun d hd => if_neg hd
  refine ⟨?_, ?_, ?_, ?_, ?_, ?_⟩
  · intro d m hd
    by_cases hp : d ∈ k.pieces
    · rw [names_in d hp] at hd
      cases hd
      exact ⟨k, lots_n, hp⟩
    · rw [names_out d hp] at hd
      rw [lots_ne m fun e => h.names_ne free d (e ▸ hd)]
      exact h.named d m hd
  · intro m j hj
    by_cases hm : m = n
    · subst hm
      rw [lots_n] at hj
      cases hj
      exact ⟨some_piece, few, nodup, names_in⟩
    · rw [lots_ne m hm] at hj
      obtain ⟨ne, len, nd, all⟩ := h.pieces m j hj
      refine ⟨ne, len, nd, fun d hd => ?_⟩
      have out : d ∉ k.pieces := fun hp => by simpa [unnamed d hp] using all d hd
      exact (names_out d out).trans (all d hd)
  · intro m j hj
    by_cases hm : m = n
    · subst hm
      rw [lots_n] at hj
      cases hj
      exact ⟨kind, fun x hx => (Ledger.mem_codeMap_add (x, m)).mpr (.inl ⟨hx, rfl⟩)⟩
    · rw [lots_ne m hm] at hj
      obtain ⟨kd, code⟩ := h.codes m j hj
      exact ⟨kd, fun x hx => (Ledger.mem_codeMap_add (x, m)).mpr (.inr (code x hx))⟩
  · intro p hp
    rcases (Ledger.mem_codeMap_add p).mp hp with ⟨hc, hn⟩ | hp
    · exact ⟨k, hn ▸ lots_n, hc⟩
    · have hm : p.2 ≠ n := by
        intro e
        obtain ⟨j, hj, -⟩ := h.mapped p hp
        rw [e, free] at hj
        cases hj
      rw [lots_ne _ hm]
      exact h.mapped p hp
  · show (k.code.elim l.codeMap fun x => mapInsert x n l.codeMap).Pairwise fun p q => p.1 < q.1
    cases hc : k.code with
    | none => exact h.sorted
    | some x => exact mapInsert_sorted x n _ h.sorted (new x hc)
  · intro i
    have unowned : ∀ d ∈ k.pieces, l.carrierAt d = none := fun d hd => by simp [Ledger.carrierAt, unnamed d hd]
    by_cases hi : i = k.carrier
    · have after : (Finset.univ.filter fun d => (l.add n k).carrierAt d = some i) =
          (Finset.univ.filter fun d => l.carrierAt d = some i) ∪ k.pieces.toFinset := by
        ext d
        simp only [Finset.mem_filter, Finset.mem_univ, true_and, Finset.mem_union, List.mem_toFinset,
          Ledger.carrierAt_add h free]
        by_cases hd : d ∈ k.pieces <;> simp [hd, hi]
      have apart : Disjoint (Finset.univ.filter fun d => l.carrierAt d = some i) k.pieces.toFinset := by
        refine Finset.disjoint_left.mpr fun d hd hp => ?_
        simp [unowned d (List.mem_toFinset.mp hp)] at hd
      rw [after, Finset.card_union_of_disjoint apart, List.toFinset_card_of_nodup nodup, ← h.live, hi]
      exact Function.update_self ..
    · have after : (Finset.univ.filter fun d => (l.add n k).carrierAt d = some i) =
          Finset.univ.filter fun d => l.carrierAt d = some i := by
        ext d
        simp only [Finset.mem_filter, Finset.mem_univ, true_and, Ledger.carrierAt_add h free]
        by_cases hd : d ∈ k.pieces <;> simp [hd, unowned, Ne.symm hi]
      rw [after, ← h.live]
      exact Function.update_of_ne hi ..

end Sys2Proof.Machine
end

section
/-! SUPPORT. The order of the custody table through the operations of the table itself: each leaves the entry of its own
compartment in the order of its new state, and keeps the ledger, but for the removal of a holding. -/

namespace Sys2Proof.Machine

/-! ### Entries in order -/

section
variable {e : CompartmentEntry} {x : Holding}

/-- An entry with a holding: which states it can be in, and that it is fitted (R2, R3). -/
theorem CompartmentEntry.InOrder.of_holding (h : e.InOrder) (hx : e.holding = some x) :
    e.fitted = true ∧ e.state ≠ .notFitted ∧ e.state ≠ .free ∧ x.InOrder e.state := by
  obtain ⟨fitted, -, empty, -, holding⟩ := h
  have bare : ¬ (e.state = .notFitted ∨ e.state = .free) := fun hs => by simp [empty hs] at hx
  have ne : e.state ≠ .notFitted := fun hs => bare (.inl hs)
  exact ⟨fitted.mpr ne, ne, fun hs => bare (.inr hs), holding x hx⟩

/-- An entry in a state that always has a holding has one (R3). -/
theorem CompartmentEntry.InOrder.has_holding (h : e.InOrder) (nf : e.state ≠ .notFitted) (fr : e.state ≠ .free)
    (oos : e.state ≠ .outOfService) : ∃ x, e.holding = some x := by
  obtain ⟨-, -, -, bare, -⟩ := h
  refine Option.ne_none_iff_exists'.mp fun hn => ?_
  rcases bare hn with hs | hs | hs
  · exact nf hs
  · exact fr hs
  · exact oos hs

/-- An entry that is given a state with a holding, in the order of that state. -/
theorem CompartmentEntry.inOrder_held {st : CustodyState} {cause : Option OosCause} (fitted : e.fitted = true)
    (nf : st ≠ .notFitted) (fr : st ≠ .free) (hc : cause ≠ none ↔ st = .outOfService) (hx : x.InOrder st) :
    CompartmentEntry.InOrder { e with state := st, cause := cause, holding := some x } :=
  ⟨by simp [fitted, nf], hc, fun hs => by simp [nf, fr] at hs, fun hn => by simp at hn,
    fun y hy => by cases hy; exact hx⟩

/-- An entry that is given a state without a holding. -/
theorem CompartmentEntry.inOrder_bare {st : CustodyState} {cause : Option OosCause} (fitted : e.fitted = true)
    (hs : st = .free ∧ cause = none ∨ st = .outOfService ∧ cause ≠ none) :
    CompartmentEntry.InOrder { e with state := st, cause := cause, holding := none } := by
  rcases hs with ⟨rfl, rfl⟩ | ⟨rfl, hc⟩
  · simp [CompartmentEntry.InOrder, fitted]
  · simp [CompartmentEntry.InOrder, fitted, hc]

/-- Out of OUT_OF_SERVICE an entry has no cause (R4). -/
theorem CompartmentEntry.InOrder.cause_none (h : e.InOrder) (oos : e.state ≠ .outOfService) : e.cause = none := by
  obtain ⟨-, cause, -⟩ := h
  by_contra hc
  exact oos (cause.mp hc)

/-- A holding in a claim or at rest has its rest state and deposit minute, and no review cause (R5, R6). -/
theorem Holding.InOrder.settled {st : CustodyState} (h : x.InOrder st)
    (hs : st.isRest = true ∨ st = .releasing ∨ st = .emptying) :
    x.rest ≠ none ∧ x.depositMinute.isSome = true ∧ x.causes = [] := by
  obtain ⟨rest, minute, -, -, -, -, -, causes⟩ := h
  have deposited : x.rest ≠ none := fun hn => by
    rcases rest.mp hn with rfl | rfl <;> simp [CustodyState.isRest] at hs
  refine ⟨deposited, minute ▸ Option.isSome_iff_ne_none.mpr deposited, ?_⟩
  by_contra hc
  rcases causes hc with rfl | rfl <;> simp [CustodyState.isRest] at hs

/-- A cause that is appended keeps the list within its bounds, and not empty (R6). -/
theorem Holding.addCause_causes (x : Holding) (k : ReviewCause) (nodup : x.causes.Nodup) (few : x.causes.length ≤ 4) :
    (x.addCause k).causes.Nodup ∧ (x.addCause k).causes.length ≤ 4 ∧ (x.addCause k).causes ≠ [] := by
  unfold Holding.addCause
  split
  · rename_i full
    refine ⟨nodup, few, fun hn => ?_⟩
    simp [hn] at full
  · rename_i room
    simp only [Bool.or_eq_true, List.contains_iff_mem, decide_eq_true_eq, not_or, Nat.not_le] at room
    refine ⟨List.nodup_append.mpr ⟨nodup, List.nodup_singleton _, ?_⟩, by simp; omega, by simp⟩
    intro a ha b hb hab
    rw [List.mem_singleton.mp hb] at hab
    exact room.1 (hab ▸ ha)

/-- A cause that is appended changes the list of causes alone (R6). -/
@[simp] theorem Holding.addCause_fields (x : Holding) (k : ReviewCause) :
    (x.addCause k).rest = x.rest ∧ (x.addCause k).depositMinute = x.depositMinute ∧
    (x.addCause k).claimant = x.claimant := by
  unfold Holding.addCause
  split <;> exact ⟨rfl, rfl, rfl⟩

/-- A holding at rest, in its rest state's custody state, without claimant or causes (R5). -/
theorem Holding.inOrder_atRest {r : RestState} (rest : x.rest = some r) (minute : x.depositMinute.isSome = true)
    (claimant : x.claimant = none) (causes : x.causes = []) : x.InOrder (RestState.custody r) := by
  cases r <;> simp [Holding.InOrder, rest, minute, claimant, causes, RestState.custody, CustodyState.isRest]

/-- A holding under a claim (R5, R21). -/
theorem Holding.inOrder_claimed {st : CustodyState} (hs : st = .releasing ∨ st = .emptying) (rest : x.rest ≠ none)
    (minute : x.depositMinute.isSome = true) (claimant : x.claimant ≠ none) (causes : x.causes = []) :
    x.InOrder st := by
  rcases hs with rfl | rfl <;>
    simp [Holding.InOrder, rest, minute, claimant, causes, CustodyState.isRest, Option.isSome_iff_ne_none]

/-- A holding in REVIEW or OUT_OF_SERVICE (R6). -/
theorem Holding.inOrder_withheld {st : CustodyState} (hs : st = .review ∧ x.causes ≠ [] ∨ st = .outOfService)
    (rest : x.rest ≠ none) (minute : x.depositMinute.isSome = true) (claimant : x.claimant = none)
    (nodup : x.causes.Nodup) (few : x.causes.length ≤ 4) : x.InOrder st := by
  rcases hs with ⟨rfl, hc⟩ | rfl
  · simp [Holding.InOrder, rest, minute, claimant, nodup, few, hc, CustodyState.isRest, Option.isSome_iff_ne_none]
  · simp [Holding.InOrder, rest, minute, claimant, nodup, few, CustodyState.isRest, Option.isSome_iff_ne_none]

end

/-! ### The ledger through single updates -/

section
variable (s : State)

/-- The ledger depends on the custody table and the carriers alone. -/
theorem ledger_congr {s t : State} (custody : t.custody = s.custody) (carriers : t.carriers = s.carriers) :
    t.ledger = s.ledger := by
  unfold State.ledger State.holding State.entry State.record
  rw [custody, carriers]

/-- An entry that is written changes the record that its compartment names. -/
theorem ledger_putEntry (c : Comp) (e : CompartmentEntry) : (s.putEntry c e).ledger =
    { s.ledger with names := Function.update s.ledger.names c (e.holding.map (·.record)) } := by
  have names : (s.putEntry c e).ledger.names = Function.update s.ledger.names c (e.holding.map (·.record)) := by
    funext d
    show (((s.putEntry c e).entry d).holding).map (·.record) = _
    by_cases hd : d = c
    · subst hd
      simp
    · rw [putEntry_entry_other s c d e hd, Function.update_of_ne hd]
      rfl
  show Ledger.mk (s.putEntry c e).ledger.names _ _ _ = _
  rw [names]
  rfl

theorem ledger_setEntry (c : Comp) (e : CompartmentEntry) : (s.setEntry c e).ledger =
    { s.ledger with names := Function.update s.ledger.names c (e.holding.map (·.record)) } := by
  unfold State.setEntry
  split
  · exact ledger_putEntry s c e
  · exact ledger_putEntry s c e

/-- A record that is written changes what that record fixes. -/
theorem ledger_putRecord (n : RecordNo) (k : Option Consignment) : (s.putRecord n k).ledger =
    { s.ledger with lots := Function.update s.ledger.lots n (k.map Consignment.lot) } := by
  have lots : (s.putRecord n k).ledger.lots = Function.update s.ledger.lots n (k.map Consignment.lot) := by
    funext m
    show ((s.putRecord n k).record m).map Consignment.lot = _
    by_cases hm : m = n
    · subst hm
      simp
    · rw [Function.update_of_ne hm]
      show ((put s.custody.records n k).get m).map Consignment.lot = _
      rw [put_get_other _ _ _ _ hm]
      rfl
  show Ledger.mk _ (s.putRecord n k).ledger.lots _ _ = _
  rw [lots]
  rfl

/-- A carrier entry that is written changes that carrier's live count. -/
theorem ledger_putCarrier (i : Fin 8) (e : CarrierEntry) : (s.putCarrier i e).ledger =
    { s.ledger with live := Function.update s.ledger.live i e.live } := by
  have live : (s.putCarrier i e).ledger.live = Function.update s.ledger.live i e.live := by
    funext j
    show ((put s.carriers i e).get j).live = _
    by_cases hj : j = i
    · subst hj
      simp
    · rw [put_get_other _ _ _ _ hj, Function.update_of_ne hj]
      rfl
  show Ledger.mk _ _ _ (s.putCarrier i e).ledger.live = _
  rw [live]
  rfl

/-- A carrier's live count falls by one (R50). -/
theorem ledger_lowerLive (i : Fin 8) : (s.lowerLive i).ledger =
    { s.ledger with live := Function.update s.ledger.live i (s.ledger.live i - 1) } := ledger_putCarrier s i _

/-- A carrier's live count rises (R50). -/
theorem ledger_raiseLive (i : Fin 8) (n : Nat) : (s.raiseLive i n).ledger =
    { s.ledger with live := Function.update s.ledger.live i (s.ledger.live i + n) } := ledger_putCarrier s i _

/-- An entry is written whose holding names the same record. -/
theorem ledger_setEntry_same (c : Comp) (e : CompartmentEntry)
    (same : e.holding.map (·.record) = (s.holding c).map (·.record)) : (s.setEntry c e).ledger = s.ledger := by
  rw [ledger_setEntry, same]
  exact congrArg (fun names => { s.ledger with names := names }) (Function.update_eq_self ..)

/-- A change of custody state alone keeps the ledger. -/
@[simp] theorem ledger_setCustody (c : Comp) (st : CustodyState) : (s.setCustody c st).ledger = s.ledger :=
  ledger_setEntry_same s c _ rfl

/-- A change of a holding that keeps its record keeps the ledger. -/
theorem ledger_updHolding (c : Comp) (f : Holding → Holding) (keeps : ∀ x, (f x).record = x.record) :
    (s.updHolding c f).ledger = s.ledger := by
  have same : ((s.holding c).map f).map (·.record) = s.ledger.names c := by
    show _ = (s.holding c).map (·.record)
    cases s.holding c <;> simp [keeps]
  refine (ledger_putEntry s c _).trans ?_
  rw [same]
  exact congrArg (fun names => { s.ledger with names := names }) (Function.update_eq_self ..)

/-- A change of a record that keeps its code, kind, carrier and pieces keeps the ledger. -/
theorem ledger_updRecord (n : RecordNo) (f : Consignment → Consignment) (keeps : ∀ k, (f k).lot = k.lot) :
    (s.updRecord n f).ledger = s.ledger := by
  have same : ((s.record n).map f).map Consignment.lot = s.ledger.lots n := by
    show _ = (s.record n).map Consignment.lot
    cases s.record n <;> simp [keeps]
  refine (ledger_putRecord s n _).trans ?_
  rw [same]
  exact congrArg (fun lots => { s.ledger with lots := lots }) (Function.update_eq_self ..)

/-- The end of a charge keeps the ledger (R127). -/
@[simp] theorem ledger_endCharge (i : ChargeSlot) (st : ChargeState) (k : Option EndCause) (m : Option Nat) :
    (s.endCharge i st k m).ledger = s.ledger := by
  unfold State.endCharge
  dsimp only
  split
  · exact (ledger_updRecord _ _ (Consignment.forget _) fun _ => rfl).trans rfl
  · rfl

@[simp] theorem ledger_voidRetired (k : Consignment) : (s.voidRetired k).ledger = s.ledger := by
  unfold State.voidRetired
  split
  · split
    · exact ledger_endCharge ..
    · rfl
  · rfl

end

/-! ### The order of the custody table, kept -/

/-- The custody table is in order: its entries and its ledger. -/
structure Orderly (s : State) : Prop where
  entries : ∀ c, (s.entry c).InOrder
  ledger : s.ledger.InOrder

theorem orderly_iff (s : State) : Orderly s ↔ s.CustodyInOrder :=
  ⟨fun h => (custodyInOrder_iff s).mpr ⟨h.entries, h.ledger⟩,
    fun h => ⟨((custodyInOrder_iff s).mp h).1, ((custodyInOrder_iff s).mp h).2⟩⟩

section
variable {s t : State} {c : Comp}

/-- A change of other blocks alone. -/
theorem Orderly.of_eq (h : Orderly s) (custody : t.custody = s.custody) (carriers : t.carriers = s.carriers) :
    Orderly t :=
  ⟨fun c => by unfold State.entry; rw [custody]; exact h.entries c, ledger_congr custody carriers ▸ h.ledger⟩

/-- A change of one entry, which names the record it named. -/
theorem Orderly.of_entry (h : Orderly s) (c : Comp) (ledger : t.ledger = s.ledger)
    (others : ∀ d, d ≠ c → t.entry d = s.entry d) (own : (t.entry c).InOrder) : Orderly t :=
  ⟨fun d => if hd : d = c then hd ▸ own else (others d hd).symm ▸ h.entries d, ledger ▸ h.ledger⟩

/-- A fold of operations each of which keeps the order. -/
theorem Orderly.foldl {α : Type} (f : State → α → State) (hf : ∀ u x, Orderly u → Orderly (f u x)) :
    ∀ (l : List α) (u : State), Orderly u → Orderly (l.foldl f u)
  | [], _, h => h
  | x :: l, u, h => Orderly.foldl f hf l (f u x) (hf u x h)

/-- A compartment in a state that always has a holding has one. -/
theorem Orderly.has_holding (h : Orderly s) (nf : s.custodyState c ≠ .notFitted) (fr : s.custodyState c ≠ .free)
    (oos : s.custodyState c ≠ .outOfService) : ∃ x, s.holding c = some x := (h.entries c).has_holding nf fr oos

/-- A compartment that is FREE has no holding. -/
theorem Orderly.free_bare (h : Orderly s) (fr : s.custodyState c = .free) : s.holding c = none := by
  obtain ⟨-, -, empty, -⟩ := h.entries c
  exact empty (.inr fr)

/-- A change of an entry's custody state and holding, which keeps the record it names. -/
theorem Orderly.updHolding_setCustody (h : Orderly s) (f : Holding → Holding) (keeps : ∀ x, (f x).record = x.record)
    (st : CustodyState) (own : CompartmentEntry.InOrder
      { s.entry c with state := st, holding := (s.holding c).map f }) :
    Orderly ((s.updHolding c f).setCustody c st) := by
  refine h.of_entry c (by simp [ledger_updHolding s c f keeps]) (fun d hd => ?_) (by simpa using own)
  rw [setCustody_entry_other _ _ _ _ hd, updHolding_entry_other _ _ _ _ hd]

/-- A change of a holding that keeps the record it names. -/
theorem Orderly.updHolding (h : Orderly s) (f : Holding → Holding) (keeps : ∀ x, (f x).record = x.record)
    (own : ∀ x, s.holding c = some x → x.InOrder (s.custodyState c) → (f x).InOrder (s.custodyState c)) :
    Orderly (s.updHolding c f) := by
  refine h.of_entry c (ledger_updHolding s c f keeps) (fun d hd => updHolding_entry_other _ _ _ _ hd) ?_
  rw [updHolding_entry_same]
  cases hx : s.holding c with
  | none =>
    have same : { s.entry c with holding := none } = s.entry c := by
      rw [← hx]
      rfl
    exact same ▸ h.entries c
  | some x =>
    have entry := h.entries c
    obtain ⟨fitted, nf, fr, hold⟩ := entry.of_holding hx
    exact CompartmentEntry.inOrder_held fitted nf fr entry.2.1 (own x hx hold)

/-- A holding returns to rest from a claim (R5, R24); a compartment without a rest state is left. -/
theorem Orderly.toRest (h : Orderly s) (rv : s.custodyState c ≠ .review) (oos : s.custodyState c ≠ .outOfService) :
    Orderly (s.toRest c) := by
  unfold State.toRest
  split
  · rename_i r hr
    obtain ⟨x, hx, rest⟩ := Option.bind_eq_some_iff.mp hr
    have entry := h.entries c
    obtain ⟨fitted, -, -, -, minute, -, -, -, -, -, causes⟩ := entry.of_holding hx
    refine h.updHolding_setCustody _ ?_ _ ?_
    · exact fun _ => rfl
    rw [hx, Option.map_some]
    refine CompartmentEntry.inOrder_held fitted ?_ ?_ ?_ (Holding.inOrder_atRest rest ?_ rfl ?_)
    · cases r <;> simp [RestState.custody]
    · cases r <;> simp [RestState.custody]
    · rw [entry.cause_none oos]
      cases r <;> simp [RestState.custody]
    · rw [← minute, rest]
      rfl
    · by_contra hc
      rcases causes hc with hs | hs
      · exact rv hs
      · exact oos hs
  · exact h

/-- A posted notice, which every operation below may add, keeps the order. -/
@[simp] theorem Orderly.post (h : Orderly s) (r : Role) (n : Notice) : Orderly (s.post r n) := h.of_eq rfl rfl

@[simp] theorem Orderly.postBoth (h : Orderly s) (a b : Role) (n : Notice) : Orderly (s.postBoth a b n) := by
  unfold State.postBoth
  split
  · exact h.post ..
  · exact (h.post ..).post ..

/-- A holding at rest or under a claim enters REVIEW (R17, R26). -/
theorem Orderly.enterReview (h : Orderly s) (k : ReviewCause)
    (hs : (s.custodyState c).isRest = true ∨ s.custodyState c = .releasing) : Orderly (s.enterReview c k) := by
  have entry := h.entries c
  have nf : s.custodyState c ≠ .notFitted := fun e => by simp [e, CustodyState.isRest] at hs
  have fr : s.custodyState c ≠ .free := fun e => by simp [e, CustodyState.isRest] at hs
  have oos : s.custodyState c ≠ .outOfService := fun e => by simp [e, CustodyState.isRest] at hs
  obtain ⟨x, hx⟩ := h.has_holding nf fr oos
  obtain ⟨fitted, -, -, hold⟩ := entry.of_holding hx
  obtain ⟨rest, minute, causes⟩ := hold.settled (hs.imp_right .inl)
  obtain ⟨nodup, few, ne⟩ := x.addCause_causes k (by simp [causes]) (by simp [causes])
  have own : CompartmentEntry.InOrder { s.entry c with
      state := .review, holding := (s.holding c).map fun y => { y.addCause k with claimant := none } } := by
    rw [hx, Option.map_some]
    refine CompartmentEntry.inOrder_held fitted (by simp) (by simp) (by simp [entry.cause_none oos]) ?_
    exact Holding.inOrder_withheld (.inl ⟨rfl, ne⟩) (by simpa using rest) (by simpa using minute) rfl nodup few
  exact (h.updHolding_setCustody (fun y => { y.addCause k with claimant := none }) (fun y => addCause_record y k)
    .review own).post ..

/-- A review cause is appended in REVIEW or OUT_OF_SERVICE (R6). -/
theorem Orderly.addCause (h : Orderly s) (k : ReviewCause)
    (hs : s.custodyState c = .review ∨ s.custodyState c = .outOfService) : Orderly (s.addCause c k) := by
  refine h.updHolding _ (fun x => addCause_record x k) fun x _ hold => ?_
  obtain ⟨rest, minute, -, claimant, nodup, few, -, -⟩ := hold
  obtain ⟨nodup', few', ne⟩ := x.addCause_causes k nodup few
  obtain ⟨hr, hm, hc⟩ := x.addCause_fields k
  rw [← hr, ← hm] at minute
  have deposited : (x.addCause k).rest ≠ none := fun hn => by
    rw [hr] at hn
    rcases hs with e | e <;> simp [e, hn] at rest
  refine Holding.inOrder_withheld (hs.imp_left fun e => ⟨e, ne⟩) deposited ?_ ?_ nodup' few'
  · exact minute ▸ Option.isSome_iff_ne_none.mpr deposited
  · rw [hc]
    by_contra hn
    rcases hs with e | e <;> simp [e] at claimant <;> exact hn claimant

/-- A compartment goes OUT_OF_SERVICE with its holding as it stands, from any state without a deposit in progress and
without a claim (R4). -/
theorem Orderly.outOfService (h : Orderly s) (k : OosCause)
    (hs : (s.custodyState c).isRest = true ∨ s.custodyState c = .free ∨ s.custodyState c = .review ∨
      s.custodyState c = .outOfService) : Orderly (s.outOfService c k) := by
  have entry := h.entries c
  have ne : s.custodyState c ≠ .notFitted := fun e => by simp [e, CustodyState.isRest] at hs
  refine h.of_entry c (ledger_setEntry_same s c _ rfl) (fun d hd => outOfService_entry_other _ _ _ _ hd) ?_
  rw [outOfService_entry_same]
  have fitted : (s.entry c).fitted = true := entry.1.mpr ne
  cases hx : (s.entry c).holding with
  | none =>
    have bare := CompartmentEntry.inOrder_bare (e := s.entry c) (st := .outOfService) (cause := some k) fitted
      (.inr ⟨rfl, by simp⟩)
    rwa [← hx] at bare
  | some x =>
    obtain ⟨-, -, -, rest, minute, -, claimant, nodup, few, -, -⟩ := entry.of_holding hx
    have deposited : x.rest ≠ none := fun hn => by
      rcases rest.mp hn with e | e <;> simp [State.custodyState, e, CustodyState.isRest] at hs
    have own := CompartmentEntry.inOrder_held (e := s.entry c) (st := .outOfService) (cause := some k) (x := x)
      fitted (by simp) (by simp) (by simp)
      (Holding.inOrder_withheld (.inr rfl) deposited (minute ▸ Option.isSome_iff_ne_none.mpr deposited)
        (by
          by_contra hn
          rcases claimant.mp hn with e | e <;> simp [State.custodyState, e, CustodyState.isRest] at hs) nodup few)
    rwa [← hx] at own

/-- A claim on a holding at rest, or one that is under a claim already (R21). -/
theorem Orderly.claim (h : Orderly s) (w : Claimant)
    (hs : (s.custodyState c).isRest = true ∨ s.custodyState c = .releasing) : Orderly (s.claim c w) := by
  have entry := h.entries c
  have nf : s.custodyState c ≠ .notFitted := fun e => by simp [e, CustodyState.isRest] at hs
  have fr : s.custodyState c ≠ .free := fun e => by simp [e, CustodyState.isRest] at hs
  have oos : s.custodyState c ≠ .outOfService := fun e => by simp [e, CustodyState.isRest] at hs
  obtain ⟨x, hx⟩ := h.has_holding nf fr oos
  obtain ⟨fitted, -, -, hold⟩ := entry.of_holding hx
  obtain ⟨rest, minute, causes⟩ := hold.settled (hs.imp_right .inl)
  refine h.updHolding_setCustody _ ?_ _ ?_
  · exact fun _ => rfl
  rw [hx, Option.map_some]
  exact CompartmentEntry.inOrder_held fitted (by simp) (by simp) (by simp [entry.cause_none oos])
    (Holding.inOrder_claimed (.inl rfl) rest minute (by simp) causes)

/-! ### Removal -/

/-- The ledger after a removal (R8, R11). -/
theorem ledger_removeHolding (s : State) (c : Comp) (st : CustodyState) (cause : Option OosCause) {x : Holding}
    {k : Consignment} (hx : s.holding c = some x) (hk : s.record x.record = some k) :
    (s.removeHolding c st cause).ledger = s.ledger.remove c x.record k.lot := by
  have record : ∀ e, (s.setEntry c e).record x.record = some k := fun e => by
    unfold State.record
    rw [show (s.setEntry c e).custody.records = s.custody.records by simp]
    exact hk
  simp only [State.removeHolding, hx, State.leaveRecord, record, List.isEmpty_iff]
  by_cases last : k.pieces.filter (· != c) = []
  · rw [if_pos last]
    have unlisted : ∀ u : State, (u.unlist x.record).ledger =
        { u.ledger with codeMap := u.ledger.codeMap.filter fun p => p.2 != x.record } := fun _ => rfl
    rw [unlisted, ledger_putRecord, ledger_voidRetired, ledger_lowerLive, ledger_setEntry]
    simp [Ledger.remove, Lot.without, Consignment.lot, last]
  · rw [if_neg last, ledger_putRecord, ledger_lowerLive, ledger_setEntry]
    simp [Ledger.remove, Lot.without, Consignment.lot, last]

/-- A holding leaves the table, and its compartment goes FREE or OUT_OF_SERVICE (R8). -/
theorem Orderly.removeHolding (h : Orderly s) (c : Comp) (st : CustodyState) (cause : Option OosCause)
    (hs : st = .free ∧ cause = none ∨ st = .outOfService ∧ cause ≠ none) : Orderly (s.removeHolding c st cause) := by
  cases hx : s.holding c with
  | none =>
    unfold State.removeHolding
    rw [hx]
    exact h
  | some x =>
    have name : s.ledger.names c = some x.record := by simp [State.ledger, hx]
    obtain ⟨l, hl, -⟩ := h.ledger.named c x.record name
    obtain ⟨k, hk, rfl⟩ := Option.map_eq_some_iff.mp hl
    refine ⟨fun d => ?_, ?_⟩
    · by_cases hd : d = c
      · subst hd
        rw [removeHolding_entry_same s d st cause x hx]
        exact CompartmentEntry.inOrder_bare ((h.entries d).of_holding hx).1 hs
      · rw [removeHolding_entry_other s c d st cause hd]
        exact h.entries d
    · rw [ledger_removeHolding s c st cause hx hk]
      exact h.ledger.remove name hl

end

end Sys2Proof.Machine
end

section
/-! SUPPORT. The order of the custody table through the operations that every command shares: notices, the queue, the
charges, the window, the door events, release outcomes and the overstay scan. -/

namespace Sys2Proof.Machine

variable {s t : State} {c : Comp}

/-! ### Other blocks -/

@[simp] theorem Orderly.emit (h : Orderly t) (g : Signal) : Orderly (t.emit g) := h.of_eq rfl rfl
@[simp] theorem Orderly.markArbiter (h : Orderly t) : Orderly t.markArbiter := h.of_eq rfl rfl
@[simp] theorem Orderly.begin (h : Orderly t) : Orderly t.begin := h.of_eq rfl rfl
@[simp] theorem Orderly.setDoor (h : Orderly t) (c : Comp) (d : Option Door) : Orderly (t.setDoor c d) :=
  h.of_eq rfl rfl
@[simp] theorem Orderly.setBaseline (h : Orderly t) (c : Comp) (p : Option BaselineSample) :
    Orderly (t.setBaseline c p) := h.of_eq rfl rfl
@[simp] theorem Orderly.setOwed (h : Orderly t) (c : Column) (b : Bool) : Orderly (t.setOwed c b) := h.of_eq rfl rfl
@[simp] theorem Orderly.setPhase (h : Orderly t) (p : SweepPhase) : Orderly (t.setPhase p) := h.of_eq rfl rfl
@[simp] theorem Orderly.latch (h : Orderly t) (x : Sense) : Orderly (t.latch x) := h.of_eq rfl rfl
@[simp] theorem Orderly.putCharge (h : Orderly t) (i : ChargeSlot) (r : ChargeRecord) : Orderly (t.putCharge i r) :=
  h.of_eq rfl rfl
@[simp] theorem Orderly.freeSlot (h : Orderly t) (i : ChargeSlot) : Orderly (t.freeSlot i) := h.of_eq rfl rfl
@[simp] theorem Orderly.setWindow (h : Orderly t) (w : List WindowRecord) : Orderly (t.setWindow w) :=
  h.of_eq rfl rfl
@[simp] theorem Orderly.putSlot (h : Orderly t) (i : RingSlot) (x : Slot) : Orderly (t.putSlot i x) := h.of_eq rfl rfl
@[simp] theorem Orderly.setEngine (h : Orderly t) (e : EngineState) : Orderly (t.setEngine e) := h.of_eq rfl rfl
@[simp] theorem Orderly.setPointer (h : Orderly t) (i : RingSlot) : Orderly (t.setPointer i) := h.of_eq rfl rfl
@[simp] theorem Orderly.enterStopped (h : Orderly t) : Orderly t.enterStopped := h.of_eq rfl rfl
@[simp] theorem Orderly.putColumn (h : Orderly t) (c : Column) (st : ColumnState) : Orderly (t.putColumn c st) :=
  h.of_eq rfl rfl
@[simp] theorem Orderly.setQueue (h : Orderly t) (q : List Entry) : Orderly (t.setQueue q) := h.of_eq rfl rfl
@[simp] theorem Orderly.setPending (h : Orderly t) (l : List Comp) : Orderly (t.setPending l) := h.of_eq rfl rfl
@[simp] theorem Orderly.dropEntry (h : Orderly t) (c : Comp) : Orderly (t.dropEntry c) := h.of_eq rfl rfl
@[simp] theorem Orderly.departed (h : Orderly t) : Orderly t.departed := h.of_eq rfl rfl
@[simp] theorem Orderly.leavesQueue (h : Orderly t) (c : Comp) : Orderly (t.leavesQueue c) := h.of_eq rfl rfl
@[simp] theorem Orderly.join (h : Orderly t) (e : Entry) : Orderly (t.join e) := h.of_eq rfl rfl
@[simp] theorem Orderly.addSticky (h : Orderly t) (x : CondSet) : Orderly (t.addSticky x) := h.of_eq rfl rfl
@[simp] theorem Orderly.onPort (h : Orderly t) (p : Fin 4) (f : PortUnit → PortUnit) : Orderly (t.onPort p f) :=
  h.of_eq rfl rfl
@[simp] theorem Orderly.reportDrop (h : Orderly t) (n : RingSlot) (c : Comp) (o : Status) (m : Option Nat) :
    Orderly (t.reportDrop n c o m) := h.of_eq rfl rfl
@[simp] theorem Orderly.reportClaim (h : Orderly t) (c : Comp) (e : ClaimEnd) : Orderly (t.reportClaim c e) :=
  h.of_eq rfl rfl
@[simp] theorem Orderly.serviceDone (h : Orderly t) (b : State) (c : Comp) (d : Detail) :
    Orderly (t.serviceDone b c d) := h.post ..
@[simp] theorem Orderly.noteForced (h : Orderly t) (c : Comp) (b : Bool) : Orderly (t.noteForced c b) := h.post ..
@[simp] theorem Orderly.testResult (h : Orderly t) (c : Comp) (d : Detail) (q : Option Detail) :
    Orderly (t.testResult c d q) := h.post ..

@[simp] theorem Orderly.reportOrigin (h : Orderly t) (o : Origin) (c : Comp) (st : Status) (m : Option Nat) :
    Orderly (t.reportOrigin o c st m) := by
  cases o with
  | slot n => exact h.reportDrop ..
  | console => exact h

@[simp] theorem Orderly.tellScanner (h : Orderly t) (c : Column) : Orderly (t.tellScanner c) := by
  unfold State.tellScanner
  split
  · exact h.emit _
  · exact h

@[simp] theorem Orderly.setColumn (h : Orderly t) (c : Column) (st : ColumnState) : Orderly (t.setColumn c st) :=
  ((h.putColumn c st).markArbiter).tellScanner c

@[simp] theorem Orderly.disarm (h : Orderly t) (c : Column) : Orderly (t.disarm c) := h.setColumn ..

@[simp] theorem Orderly.withdraw (h : Orderly t) (c : Comp) : Orderly (t.withdraw c) :=
  h.of_eq (by simp) (by simp)

@[simp] theorem Orderly.columnAfterPulse (h : Orderly t) (c : Column) : Orderly (t.columnAfterPulse c) := by
  unfold State.columnAfterPulse
  split
  · split
    · exact h.disarm c
    · exact h.setColumn ..
  all_goals exact h

/-! ### Charges and records -/

/-- A record is changed in what the rest of the table does not depend on. -/
theorem Orderly.updRecord (h : Orderly t) (n : RecordNo) (f : Consignment → Consignment)
    (keeps : ∀ k, (f k).lot = k.lot) : Orderly (t.updRecord n f) :=
  ⟨h.entries, (ledger_updRecord t n f keeps).symm ▸ h.ledger⟩

@[simp] theorem Orderly.endCharge (h : Orderly t) (i : ChargeSlot) (st : ChargeState) (k : Option EndCause)
    (m : Option Nat) : Orderly (t.endCharge i st k m) := by
  refine ⟨fun c => ?_, (ledger_endCharge t i st k m).symm ▸ h.ledger⟩
  unfold State.entry
  rw [show (t.endCharge i st k m).custody.entries = t.custody.entries by simp]
  exact h.entries c

@[simp] theorem Orderly.voidOpen (h : Orderly t) (k : Consignment) (cause : EndCause) :
    Orderly (t.voidOpen k cause) := by
  unfold State.voidOpen
  split
  · split
    · exact h.endCharge ..
    · exact h
  · exact h

@[simp] theorem Orderly.openIn (h : Orderly t) (i : ChargeSlot) (n : RecordNo) (o k : Nat) :
    Orderly (t.openIn i n o k) := by
  refine Orderly.updRecord (Orderly.of_eq h ?_ ?_) n _ ?_
  · rfl
  · rfl
  · exact fun _ => rfl

/-! ### Claims and their lapse -/

@[simp] theorem Orderly.lapse (h : Orderly t) (rv : t.custodyState c ≠ .review)
    (oos : t.custodyState c ≠ .outOfService) : Orderly (t.lapse c) := by
  unfold State.lapse
  split
  · exact (h.toRest rv oos).post ..
  · exact (h.toRest rv oos).reportClaim ..
  · exact (h.toRest rv oos).serviceDone ..
  · exact h.toRest rv oos

/-- A holding's RELEASE_INTERRUPTED mark is no part of the order. -/
theorem Orderly.markInterrupted (h : Orderly t) (b : Bool) :
    Orderly (t.updHolding c fun x => { x with releaseInterrupted := b }) :=
  h.updHolding (fun x => { x with releaseInterrupted := b }) (fun _ => rfl) fun _ _ hold => hold

/-- Nor is its COLLECT_INCOMPLETE mark. -/
theorem Orderly.markIncomplete (h : Orderly t) (b : Bool) :
    Orderly (t.updHolding c fun x => { x with collectIncomplete := b }) :=
  h.updHolding (fun x => { x with collectIncomplete := b }) (fun _ => rfl) fun _ _ hold => hold

/-- The door of a compartment opens for its deposit or its removal (R13). -/
@[simp] theorem Orderly.custodyOpened (h : Orderly t) (c : Comp) (k : ReleaseClass) :
    Orderly (t.custodyOpened c k) := by
  unfold State.custodyOpened
  split
  · rename_i st _
    obtain ⟨x, hx⟩ := h.has_holding (c := c) (by simp [st]) (by simp [st]) (by simp [st])
    have entry := h.entries c
    have state : (t.entry c).state = .reserved := st
    obtain ⟨fitted, -, -, hold⟩ := entry.of_holding hx
    refine h.of_entry c (by simp) (fun d hd => setCustody_entry_other _ _ _ _ hd) ?_
    rw [setCustody_entry_same]
    have loading : x.InOrder .loading := by simpa [state, Holding.InOrder, CustodyState.isRest] using hold
    have own := CompartmentEntry.inOrder_held (e := t.entry c) (st := .loading) (cause := (t.entry c).cause)
      fitted (by simp) (by simp) (by simp [entry.cause_none (by simp [state])]) loading
    rwa [← hx] at own
  · rename_i st _
    obtain ⟨x, hx⟩ := h.has_holding (c := c) (by simp [st]) (by simp [st]) (by simp [st])
    have entry := h.entries c
    have state : (t.entry c).state = .releasing := st
    obtain ⟨fitted, -, -, hold⟩ := entry.of_holding hx
    refine h.updHolding_setCustody _ ?_ _ ?_
    · exact fun _ => rfl
    rw [hx, Option.map_some]
    have emptying : Holding.InOrder .emptying { x with releaseInterrupted := false } := by
      simpa [state, Holding.InOrder, CustodyState.isRest] using hold
    exact CompartmentEntry.inOrder_held fitted (by simp) (by simp)
      (by simp [entry.cause_none (by simp [state])]) emptying
  · exact h

/-! ### Releases that end shut -/

/-- A claim lapses, or sends its holding to REVIEW (R20, R24). -/
theorem Orderly.shutReleasing (h : Orderly t) (b : Bool) (hs : t.custodyState c = .releasing) :
    Orderly (t.shutReleasing c b) := by
  have lapsed : Orderly (t.lapse c) := h.lapse (by simp [hs]) (by simp [hs])
  unfold State.shutReleasing
  split
  · split
    · exact h.enterReview _ (.inr hs)
    · exact lapsed.markInterrupted true
  · exact lapsed

@[simp] theorem Orderly.shutReserved (h : Orderly t) (c : Comp) (b : Bool) : Orderly (t.shutReserved c b) := by
  unfold State.shutReserved
  split
  · exact h
  · exact ((h.removeHolding c .free none (.inl ⟨rfl, rfl⟩)).post ..).reportOrigin ..

@[simp] theorem Orderly.custodyWindowShut (h : Orderly t) (c : Comp) (k : ReleaseClass) (b : Bool) :
    Orderly (t.custodyWindowShut c k b) := by
  unfold State.custodyWindowShut
  split
  · exact h
  · exact h.shutReserved ..
  · rename_i st _
    exact h.shutReleasing b st
  · split
    · exact h.serviceDone ..
    · exact h

/-! ### Inspections -/

/-- An object found where there is no holding (R16). -/
theorem Orderly.foreignObject (h : Orderly t) (hs : t.custodyState c = .free ∨ t.custodyState c = .outOfService) :
    Orderly (t.foreignObject c) :=
  (h.outOfService _ (.inr (hs.imp_right .inr))).post ..

/-- A parcel not found where there is a holding (R16). -/
theorem Orderly.missing (h : Orderly t) (hs : (t.custodyState c).isRest = true ∨ t.custodyState c = .review ∨
    t.custodyState c = .outOfService) : Orderly (t.missing c) := by
  unfold State.missing
  split
  · rename_i rest
    exact (h.post ..).enterReview _ (.inl rest)
  · rename_i rest
    exact (h.post ..).addCause _ (hs.resolve_left rest)

@[simp] theorem Orderly.inspect (h : Orderly t) (c : Comp) (p : Presence) : Orderly (t.inspect c p).1 := by
  unfold State.inspect
  split
  · rename_i st
    exact h.foreignObject (.inl st)
  · rename_i st
    split
    · exact h.foreignObject (.inr st)
    · exact h
  · rename_i st
    split
    · exact h
    · exact h.missing (.inr (.inr st))
  · rename_i st
    exact h.missing (.inl (by rw [st]; rfl))
  · rename_i st
    exact h.missing (.inl (by rw [st]; rfl))
  · rename_i st
    exact h.missing (.inl (by rw [st]; rfl))
  · rename_i st
    exact h.missing (.inr (.inl st))
  · exact h
  · exact h

@[simp] theorem Orderly.custodyInspection (h : Orderly t) (c : Comp) (p : Presence) (b : Bool) :
    Orderly (t.custodyInspection c p b) := by
  unfold State.custodyInspection
  dsimp only
  split
  · exact (h.inspect c p).serviceDone ..
  · exact h.inspect c p

/-! ### Closures -/

/-- A deposit that is complete is at rest (R15). -/
theorem Orderly.depositDone (h : Orderly t) (x : Holding) (hs : t.custodyState c = .loading)
    (hx : t.holding c = some x) : Orderly (t.depositDone c x) := by
  have entry := h.entries c
  have state : (t.entry c).state = .loading := hs
  obtain ⟨fitted, -, -, -, -, -, claimant, -, -, -, causes⟩ := entry.of_holding hx
  have unclaimed : x.claimant = none := by simpa [state] using claimant
  have clear : x.causes = [] := by simpa [state] using causes
  have stored : ∀ r : RestState, Orderly ((t.updHolding c fun y =>
      { y with depositMinute := some t.clock.minute, rest := some r }).setCustody c (RestState.custody r)) := by
    intro r
    refine h.updHolding_setCustody _ ?_ _ ?_
    · exact fun _ => rfl
    rw [hx, Option.map_some]
    exact CompartmentEntry.inOrder_held fitted (by cases r <;> simp [RestState.custody])
      (by cases r <;> simp [RestState.custody])
      (by rw [entry.cause_none (by simp [state])]; cases r <;> simp [RestState.custody])
      (Holding.inOrder_atRest rfl rfl unclaimed clear)
  unfold State.depositDone
  dsimp only
  split
  · exact (stored _).reportDrop ..
  · exact (stored _).post ..

@[simp] theorem Orderly.depositEmpty (h : Orderly t) (c : Comp) (x : Holding) : Orderly (t.depositEmpty c x) := by
  have removed := h.removeHolding c .free none (.inl ⟨rfl, rfl⟩)
  unfold State.depositEmpty
  split
  · exact removed.reportDrop ..
  · exact removed.post ..

@[simp] theorem Orderly.removalDone (h : Orderly t) (c : Comp) (x : Holding) : Orderly (t.removalDone c x) := by
  have removed := h.removeHolding c .free none (.inl ⟨rfl, rfl⟩)
  unfold State.removalDone
  dsimp only
  split
  · exact removed.postBoth ..
  · exact removed.reportClaim ..
  · exact removed.serviceDone ..
  · exact removed

/-- A removal that is not complete returns to rest (R7, R15). -/
theorem Orderly.removalIncomplete (h : Orderly t) (x : Holding) (hs : t.custodyState c = .emptying) :
    Orderly (t.removalIncomplete c x) := by
  have rested := (h.toRest (c := c) (by simp [hs]) (by simp [hs])).markIncomplete (c := c) true
  unfold State.removalIncomplete
  dsimp only
  split
  · exact rested.postBoth ..
  · exact rested.reportClaim ..
  · exact rested.serviceDone ..
  · exact rested

@[simp] theorem Orderly.custodyClosure (h : Orderly t) (c : Comp) (p : Presence) (k : OpeningKind) :
    Orderly (t.custodyClosure c p k) := by
  unfold State.custodyClosure
  split
  · exact h
  · rename_i st hx
    split
    · exact h.depositDone _ st hx
    · exact h.depositEmpty ..
    · exact h.custodyInspection ..
    · exact h.custodyInspection ..
  · rename_i st _
    split
    · split
      · exact h.removalDone ..
      · exact h.removalIncomplete _ st
    · exact h.custodyInspection ..
  · exact h.custodyInspection ..

/-! ### Forced openings -/

@[simp] theorem withdraw_custodyState (s : State) (c d : Comp) : (s.withdraw c).custodyState d = s.custodyState d := by
  unfold State.custodyState State.entry
  rw [show (s.withdraw c).custody = s.custody by simp]

@[simp] theorem Orderly.forcedReserved (h : Orderly t) (c : Comp) (x : Holding) : Orderly (t.forcedReserved c x) := by
  have removed := ((h.noteForced c true).withdraw c).removeHolding c .outOfService (some .forced)
    (.inr ⟨rfl, by simp⟩)
  unfold State.forcedReserved
  dsimp only
  split
  · exact removed.reportDrop ..
  · exact removed.post ..

theorem Orderly.forcedReleasing (h : Orderly t) (x : Holding) (hs : t.custodyState c = .releasing) :
    Orderly (t.forcedReleasing c x) := by
  have reviewed : ∀ l, Orderly ((((t.noteForced c false).withdraw c).setPending l).enterReview c .forced) := by
    intro l
    refine (((h.noteForced c false).withdraw c).setPending l).enterReview _ (.inr ?_)
    exact (withdraw_custodyState (t.noteForced c false) c c).trans hs
  unfold State.forcedReleasing
  dsimp only
  split
  · exact (reviewed _).post ..
  · exact (reviewed _).reportClaim ..
  · exact (reviewed _).post ..
  · exact reviewed _

@[simp] theorem Orderly.custodyForced (h : Orderly t) (c : Comp) : Orderly (t.custodyForced c) := by
  have rests : (t.custodyState c).isRest = true → Orderly ((t.noteForced c false).enterReview c .forced) :=
    fun rest => (h.noteForced c false).enterReview _ (.inl rest)
  unfold State.custodyForced
  split
  · exact h
  · rename_i st
    exact (h.noteForced c true).outOfService _ (.inr (.inl st))
  · rename_i st
    exact rests (by rw [st]; rfl)
  · rename_i st
    exact rests (by rw [st]; rfl)
  · rename_i st
    exact rests (by rw [st]; rfl)
  · rename_i st
    exact (h.noteForced c false).addCause _ (.inl st)
  · rename_i st
    exact (h.noteForced c false).addCause _ (.inr st)
  · exact h.forcedReserved ..
  · rename_i st _
    exact h.forcedReleasing _ st
  all_goals exact h.noteForced ..

/-! ### Failed releases and dropped reservations -/

@[simp] theorem Orderly.failReserved (h : Orderly t) (c : Comp) (f : Failure) (x : Holding) :
    Orderly (t.failReserved c f x) := by
  unfold State.failReserved
  cases f with
  | lockFault => exact (h.removeHolding c .outOfService (some .lockFault) (.inr ⟨rfl, by simp⟩)).reportOrigin ..
  | columnDown => exact (h.removeHolding c .free none (.inl ⟨rfl, rfl⟩)).reportOrigin ..

/-- A claimed holding goes OUT_OF_SERVICE, its claim ended (R18). -/
theorem Orderly.claimFaulted (h : Orderly t) (k : OosCause) (hs : t.custodyState c = .releasing) :
    Orderly ((t.updHolding c fun x => { x with claimant := none }).outOfService c k) := by
  have entry := h.entries c
  have state : (t.entry c).state = .releasing := hs
  obtain ⟨x, hx⟩ := h.has_holding (c := c) (by simp [hs]) (by simp [hs]) (by simp [hs])
  obtain ⟨fitted, -, -, hold⟩ := entry.of_holding hx
  obtain ⟨rest, minute, causes⟩ := hold.settled (.inr (.inl state))
  refine h.of_entry c ?_ (fun d hd => ?_) ?_
  · refine (ledger_setEntry_same _ c _ ?_).trans
      (ledger_updHolding t c (fun x => { x with claimant := none }) fun _ => rfl)
    rfl
  · rw [outOfService_entry_other _ _ _ _ hd, updHolding_entry_other _ _ _ _ hd]
  · rw [outOfService_entry_same, updHolding_entry_same, hx, Option.map_some]
    exact CompartmentEntry.inOrder_held fitted (by simp) (by simp) (by simp)
      (Holding.inOrder_withheld (.inr rfl) rest minute rfl (by simp [causes]) (by simp [causes]))

theorem Orderly.failReleasing (h : Orderly t) (f : Failure) (x : Holding) (hs : t.custodyState c = .releasing) :
    Orderly (t.failReleasing c f x) := by
  have rested : Orderly (t.toRest c) := h.toRest (by simp [hs]) (by simp [hs])
  unfold State.failReleasing
  cases f with
  | lockFault =>
    dsimp only
    split
    · exact (h.claimFaulted .lockFault hs).reportClaim ..
    all_goals exact h.claimFaulted .lockFault hs
  | columnDown =>
    dsimp only
    split
    · exact rested.reportClaim ..
    all_goals exact rested

@[simp] theorem Orderly.custodyFailed (h : Orderly t) (c : Comp) (f : Failure) : Orderly (t.custodyFailed c f) := by
  have faulted : (t.custodyState c).isRest = true ∨ t.custodyState c = .free ∨ t.custodyState c = .review →
      Orderly (match f with
        | .lockFault => t.outOfService c .lockFault
        | .columnDown => t) := by
    intro hs
    cases f with
    | lockFault => exact h.outOfService _ (hs.imp_right fun e => e.imp_right .inl)
    | columnDown => exact h
  unfold State.custodyFailed
  split
  · exact h.failReserved ..
  · rename_i st _
    exact h.failReleasing f _ st
  · rename_i st
    exact faulted (.inr (.inl st))
  · rename_i st
    exact faulted (.inl (by rw [st]; rfl))
  · rename_i st
    exact faulted (.inl (by rw [st]; rfl))
  · rename_i st
    exact faulted (.inl (by rw [st]; rfl))
  · rename_i st
    exact faulted (.inr (.inr st))
  all_goals exact h

@[simp] theorem Orderly.dropReserved (h : Orderly t) (c : Comp) : Orderly (t.dropReserved c) := by
  unfold State.dropReserved
  split
  · exact (h.removeHolding c .free none (.inl ⟨rfl, rfl⟩)).reportOrigin ..
  · exact h

/-! ### Conditions and the overstay scan -/

@[simp] theorem Orderly.feeConditionPiece (h : Orderly t) (c : Comp) : Orderly (t.feeConditionPiece c) := by
  unfold State.feeConditionPiece
  split
  · rename_i st
    exact h.enterReview _ (.inl (by rw [st]; rfl))
  · rename_i st
    exact h.enterReview _ (.inl (by rw [st]; rfl))
  · rename_i st
    exact h.enterReview _ (.inl (by rw [st]; rfl))
  · rename_i st
    exact h.addCause _ (.inl st)
  all_goals exact h

@[simp] theorem Orderly.feeCondition (h : Orderly t) (k : Consignment) (c : Option Comp) (x : CondSet) (d : Detail) :
    Orderly (t.feeCondition k c x d) :=
  (Orderly.foldl _ (fun _ _ hu => hu.feeConditionPiece _) _ _ h).post ..

@[simp] theorem Orderly.scanOne (h : Orderly t) (c : Comp) : Orderly (t.scanOne c) := by
  unfold State.scanOne
  split
  · exact h
  · rename_i x hx
    split
    · rename_i rest minute
      have entry := h.entries c
      obtain ⟨fitted, -, -, hold⟩ := entry.of_holding hx
      dsimp only
      split
      · split
        · rename_i st
          have state : (t.entry c).state = .held := st
          obtain ⟨-, -, -, claimant, -, -, -, causes⟩ := hold
          have unclaimed : x.claimant = none := by simpa [state] using claimant
          have clear : x.causes = [] := by simpa [state] using causes
          refine (h.updHolding_setCustody _ ?_ _ ?_).postBoth ..
          · exact fun _ => rfl
          rw [hx, Option.map_some]
          exact CompartmentEntry.inOrder_held fitted (by simp) (by simp)
            (by simp [entry.cause_none (by simp [state])])
            (Holding.inOrder_atRest (r := .overstayed) rfl (by simp [minute]) unclaimed clear)
        · rename_i other
          refine h.updHolding _ (fun _ => rfl) fun y hy hold => ?_
          cases hx.symm.trans hy
          obtain ⟨hr, hm, shown, others⟩ := hold
          refine ⟨by simpa [rest] using hr, by simpa [rest] using hm, fun atRest => ?_, others⟩
          have held := shown atRest
          simp only [rest, Option.map_some, Option.some.injEq, RestState.custody] at held
          exact absurd held.symm other
      · exact h
    · exact h

@[simp] theorem Orderly.overstayScan (h : Orderly t) : Orderly t.overstayScan :=
  Orderly.foldl _ (fun _ _ hu => hu.scanOne _) _ _ h

end Sys2Proof.Machine
end

section
/-! SUPPORT. What the allocator finds: free compartments, each once, and a code that no record has (R57 to R60, R63,
R64); and the order of the custody table through its two commitments (R44, R61). -/

namespace Sys2Proof.Machine

variable {s t : State} {c : Comp}

/-! ### Placement -/

/-- The compartment that is found for a piece is FREE, and none that is taken already (R57, R58). -/
theorem placeOne_free {k : ConsKind} {z : SizeClass} {taken : List Comp} (h : s.placeOne k z taken = some c) :
    s.custodyState c = .free ∧ c ∉ taken := by
  unfold State.placeOne at h
  obtain ⟨cl, -, hc⟩ := List.exists_of_findSome?_eq_some h
  have found := List.find?_some hc
  simp only [Bool.and_eq_true, State.eligibleFor, beq_iff_eq, Bool.not_eq_true', ← Bool.not_eq_true] at found
  obtain ⟨⟨-, ⟨⟨⟨⟨⟨free, -⟩, -⟩, -⟩, -⟩, -⟩⟩, new⟩ := found
  exact ⟨free, fun hm => new (List.contains_iff_mem.mpr hm)⟩

/-- The compartments that are found for a group are FREE, one for each piece, and each once (R60). -/
theorem placeAll_free : ∀ (zs : List SizeClass) (taken cs : List Comp), s.placeAll zs taken = some cs →
    taken.Nodup → (∀ d ∈ taken, s.custodyState d = .free) →
    cs.length = taken.length + zs.length ∧ cs.Nodup ∧ ∀ d ∈ cs, s.custodyState d = .free
  | [], taken, cs, h, nodup, free => by
    cases h
    exact ⟨by simp, nodup, free⟩
  | z :: zs, taken, cs, h, nodup, free => by
    unfold State.placeAll at h
    split at h
    · rename_i d hd
      obtain ⟨fr, new⟩ := placeOne_free hd
      have nodup' : (taken ++ [d]).Nodup := by
        refine List.nodup_append.mpr ⟨nodup, List.nodup_singleton _, fun a ha b hb hab => new ?_⟩
        rw [← List.mem_singleton.mp hb, ← hab]
        exact ha
      obtain ⟨len, nd, all⟩ := placeAll_free zs _ cs h nodup' fun a ha => by
        rcases List.mem_append.mp ha with ha | ha
        · exact free a ha
        · rw [List.mem_singleton.mp ha]
          exact fr
      refine ⟨?_, nd, all⟩
      simp only [List.length_append, List.length_cons, List.length_nil] at len ⊢
      omega
    · cases h

/-! ### The code that is drawn -/

/-- Two positions of one period hold different candidates (R63). -/
theorem candidateAt_injective (seed i j : Nat) (h : candidateAt seed i = candidateAt seed j) :
    i % 100000000 = j % 100000000 := by
  unfold candidateAt at h
  exact Fin.ext_iff.mp ((Config.codeSequence seed).injective (Fin.ext h))

/-- A candidate depends on its place in the period alone. -/
theorem candidateAt_mod (seed i : Nat) : candidateAt seed (i % Config.codePeriod) = candidateAt seed i := by
  unfold candidateAt Config.codePeriod
  simp

/-- A draw takes a candidate that is not 00000000 and not in use, or has skipped as many candidates as it has fuel
(R64). -/
theorem drawCode_fresh (seed : Nat) (used : List Nat) : ∀ fuel position : Nat,
    ((drawCode seed used fuel position).1 ≠ 0 ∧ (drawCode seed used fuel position).1 ∉ used) ∨
    ∀ i < fuel, candidateAt seed (position + 1 + i) = 0 ∨ candidateAt seed (position + 1 + i) ∈ used
  | 0, _ => .inr fun i hi => absurd hi (Nat.not_lt_zero i)
  | fuel + 1, position => by
    unfold drawCode
    dsimp only
    rw [candidateAt_mod]
    split
    · rename_i bad
      rcases drawCode_fresh seed used fuel ((position + 1) % Config.codePeriod) with good | all
      · exact .inl good
      · refine .inr fun i hi => ?_
        cases i with
        | zero => simpa [List.contains_iff_mem] using bad
        | succ i =>
          have later := all i (by omega)
          have same : candidateAt seed ((position + 1) % Config.codePeriod + 1 + i) =
              candidateAt seed (position + 1 + (i + 1)) := by
            rw [← candidateAt_mod, ← candidateAt_mod seed (position + 1 + (i + 1))]
            congr 1
            unfold Config.codePeriod
            omega
          rwa [same] at later
    · rename_i good
      simp only [not_or, List.contains_iff_mem] at good
      exact .inl good

/-- A draw against fewer codes than a period holds takes one that is not in use (R63, R64). -/
theorem drawCode_new (seed : Nat) (used : List Nat) (position : Nat) (few : used.length + 2 ≤ 100000000) :
    (drawCode seed used (used.length + 2) position).1 ∉ used := by
  rcases drawCode_fresh seed used (used.length + 2) position with good | all
  · exact good.2
  · exfalso
    have fits : ∀ i ∈ Finset.range (used.length + 2), candidateAt seed (position + 1 + i) ∈ insert 0 used.toFinset := by
      intro i hi
      simpa using all i (Finset.mem_range.mp hi)
    have card : (insert 0 used.toFinset).card < (Finset.range (used.length + 2)).card := by
      have := Finset.card_insert_le 0 used.toFinset
      have := List.toFinset_card_le used
      simp only [Finset.card_range]
      omega
    obtain ⟨i, hi, j, hj, ne, same⟩ := Finset.exists_ne_map_eq_of_card_lt_of_maps_to card fits
    have := candidateAt_injective seed _ _ same
    simp only [Finset.mem_range] at hi hj
    omega

/-- The code map lists each record once, so it holds no more codes than there are records (R9, R10). -/
theorem Ledger.InOrder.codeMap_length {l : Ledger} (h : l.InOrder) : l.codeMap.length ≤ 144 := by
  have nodup : (l.codeMap.map Prod.snd).Nodup := by
    refine List.Nodup.map_on (fun p hp q hq same => ?_) (h.sorted.imp fun {p q} lt same => ?_)
    · obtain ⟨k, hk, hc⟩ := h.mapped p hp
      obtain ⟨j, hj, hd⟩ := h.mapped q hq
      rw [same, hj] at hk
      cases hk
      exact Prod.ext (Option.some.inj (hc.symm.trans hd)) same
    · rw [same] at lt
      exact lt_irrefl _ lt
  simpa using nodup.length_le_card

/-- The code that a draw takes is in no pair of the code map (R64). -/
theorem Orderly.draw_new (h : Orderly s) : ∀ p ∈ s.custody.codeMap, p.1 ≠ s.draw.1 := by
  intro p hp same
  have len : s.custody.codeMap.length ≤ 144 := h.ledger.codeMap_length
  have new := drawCode_new s.codeGen.seed (s.custody.codeMap.map fun p => p.1) s.codeGen.position (by simp; omega)
  rw [List.length_map] at new
  exact new (List.mem_map.mpr ⟨p, hp, same⟩)

/-! ### Commitments -/

/-- A fresh holding is in order in RESERVED (R5). -/
theorem Holding.inOrder_fresh (n : RecordNo) (ref : Option Text) (z : SizeClass) (cls : Fin 4) (o : Origin) :
    (Holding.fresh n ref z cls o).InOrder .reserved := by
  simp [Holding.InOrder, Holding.fresh, CustodyState.isRest]

/-- A FREE entry takes a fresh holding (R5). -/
theorem CompartmentEntry.InOrder.reserved {e : CompartmentEntry} (h : e.InOrder) (fr : e.state = .free) {x : Holding}
    (hx : x.InOrder .reserved) :
    CompartmentEntry.InOrder { e with state := .reserved, cause := none, holding := some x } :=
  CompartmentEntry.inOrder_held (h.1.mpr (by simp [fr])) (by simp) (by simp) (by simp) hx

/-- The reservation of the pieces of a group (R61): their entries are in order and name the record, every other entry
stays, and so do the records, the code map and the carriers. -/
theorem reserveAll_spec (n : RecordNo) (f : Placed → Holding) (fresh : ∀ p, (f p).InOrder .reserved)
    (names : ∀ p, (f p).record = n) : ∀ (ps : List Placed) (u : State), (∀ c, (u.entry c).InOrder) →
    (ps.map fun p => p.comp).Nodup → (∀ c ∈ ps.map fun p => p.comp, u.custodyState c = .free) →
    let t := ps.foldl (fun t p => t.reserve p.comp (f p)) u
    (∀ c, (t.entry c).InOrder) ∧
    t.ledger = { u.ledger with
      names := fun c => if c ∈ ps.map fun p => p.comp then some n else u.ledger.names c }
  | [], u, order, _, _ => ⟨order, by simp⟩
  | p :: ps, u, order, nodup, free => by
    rw [List.map_cons, List.nodup_cons] at nodup
    obtain ⟨new, nodup⟩ := nodup
    have first : u.custodyState p.comp = .free := free p.comp (by simp)
    have order' : ∀ c, ((u.reserve p.comp (f p)).entry c).InOrder := by
      intro c
      by_cases hc : c = p.comp
      · subst hc
        unfold State.reserve
        rw [setEntry_entry_same]
        exact (order p.comp).reserved first (fresh p)
      · unfold State.reserve
        rw [setEntry_entry_other _ _ _ _ hc]
        exact order c
    have free' : ∀ c ∈ ps.map fun p => p.comp, (u.reserve p.comp (f p)).custodyState c = .free := by
      intro c hc
      have ne : c ≠ p.comp := fun e => new (e ▸ hc)
      unfold State.custodyState State.reserve
      rw [setEntry_entry_other _ _ _ _ ne]
      exact free c (by simp only [List.map_cons]; exact List.mem_cons_of_mem _ hc)
    obtain ⟨entries, ledger⟩ := reserveAll_spec n f fresh names ps (u.reserve p.comp (f p)) order' nodup free'
    refine ⟨entries, ledger.trans ?_⟩
    unfold State.reserve
    rw [ledger_setEntry]
    simp only [Ledger.mk.injEq, and_self, and_true]
    funext c
    by_cases hc : c = p.comp
    · simp [hc, names]
    · simp [hc]

/-- A record that is not in use has no lot. -/
theorem lots_of_freeRecord {n : RecordNo} (h : s.freeRecord = some n) : s.ledger.lots n = none := by
  have found := List.find?_some h
  simp only [Option.isNone_iff_eq_none] at found
  show (s.custody.records.get n).map Consignment.lot = none
  rw [found]
  rfl

/-- A commitment enters a record in the ledger (R10, R44, R61). -/
theorem Orderly.committed (h : Orderly s) {n : RecordNo} {k : Lot} (entries : ∀ c, (t.entry c).InOrder)
    (ledger : t.ledger = s.ledger.add n k) (free : s.freeRecord = some n) (some_piece : k.pieces ≠ [])
    (few : k.pieces.length ≤ 4) (nodup : k.pieces.Nodup) (unused : ∀ d ∈ k.pieces, s.custodyState d = .free)
    (kind : k.kind = .delivery ↔ k.code ≠ none)
    (new : ∀ x, k.code = some x → ∀ p ∈ s.custody.codeMap, p.1 ≠ x) : Orderly t := by
  refine ⟨entries, ledger ▸ h.ledger.add (lots_of_freeRecord free) some_piece few nodup (fun d hd => ?_) kind new⟩
  simp [State.ledger, h.free_bare (unused d hd)]

/-- The commitment of a DROP group (R61). -/
theorem Orderly.commitGroup (h : Orderly s) (n : RecordNo) (i : Fin 8) (code cod : Nat) (ps : List Placed)
    (free : s.freeRecord = some n) (some_piece : ps ≠ []) (few : ps.length ≤ 4)
    (nodup : (ps.map fun p => p.comp).Nodup) (unused : ∀ d ∈ ps.map fun p => p.comp, s.custodyState d = .free)
    (new : ∀ p ∈ s.custody.codeMap, p.1 ≠ code) : Orderly (s.commitGroup n i code cod ps) := by
  unfold State.commitGroup
  dsimp only
  generalize hk : (Consignment.mk _ _ _ _ _ _ _ _ _ _ _ _) = k
  obtain ⟨entries, ledger⟩ := reserveAll_spec n
    (fun p => Holding.fresh n p.desc.parcelRef p.desc.size (s.carriers.get i).tariffClass (.slot p.slot))
    (fun _ => Holding.inOrder_fresh ..) (fun _ => rfl) ps
    { s.putRecord n (some k) with
      custody := { (s.putRecord n (some k)).custody with
        codeMap := mapInsert code n (s.putRecord n (some k)).custody.codeMap } } h.entries nodup unused
  refine h.committed (k := k.lot) (n := n) entries ?_ free ?_ ?_ ?_ ?_ ?_ ?_
  · rw [ledger_raiseLive, ledger]
    have mapped : ∀ (u : State) (m : List (Nat × RecordNo)),
        ({ u with custody := { u.custody with codeMap := m } } : State).ledger = { u.ledger with codeMap := m } :=
      fun _ _ => rfl
    rw [mapped, ledger_putRecord, ← hk]
    simp only [Ledger.add, Consignment.lot, Option.map_some, Option.elim_some, List.length_map]
    rfl
  all_goals rw [← hk]; simp only [Consignment.lot]
  · simpa using some_piece
  · simpa using few
  · exact nodup
  · exact unused
  · simp
  · rintro x hx p hp
    cases hx
    exact new p hp

/-- The commitment of a return drop (R44). -/
theorem Orderly.commitReturn (h : Orderly s) (n : RecordNo) (i : Fin 8) (c : Comp) (z : SizeClass) (ref : Option Text)
    (free : s.freeRecord = some n) (unused : s.custodyState c = .free) : Orderly (s.commitReturn n i c z ref) := by
  unfold State.commitReturn
  dsimp only
  generalize hk : (Consignment.mk _ _ _ _ _ _ _ _ _ _ _ _) = k
  refine h.committed (k := k.lot) (n := n) (fun d => ?_) ?_ free ?_ ?_ ?_ ?_ ?_ ?_
  · show (((s.putRecord n (some k)).reserve c _).entry d).InOrder
    unfold State.reserve
    by_cases hd : d = c
    · subst hd
      rw [setEntry_entry_same]
      exact (h.entries d).reserved unused (Holding.inOrder_fresh ..)
    · rw [setEntry_entry_other _ _ _ _ hd]
      exact h.entries d
  · rw [ledger_raiseLive, State.reserve, ledger_setEntry, ledger_putRecord, ← hk]
    simp only [Ledger.add, Consignment.lot, Option.map_some, List.mem_singleton, List.length_singleton,
      Holding.fresh, Option.elim_none]
    congr 1
    funext d
    by_cases hd : d = c
    · simp [hd]
    · simp [hd]
  all_goals rw [← hk]; simp only [Consignment.lot]
  · simp
  · simp
  · simp
  · simpa using unused
  · simp
  · simp

end Sys2Proof.Machine
end

section
/-! SUPPORT. The order of the custody table through the sequencer, the manifest engine, the scanner and the end of a
step. -/

namespace Sys2Proof.Machine

variable {s t : State} {c : Comp}

/-! ### The sequencer -/

@[simp] theorem Orderly.failEntry (h : Orderly t) (e : Entry) (f : Failure) : Orderly (t.failEntry e f) :=
  ((h.custodyFailed ..).postBoth ..).departed

@[simp] theorem Orderly.request (h : Orderly t) (e : Entry) : Orderly (t.request e) := by
  unfold State.request
  split
  · exact h
  · exact h
  · split
    · exact h.failEntry ..
    · exact h.join e

@[simp] theorem Orderly.take (h : Orderly t) (e : Entry) : Orderly (t.take e) := by
  unfold State.take
  dsimp only
  have taken : ∀ q : Sequencer, Orderly { t with seq := q } := fun _ => h.of_eq rfl rfl
  split
  · exact (taken _).setColumn ..
  all_goals exact (taken _).setColumn ..

@[simp] theorem Orderly.arbitrate : ∀ (n : Nat) (t : State), Orderly t → Orderly (State.arbitrate n t)
  | 0, _, h => h
  | n + 1, t, h => by
    unfold State.arbitrate
    split
    · exact h
    · exact Orderly.arbitrate n _ (h.take _)

@[simp] theorem Orderly.doorReleased (h : Orderly t) (c : Comp) (k : ReleaseClass) : Orderly (t.doorReleased c k) := by
  unfold State.doorReleased
  split
  · exact h.setDoor ..
  all_goals exact h

@[simp] theorem Orderly.pulseGoodEnd (h : Orderly t) (e : Entry) : Orderly (t.pulseGoodEnd e) :=
  (((h.leavesQueue _).doorReleased ..).departed).emit _

@[simp] theorem Orderly.pulseOpenEnd (h : Orderly t) (e : Entry) : Orderly (t.pulseOpenEnd e) := by
  unfold State.pulseOpenEnd
  dsimp only
  split
  · exact ((h.leavesQueue _).setQueue _).emit _
  · exact ((h.leavesQueue _).failEntry ..).emit _

@[simp] theorem Orderly.failColumn (h : Orderly t) (c : Column) : Orderly (t.failColumn c) :=
  Orderly.foldl _ (fun _ _ hu => (hu.dropEntry _).failEntry ..) _ _ h

@[simp] theorem Orderly.pulseShortEnd (h : Orderly t) (e : Entry) : Orderly (t.pulseShortEnd e) :=
  ((((h.putColumn ..).leavesQueue _).failEntry ..).failColumn _).tellScanner _

@[simp] theorem Orderly.testPulseEnd (h : Orderly t) (e : Entry) (o : PulseOutcome) : Orderly (t.testPulseEnd e o) := by
  have told := ((h.leavesQueue e.comp).testResult e.comp (PulseOutcome.detail o)
    (if e.restore then some (restoreDetail o) else none)).departed
  unfold State.testPulseEnd
  dsimp only
  split
  · exact ((told.putColumn ..).failColumn _).tellScanner _
  · exact ((told.putColumn ..).failColumn _).tellScanner _
  · exact told.disarm _
  · exact told.emit _
  · exact told.emit _

@[simp] theorem Orderly.releasePaidReturn (h : Orderly t) (n : RecordNo) (c : Comp) :
    Orderly (t.releasePaidReturn n c) := by
  unfold State.releasePaidReturn
  split
  · exact h.request _
  all_goals exact h.of_eq rfl rfl

/-! ### Starts of the manifest engine -/

@[simp] theorem Orderly.feedOne (h : Orderly t) : Orderly t.feedOne := by
  unfold State.feedOne
  split
  · exact h
  · exact ((h.setWindow _).request _).emit _

@[simp] theorem Orderly.started (h : Orderly t) (rs : List WindowRecord) : Orderly (t.started rs) :=
  (h.setWindow _).setPointer _

@[simp] theorem Orderly.afterStart (h : Orderly t) : Orderly t.afterStart := ((h.emit _).emit _).emit _

@[simp] theorem Orderly.startFails (h : Orderly t) (k : DescKind) (st : Status) : Orderly (t.startFails k st) :=
  h.started _

/-- A group that is read forward has one to four descriptors (R76). -/
theorem scanGroup_good (s : State) : ∀ (left : Nat) (i : RingSlot) (n m : Nat), s.scanGroup left i n = .good m →
    n < m ∧ m ≤ n + left
  | 0, _, _, _, h => by cases h
  | left + 1, i, n, m, h => by
    unfold State.scanGroup at h
    dsimp only at h
    split at h
    · cases h
    · split at h
      · cases h
      · split at h
        · cases h
          omega
        · have := scanGroup_good s left (slotAfter i 1) (n + 1) m h
          omega

/-- What the checks of a DROP group find when it passes (R59): free compartments, one for each piece, and a supplied
code that is in no pair of the code map. -/
theorem checkGroup_passes {d : Descriptor} {group : List Descriptor} {i : Fin 8} {cs : List Comp}
    (h : s.checkGroup d group = .passes i cs) :
    cs.length = group.length ∧ cs.Nodup ∧ (∀ c ∈ cs, s.custodyState c = .free) ∧
    ∀ x, d.code = some x → ∀ p ∈ s.custody.codeMap, p.1 ≠ x := by
  unfold State.checkGroup at h
  split at h
  · cases h
  · cases h
  · dsimp only at h
    split at h
    · cases h
    · split at h
      · cases h
      · split at h
        · cases h
        · rename_i code
          split at h
          · cases h
          · split at h
            · cases h
            · rename_i placed
              cases h
              obtain ⟨len, nodup, free⟩ := placeAll_free _ _ _ placed List.nodup_nil (by simp)
              refine ⟨by simpa using len, nodup, free, fun x hx p hp same => ?_⟩
              unfold State.codeFails at code
              rw [hx] at code
              cases x with
              | zero => simp at code
              | succ y =>
                simp only [State.findCode, Option.isSome_map, ite_eq_right_iff, reduceCtorEq, imp_false,
                  Bool.not_eq_true, Option.isSome_eq_false_iff, Option.isNone_iff_eq_none,
                  List.find?_eq_none] at code
                simpa [same] using code p hp

/-- The pieces of a placed group, with their compartments. -/
theorem placedOf_comps (s : State) (slots : List RingSlot) (cs : List Comp) (len : cs.length = slots.length) :
    ((placedOf s slots cs).map fun p => p.comp) = cs ∧ (placedOf s slots cs).length = slots.length := by
  unfold placedOf
  constructor
  · rw [List.map_map, show ((fun p : Placed => p.comp) ∘ fun p : RingSlot × Comp =>
      Placed.mk p.1 (s.slot p.1).desc p.2) = Prod.snd from rfl, List.map_snd_zip (by omega)]
  · simp [len]

/-- A group that has passed its checks is committed with its code (R61, R79). -/
theorem Orderly.startPlaced (h : Orderly t) (d : Descriptor) (i : Fin 8) (ps : List Placed) (n : RecordNo)
    (free : t.freeRecord = some n) (some_piece : ps ≠ []) (few : ps.length ≤ 4)
    (nodup : (ps.map fun p => p.comp).Nodup) (unused : ∀ d ∈ ps.map fun p => p.comp, t.custodyState d = .free)
    (new : ∀ x, d.code = some x → ∀ p ∈ t.custody.codeMap, p.1 ≠ x) : Orderly (t.startPlaced d i ps n) := by
  unfold State.startPlaced
  dsimp only
  refine Orderly.foldl _ (fun _ _ hu => hu.request _) _ _ ?_
  cases hd : d.code with
  | some x => exact (h.commitGroup n i x (codTaken d) ps free some_piece few nodup unused (new x hd)).started _
  | none =>
    have drawn : Orderly { t with codeGen := { t.codeGen with position := t.draw.2 } } := h.of_eq rfl rfl
    exact (drawn.commitGroup n i t.draw.1 (codTaken d) ps free some_piece few nodup unused h.draw_new).started _

/-- A DROP group that was read forward starts (R76, R79). -/
theorem Orderly.startGroup (h : Orderly t) (n : Nat) (hn : 0 < n ∧ n ≤ 4) : Orderly (t.startGroup n) := by
  have slots : (slotRun t.engine.pointer n).length = n := by simp [slotRun]
  unfold State.startGroup
  dsimp only
  refine Orderly.afterStart ?_
  split
  · exact h.started _
  · split
    · exact h.started _
    · rename_i passes free
      obtain ⟨len, nodup, unused, new⟩ := checkGroup_passes passes
      obtain ⟨comps, count⟩ := placedOf_comps t (slotRun t.engine.pointer n) _ (by simpa using len)
      refine h.startPlaced _ _ _ _ free ?_ ?_ ?_ ?_ new
      · exact List.ne_nil_of_length_pos (by omega)
      · omega
      · rwa [comps]
      · rwa [comps]
    · exact h.started _

/-- The states that a RECALL or a PICKUP claims are states of rest (R21). -/
theorem admits_isRest {k : ClaimKind} {st : CustodyState} (h : ClaimKind.admits k st = true) : st.isRest = true := by
  revert h
  cases k <;> cases st <;> decide

@[simp] theorem Orderly.recallFrom (h : Orderly t) (d : Descriptor) (r : Text) (i : Fin 8) :
    Orderly (t.recallFrom d r i) := by
  unfold State.recallFrom
  dsimp only
  split
  · rename_i found
    have admitted := List.find?_some found
    simp only [Bool.and_eq_true] at admitted
    exact ((h.started _).claim _ (.inl (admits_isRest admitted.1))).request _
  · split
    · exact h.started _
    · exact h.started _

@[simp] theorem Orderly.startRecall (h : Orderly t) : Orderly t.startRecall := by
  unfold State.startRecall
  dsimp only
  refine Orderly.afterStart ?_
  split
  · exact h.startFails ..
  · split
    · exact h.startFails ..
    · exact h.startFails ..
    · split
      · exact h.recallFrom ..
      · exact h.startFails ..

/-- What a state can be claimed from, a claim keeps. -/
theorem claim_claimable (s : State) (c d : Comp) (w : Claimant)
    (hs : (s.custodyState d).isRest = true ∨ s.custodyState d = .releasing) :
    ((s.claim c w).custodyState d).isRest = true ∨ (s.claim c w).custodyState d = .releasing := by
  by_cases hd : d = c
  · subst hd
    exact .inr (setCustody_state ..)
  · unfold State.custodyState State.claim
    rw [setCustody_entry_other _ _ _ _ hd, updHolding_entry_other _ _ _ _ hd]
    exact hs

/-- Claims on a list of compartments at rest (R22, R83). -/
theorem Orderly.claims (w : Claimant) : ∀ (l : List Comp) (u : State), Orderly u →
    (∀ d ∈ l, (u.custodyState d).isRest = true ∨ u.custodyState d = .releasing) →
    Orderly (l.foldl (fun u d => u.claim d w) u)
  | [], _, h, _ => h
  | c :: l, u, h, hs =>
    Orderly.claims w l _ (h.claim w (hs c (List.mem_cons_self ..))) fun d hd =>
      claim_claimable u c d w (hs d (List.mem_cons_of_mem _ hd))

@[simp] theorem Orderly.pickupFrom (h : Orderly t) (i : Fin 8) : Orderly (t.pickupFrom i) := by
  unfold State.pickupFrom
  refine Orderly.claims .carrier _ _ (h.started _) fun d hd => .inl ?_
  have admitted := (List.mem_filter.mp hd).2
  simp only [Bool.and_eq_true] at admitted
  obtain ⟨⟨-, admits⟩, -⟩ := admitted
  exact admits_isRest admits

@[simp] theorem Orderly.startPickup (h : Orderly t) : Orderly t.startPickup := by
  unfold State.startPickup
  dsimp only
  refine Orderly.afterStart ?_
  split
  · exact h.startFails ..
  · exact h.startFails ..
  · split
    · exact h.pickupFrom ..
    · exact h.startFails ..

/-! ### The look, retirement and Stop -/

@[simp] theorem Orderly.suspend (h : Orderly t) (i : RingSlot) : Orderly (t.suspend i) := (h.setEngine _).post ..

@[simp] theorem Orderly.lookDrop (h : Orderly t) : Orderly t.lookDrop := by
  unfold State.lookDrop
  dsimp only
  split
  · split
    · exact h.suspend _
    · split
      · exact (h.started _).afterStart
      · exact h
    · rename_i good
      split
      · exact h.startGroup _ (by simpa using scanGroup_good t _ _ _ _ good)
      · exact h
  · split
    · exact (h.started _).afterStart
    · exact h

@[simp] theorem Orderly.lookNow (h : Orderly t) : Orderly t.lookNow := by
  unfold State.lookNow
  dsimp only
  split
  · exact h
  · split
    · exact h.suspend _
    · split
      · exact h.lookDrop
      · split
        · exact h.startRecall
        · exact h
      · split
        · exact h.startPickup
        · exact h

@[simp] theorem Orderly.retireOne (h : Orderly t) (r : WindowRecord) (l : List WindowRecord) (st : Status) :
    Orderly (t.retireOne r l st) := by
  unfold State.retireOne
  dsimp only
  split
  · exact ((h.putSlot ..).setWindow _).post ..
  · exact (h.putSlot ..).setWindow _

@[simp] theorem Orderly.retireAll : ∀ (l : List WindowRecord) (t : State), Orderly t → Orderly (State.retireAll l t)
  | [], _, h => h
  | r :: l, t, h => by
    unfold State.retireAll
    split
    · exact Orderly.retireAll l _ (h.retireOne ..)
    · exact h

@[simp] theorem Orderly.retireNow (h : Orderly t) : Orderly t.retireNow := by
  have retired := Orderly.retireAll t.engine.window t h
  unfold State.retireNow
  dsimp only
  split
  · split
    · exact retired.enterStopped
    · exact retired
  · split
    · exact retired.emit _
    · exact retired
  all_goals exact retired

@[simp] theorem Orderly.stopRecord (h : Orderly t) (r : WindowRecord) : Orderly (t.stopRecord r) := by
  unfold State.stopRecord
  split
  · split
    · exact (h.withdraw _).dropReserved _
    all_goals exact h
  · exact h

@[simp] theorem Orderly.engineStop (h : Orderly t) : Orderly t.engineStop := by
  have stopped := Orderly.foldl State.stopRecord (fun _ _ hu => hu.stopRecord _) t.engine.window _
    (h.setEngine .stopping)
  unfold State.engineStop
  split
  · exact stopped.emit _
  · exact stopped.emit _
  all_goals exact h

/-! ### The scanner -/

@[simp] theorem Orderly.confirmClosure (h : Orderly t) (c : Comp) (k : OpeningKind) : Orderly (t.confirmClosure c k) :=
  (h.setDoor ..).custodyClosure ..

@[simp] theorem Orderly.fittingRead (h : Orderly t) (c : Comp) : Orderly (t.fittingRead c) := by
  unfold State.fittingRead
  split
  · exact h
  · split
    · exact h.setDoor ..
    · exact h.setDoor ..

@[simp] theorem Orderly.applySample (h : Orderly t) (c : Comp) : Orderly (t.applySample c) := by
  unfold State.applySample
  split
  · exact h.fittingRead c
  · exact h
  · exact (h.setDoor ..).custodyForced c
  · exact h
  · exact (h.setDoor ..).custodyOpened ..
  · exact h.setDoor ..
  · exact h.confirmClosure ..
  · exact h.setDoor ..
  · exact h.setDoor ..
  · exact h.confirmClosure ..
  · exact h.setDoor ..
  · exact h.setDoor ..
  · exact h.confirmClosure ..
  · exact h.setDoor ..

@[simp] theorem Orderly.baselineSample (h : Orderly t) (c : Comp) : Orderly (t.baselineSample c) := by
  unfold State.baselineSample
  split
  · exact h
  · split
    · exact h.setDoor ..
    · exact (h.setDoor ..).setBaseline ..

@[simp] theorem Orderly.readColumn (h : Orderly t) (c : Column) : Orderly (t.readColumn c) := by
  refine Orderly.foldl _ (fun u p hu => ?_) _ _ (h.setOwed c false)
  split
  · exact hu.baselineSample _
  · exact hu.applySample _

@[simp] theorem Orderly.owedRead (h : Orderly t) (c : Column) : Orderly (t.owedRead c) := by
  unfold State.owedRead
  split
  · exact h.readColumn c
  · exact h

@[simp] theorem Orderly.noteInterrupted (h : Orderly t) (b : State) (c : Comp) (d : Detail) :
    Orderly (t.noteInterrupted b c d) := by
  unfold State.noteInterrupted
  split
  · exact h.postBoth ..
  · exact h

@[simp] theorem Orderly.reconcileCut (h : Orderly t) (c : Comp) : Orderly (t.reconcileCut c) := by
  unfold State.reconcileCut
  split
  · exact (h.setDoor ..).custodyOpened ..
  · exact ((h.setDoor ..).custodyWindowShut ..).noteInterrupted ..

/-- A reversion of a reservation or a claim (R195). -/
theorem Orderly.revert (h : Orderly t) (hs : t.custodyState c = .reserved ∨ t.custodyState c = .releasing) :
    Orderly (t.revert c) := by
  have rested : Orderly (t.toRest c) := by
    refine h.toRest ?_ ?_
    · rcases hs with e | e <;> simp [e]
    · rcases hs with e | e <;> simp [e]
  unfold State.revert
  split
  · exact h.removeHolding c .free none (.inl ⟨rfl, rfl⟩)
  all_goals exact rested

theorem Orderly.reconcileWaiting (h : Orderly t) (hs : t.custodyState c = .reserved ∨ t.custodyState c = .releasing) :
    Orderly (t.reconcileWaiting c) := by
  unfold State.reconcileWaiting
  split
  · exact (h.setDoor ..).custodyForced c
  · exact ((h.setDoor ..).revert hs).noteInterrupted ..

@[simp] theorem Orderly.reconcileRest (h : Orderly t) (c : Comp) : Orderly (t.reconcileRest c) := by
  unfold State.reconcileRest
  split
  · exact h.setDoor ..
  · exact h.setDoor ..
  · exact h.setDoor ..
  · exact h.setDoor ..
  · exact (h.setDoor ..).custodyForced c
  · exact h.setDoor ..

@[simp] theorem Orderly.reconcileFlown (h : Orderly t) (c : Comp) (f : FlightEntry) :
    Orderly (t.reconcileFlown c f) := by
  unfold State.reconcileFlown
  split
  · split
    · exact h.setDoor ..
    · exact (h.setDoor ..).custodyWindowShut ..
  · exact (h.reconcileRest c).testResult ..
  all_goals exact h.reconcileRest c

@[simp] theorem Orderly.reconcileOne (h : Orderly t) (c : Comp) : Orderly (t.reconcileOne c) := by
  unfold State.reconcileOne
  split
  · exact h
  · split
    · exact h.reconcileCut c
    · exact h.reconcileCut c
    · rename_i st _
      exact h.reconcileWaiting (.inl st)
    · rename_i st _
      exact h.reconcileWaiting (.inr st)
    · exact h.reconcileFlown ..
    · exact h.reconcileRest c

@[simp] theorem Orderly.reconcile (h : Orderly t) : Orderly t.reconcile := by
  have reconciled := Orderly.foldl State.reconcileOne (fun _ _ hu => hu.reconcileOne _) Comp.all t h
  unfold State.reconcile
  generalize Comp.all.foldl State.reconcileOne t = u at reconciled
  exact reconciled.of_eq rfl rfl

@[simp] theorem Orderly.sweepComplete (h : Orderly t) : Orderly t.sweepComplete := by
  unfold State.sweepComplete
  split
  · exact h.reconcile.setPhase _
  · exact h.of_eq rfl rfl
  · exact h

@[simp] theorem Orderly.advanceSweep (h : Orderly t) : Orderly t.advanceSweep := by
  unfold State.advanceSweep
  split
  · exact h.of_eq rfl rfl
  · exact h.of_eq rfl rfl

@[simp] theorem Orderly.takeColumn (h : Orderly t) : Orderly t.takeColumn := by
  unfold State.takeColumn
  dsimp only
  split
  · exact h.setOwed ..
  · exact h.readColumn _

@[simp] theorem Orderly.sweepStep (h : Orderly t) : Orderly t.sweepStep := by
  unfold State.sweepStep
  dsimp only
  split
  · exact h
  · split
    · exact h.takeColumn.advanceSweep
    · exact h.takeColumn.advanceSweep.sweepComplete

@[simp] theorem Orderly.windowEnds (h : Orderly t) (c : Comp) : Orderly (t.windowEnds c) := by
  unfold State.windowEnds
  split
  · exact (h.setDoor ..).custodyWindowShut ..
  all_goals exact h

@[simp] theorem Orderly.ajarEnds (h : Orderly t) (c : Comp) : Orderly (t.ajarEnds c) := by
  unfold State.ajarEnds
  split
  · exact (h.setDoor ..).post ..
  all_goals exact h

/-! ### The end of a step -/

@[simp] theorem Orderly.offerPaid (h : Orderly t) : Orderly t.offerPaid := by
  unfold State.offerPaid
  split
  · exact h
  · split
    · exact h
    · split
      · refine Orderly.request (Orderly.of_eq h ?_ ?_) _
        · rfl
        · rfl
      all_goals exact h

@[simp] theorem Orderly.movePass : ∀ (l : List Comp) (t : State), Orderly t → Orderly (State.movePass l t)
  | [], _, h => h
  | c :: l, t, h => by
    unfold State.movePass
    split
    · exact h
    · split
      · exact Orderly.movePass l _ ((h.setPending _).failEntry ..)
      · split
        · exact Orderly.movePass l _ h
        · exact Orderly.movePass l _ ((h.setPending _).request _)

@[simp] theorem Orderly.movePending (h : Orderly t) : Orderly t.movePending := by
  unfold State.movePending
  split
  · exact Orderly.movePass _ _ h
  · exact h

@[simp] theorem Orderly.tellDeparture (h : Orderly t) : Orderly t.tellDeparture := by
  unfold State.tellDeparture
  split
  · exact h.of_eq rfl rfl
  · exact h.of_eq rfl rfl

@[simp] theorem Orderly.work (h : Orderly t) (g : Signal) : Orderly (t.work g) := by
  unfold State.work
  cases g with
  | departed => exact h.tellDeparture
  | feed => exact h.feedOne
  | look => exact h.lookNow
  | retire => exact h.retireNow
  | offerPaid => exact h.offerPaid
  | movePending => exact h.movePending
  | owedRead c => exact h.owedRead c
  | columnActs c => exact h.columnAfterPulse c

@[simp] theorem Orderly.settle : ∀ (n : Nat) (t : State), Orderly t → Orderly (State.settle n t)
  | 0, _, h => h.of_eq rfl rfl
  | n + 1, t, h => by
    unfold State.settle
    split
    · exact h
    · have quiet : Orderly { t with signals := [] } := h.of_eq rfl rfl
      exact Orderly.settle n _ ((quiet.work _).of_eq rfl rfl)

/-- The end of a step keeps the order of the custody table (log 10). -/
@[simp] theorem Orderly.complete (h : Orderly t) : Orderly t.complete := by
  have settled := Orderly.settle settleFuel t h
  unfold State.complete State.arbiterLooks
  split
  · exact (Orderly.arbitrate _ _ settled).begin
  · exact settled.begin

end Sys2Proof.Machine
end

section
/-! SUPPORT. The order of the custody table through every command, and the theorem that every step keeps it. -/

namespace Sys2Proof.Machine

variable {s t : State} {c : Comp}

/-! ### Frames and events -/

/-- A request keeps the order when its block's change does (R202 to R204). -/
theorem Orderly.serveLate {hd : Head} {code : Byte} {carried : Role → Bool} {n : Nat} {late : State → List Field}
    {body : State → State × Answer} (h : Orderly s) (hb : ∀ u, Orderly u → Orderly (body u).1) :
    Orderly (s.serveLate hd code carried n late body) := by
  have taken : Orderly (s.begin.frameTaken hd.port) := h.begin.onPort ..
  unfold State.serveLate
  dsimp only
  split
  · exact h
  · split
    · exact taken.onPort ..
    · split
      · exact taken.onPort ..
      · split
        · exact taken.onPort ..
        · exact (hb _ taken).complete.of_eq rfl rfl

/-- An event keeps the order when its change does. -/
theorem Orderly.event {f : State → State} (h : Orderly s) (hf : ∀ u, Orderly u → Orderly (f u)) :
    Orderly (s.event f) := by
  unfold State.event
  split
  · exact (hf _ h.begin).complete
  · exact h

variable {b : State × Answer}

theorem Orderly.check (h : Orderly t) (ok : Bool) (r : Reason) (hb : ok = true → Orderly b.1) :
    Orderly (t.check ok r b).1 := by
  unfold State.check
  split
  · rename_i pass
    exact hb pass
  · exact h

theorem Orderly.unlessRestoring (h : Orderly t) (hb : Orderly b.1) : Orderly (t.unlessRestoring b).1 := by
  unfold State.unlessRestoring
  split
  · exact h
  · exact hb

theorem Orderly.guarded (h : Orderly t) (hb : Orderly b.1) : Orderly (t.guarded b).1 := by
  refine h.unlessRestoring ?_
  unfold State.unlessUncommissioned
  split
  · exact hb
  · exact h

theorem Orderly.withComp {body : Comp → State × Answer} (h : Orderly t) (n : Nat) (hb : ∀ c, Orderly (body c).1) :
    Orderly (t.withComp n body).1 := by
  unfold State.withComp
  split
  · exact h
  · exact hb _

theorem Orderly.withSlot {body : RingSlot → State × Answer} (h : Orderly t) (n : Nat) (hb : ∀ i, Orderly (body i).1) :
    Orderly (t.withSlot n body).1 := by
  unfold State.withSlot
  split
  · exact h
  · exact hb _

theorem Orderly.withCharge {body : ChargeSlot → ChargeRecord → State × Answer} (h : Orderly t) (i g : Nat)
    (hb : ∀ i r, Orderly (body i r).1) : Orderly (t.withCharge i g body).1 := by
  unfold State.withCharge
  split
  · exact h
  · split
    · exact h
    · exact hb _ _

theorem Orderly.withCode {body : State → RecordNo → Consignment → State × Answer} (h : Orderly t) (code : Text)
    (hb : ∀ u r k, Orderly u → Orderly (body u r k).1) : Orderly (t.withCode code body).1 := by
  unfold State.withCode
  split
  · exact h
  · split
    · exact h
    · split
      · exact h.of_eq rfl rfl
      · exact hb _ _ _ (h.of_eq rfl rfl)

/-! ### Charges -/

@[simp] theorem Orderly.voidCharge (h : Orderly t) (i : ChargeSlot) (k : EndCause) : Orderly (t.voidCharge i k).1 := by
  unfold State.voidCharge
  dsimp only
  split
  · exact (h.endCharge ..).dropReserved _
  · exact h.endCharge ..

theorem Orderly.voidAll : ∀ (l : List ChargeSlot) (t : State), Orderly t → Orderly (State.voidAll l t).1
  | [], _, h => h
  | i :: l, t, h => by
    unfold State.voidAll
    split
    · exact Orderly.voidAll l _ (h.voidCharge ..)
    · exact Orderly.voidAll l _ h

@[simp] theorem Orderly.dropForCharge (h : Orderly t) (r : ChargeRecord) (d : Detail) :
    Orderly (t.dropForCharge r d) := by
  unfold State.dropForCharge
  split
  · exact (h.dropReserved _).post ..
  · exact h

@[simp] theorem Orderly.expireCharge (h : Orderly t) (i : ChargeSlot) : Orderly (t.expireCharge i) := by
  unfold State.expireCharge
  split
  · exact ((h.endCharge ..).postBoth ..).dropForCharge ..
  · exact h

/-! ### The console -/

theorem Orderly.resetRole (h : Orderly t) (r : Option Role) : Orderly (t.resetRole r).1 := by
  unfold State.resetRole
  split
  · exact Orderly.voidAll _ _ h
  · exact h.engineStop
  all_goals exact h

@[simp] theorem Orderly.portReset (h : Orderly t) (hd : Head) (x : Sense) : Orderly (t.portReset hd x) := by
  have taken : Orderly (t.begin.frameTaken hd.port) := h.begin.onPort ..
  unfold State.portReset
  dsimp only
  split
  · exact h
  · split
    · exact taken.onPort ..
    · split
      · exact taken.onPort ..
      · exact (((taken.latch x).onPort ..).resetRole _).complete.onPort ..

@[simp] theorem Orderly.stopForConditions (h : Orderly t) (k : Consignment) (ev : Evaluation) (d : Detail) :
    Orderly (t.stopForConditions k ev d).1 := h.feeCondition ..

theorem Orderly.quoteOpens (h : Orderly t) (n : RecordNo) (k : Consignment) (ev : Evaluation) :
    Orderly (t.quoteOpens n k ev).1 := by
  unfold State.quoteOpens
  dsimp only
  split
  · exact h
  · exact (h.voidOpen ..).openIn ..

theorem Orderly.quoteKnown (h : Orderly t) (n : RecordNo) (k : Consignment) : Orderly (t.quoteKnown n k).1 := by
  refine h.check _ _ fun _ => h.check _ _ fun _ => ?_
  have evaluated := h.addSticky (t.evaluate k).raised
  dsimp only
  split
  · exact evaluated.stopForConditions ..
  · exact evaluated.check _ _ fun _ => evaluated.quoteOpens ..

theorem Orderly.voidNamed (h : Orderly t) (i : ChargeSlot) (r : ChargeRecord) : Orderly (t.voidNamed i r).1 := by
  unfold State.voidNamed
  split
  · exact h.voidCharge ..
  all_goals exact h

/-- A piece that no claim of a Collect fails on is at rest (R21, R22). -/
theorem firstClaimRefusal_none {l : List Comp} (h : s.firstClaimRefusal l = none) :
    ∀ c ∈ l, (s.custodyState c).isRest = true := by
  intro c hc
  unfold State.firstClaimRefusal at h
  have admitted := List.find?_eq_none.mp (Option.map_eq_none_iff.mp h) c hc
  exact admits_isRest (k := .collect) (by simpa using admitted)

theorem Orderly.collectClaims (h : Orderly t) (n : RecordNo) (k : Consignment) : Orderly (t.collectClaims n k).1 := by
  unfold State.collectClaims
  split
  · exact h
  · rename_i none
    refine h.check _ _ fun _ => h.check _ _ fun _ => ?_
    have claimed := Orderly.claims .customer k.pieces t h fun c hc => .inl (firstClaimRefusal_none none c hc)
    exact Orderly.foldl _ (fun _ _ hu => hu.request _) _ _ (claimed.voidOpen ..)

theorem Orderly.collectKnown (h : Orderly t) (n : RecordNo) (k : Consignment) : Orderly (t.collectKnown n k).1 := by
  refine h.check _ _ fun _ => h.check _ _ fun _ => ?_
  have evaluated := h.addSticky (t.evaluate k).raised
  dsimp only
  split
  · exact evaluated.stopForConditions ..
  · split
    · exact evaluated
    · exact evaluated.collectClaims ..

theorem Orderly.returnMatched (h : Orderly t) (i : Fin 8) (z : SizeClass) (ref : Option Text) :
    Orderly (t.returnMatched i z ref).1 := by
  refine h.check _ _ fun _ => h.check _ _ fun _ => h.check _ _ fun _ => ?_
  split
  · rename_i placed free
    refine h.check _ _ fun _ => ?_
    have committed := h.commitReturn _ i _ z ref free (placeOne_free placed).1
    unfold State.returnAccepted
    dsimp only
    split
    · exact committed.request _
    · split
      · exact h
      · exact committed.openIn ..
  all_goals exact h

theorem Orderly.returnBegin (h : Orderly t) (id : Nat) (z : Option SizeClass) (ref : Text) :
    Orderly (t.returnBegin id z ref).1 := by
  unfold State.returnBegin
  split
  · exact h
  · refine h.check _ _ fun _ => ?_
    split
    · exact h.returnMatched ..
    all_goals exact h

theorem Orderly.returnCancel (h : Orderly t) (n : Nat) : Orderly (t.returnCancel n).1 := by
  unfold State.returnCancel
  split
  · exact h
  · split
    · exact h
    · split
      · exact h
      · unfold State.returnCancelOf
        split
        · exact h
        · exact h.check _ _ fun _ => h.check _ _ fun _ => h.check _ _ fun _ =>
            ((h.withdraw _).voidOpen ..).dropReserved _

/-! ### The courier and the payment module -/

@[simp] theorem Orderly.handSlot (h : Orderly t) (i : RingSlot) : Orderly (t.handSlot i) := h.putSlot ..

theorem Orderly.engineResume (h : Orderly t) : Orderly t.engineResume.1 := by
  refine h.unlessRestoring ?_
  split
  · exact (h.setEngine _).emit _
  all_goals exact h

theorem Orderly.fetchNamed (h : Orderly t) (i : ChargeSlot) (r : ChargeRecord) : Orderly (t.fetchNamed i r).1 := by
  unfold State.fetchNamed
  split
  · exact h.putCharge ..
  all_goals exact h

theorem Orderly.fetchCharge (h : Orderly t) (ref : Option (Nat × Nat)) : Orderly (t.fetchCharge ref).1 := by
  refine h.unlessRestoring ?_
  split
  · exact h.withCharge _ _ fun _ _ => h.fetchNamed ..
  · split
    · exact h.fetchNamed ..
    · exact h

theorem Orderly.settleCharge (h : Orderly t) (i : ChargeSlot) (r : ChargeRecord) : Orderly (t.settleCharge i r).1 := by
  unfold State.settleCharge
  refine Orderly.post ?_ ..
  split
  · have paid := (h.endCharge i .paid none (some t.clock.minute)).updRecord ‹RecordNo›
      (fun k => k.settled r.laneO r.laneK t.clock.minute t.tariff.bank.grace) fun _ => rfl
    unfold State.paidReleases
    split
    · exact paid.releasePaidReturn ..
    · exact paid
  · exact h.endCharge ..

theorem Orderly.declineCharge (h : Orderly t) (i : ChargeSlot) (r : ChargeRecord) (k : EndCause) (b : Bool) :
    Orderly (t.declineCharge i r k b).1 := ((h.endCharge ..).post ..).dropForCharge ..

theorem Orderly.lateResult (h : Orderly t) (i : ChargeSlot) (r : ChargeRecord) (o : CardOutcome) (x y : Nat) :
    Orderly (t.lateResult i r o x y).1 := by
  unfold State.lateResult
  dsimp only
  exact h.postBoth ..

theorem Orderly.paymentResult (h : Orderly t) (slot gen : Nat) (o : Option CardOutcome) (x y : Nat) :
    Orderly (t.paymentResult slot gen o x y).1 := by
  unfold State.paymentResult
  split
  · split
    · exact h
    · split
      · exact h
      · unfold State.resultFor
        split
        · split
          · split
            · exact h.settleCharge ..
            · exact h.declineCharge ..
          · exact h.declineCharge ..
        · exact h
        · exact h
        · exact h
        · exact h.lateResult ..
        · exact h.lateResult ..
        · exact h.lateResult ..
  · exact h

/-! ### Operations on custody -/

/-- An entry without a holding is written fitted or not (R2). -/
theorem Orderly.fitComp (h : Orderly t) (c : Comp) (f : Bool) (z : SizeClass) (u : UseClass)
    (bare : t.holding c = none) : Orderly (t.fitComp c f z u) := by
  obtain ⟨-, cause, -, -, -⟩ := h.entries c
  have none : (t.entry c).holding = none := bare
  unfold State.fitComp
  dsimp only
  have written : Orderly (t.setEntry c { t.entry c with
      fitted := f, size := z, use := u, state := (fittedState (t.entry c).state (t.entry c).cause f).1,
      cause := (fittedState (t.entry c).state (t.entry c).cause f).2 }) := by
    refine h.of_entry c (ledger_setEntry_same t c _ rfl) (fun d hd => setEntry_entry_other _ _ _ _ hd) ?_
    rw [setEntry_entry_same]
    unfold fittedState
    split
    · simp [CompartmentEntry.InOrder, none]
    · rename_i st
      simpa [CompartmentEntry.InOrder, none, Option.isSome_iff_ne_none] using cause.mpr st
    · simp [CompartmentEntry.InOrder, none]
  split
  · exact written
  · exact written.setDoor ..

theorem Orderly.setCompartment (h : Orderly t) (n : Nat) (f : Option Bool) (z : Option SizeClass)
    (u : Option UseClass) : Orderly (t.setCompartment n f z u).1 := by
  refine h.unlessRestoring ?_
  split
  · refine h.check _ _ fun pass => h.fitComp _ _ _ _ ?_
    simp only [Bool.not_eq_true', Bool.or_eq_false_iff, Option.isSome_eq_false_iff, Option.isNone_iff_eq_none] at pass
    obtain ⟨⟨empty, -⟩, -⟩ := pass
    exact empty
  · exact h

theorem Orderly.withholdReview (h : Orderly t) (c : Comp) : Orderly (t.withholdReview c).1 := by
  unfold State.withholdReview
  split
  · exact h
  · split
    · rename_i st
      exact h.enterReview _ (.inl (by rw [st]; rfl))
    · rename_i st
      exact h.enterReview _ (.inl (by rw [st]; rfl))
    · rename_i st
      exact h.enterReview _ (.inl (by rw [st]; rfl))
    · rename_i st
      exact h.addCause _ (.inl st)
    all_goals exact h

theorem Orderly.withholdOos (h : Orderly t) (c : Comp) : Orderly (t.withholdOos c).1 := by
  unfold State.withholdOos
  split
  · rename_i st
    exact h.outOfService _ (.inr (.inl st))
  · rename_i st
    exact h.outOfService _ (.inl (by rw [st]; rfl))
  · rename_i st
    exact h.outOfService _ (.inl (by rw [st]; rfl))
  · rename_i st
    exact h.outOfService _ (.inl (by rw [st]; rfl))
  · rename_i st
    exact h.outOfService _ (.inr (.inr (.inl st)))
  all_goals exact h

/-- Resolve Review acts on a holding in REVIEW alone (R27). -/
theorem Orderly.resolve (h : Orderly t) (ok : Bool) (n : Nat) {act : Comp → State}
    (ha : ∀ c, t.custodyState c = .review → Orderly (act c)) : Orderly (t.resolve ok n act).1 := by
  refine h.guarded (h.check _ _ fun _ => h.withComp _ fun c => ?_)
  split
  · exact h
  · split
    · rename_i st
      exact ha c st
    all_goals exact h

/-- The entry of a holding that is restored (R27, R28). -/
theorem restore_entry_same {s : State} {x : Holding} {r : RestState} (hx : s.holding c = some x)
    (rest : x.rest = some r) : (s.restore c).entry c = { s.entry c with
      state := RestState.custody r
      holding := some { x with causes := [], releaseInterrupted := false, claimant := none } } := by
  unfold State.restore
  have cleared : (s.updHolding c fun y => { y with causes := [], releaseInterrupted := false }).holding c =
      some { x with causes := [], releaseInterrupted := false } := by
    rw [State.holding, updHolding_entry_same, hx]
    rfl
  rw [toRest_entry_same _ c _ r cleared rest, updHolding_entry_same]

/-- A restored holding keeps the ledger and every other entry (R27, R28). -/
theorem restore_frame (s : State) (c : Comp) :
    (s.restore c).ledger = s.ledger ∧ ∀ d, d ≠ c → (s.restore c).entry d = s.entry d := by
  have cleared := ledger_updHolding s c (fun x => { x with causes := [], releaseInterrupted := false }) fun _ => rfl
  constructor
  · unfold State.restore State.toRest
    split
    · rw [ledger_setCustody]
      exact (ledger_updHolding _ c (fun x => { x with claimant := none }) fun _ => rfl).trans cleared
    · exact cleared
  · intro d hd
    unfold State.restore
    rw [toRest_entry_other _ _ _ hd, updHolding_entry_other _ _ _ _ hd]

/-- A holding in REVIEW or OUT_OF_SERVICE is restored, and the cause of its compartment cleared (R27, R28). -/
theorem Orderly.restored (h : Orderly t) (hs : t.custodyState c = .review ∨ t.custodyState c = .outOfService)
    {u : State} {x : Holding} (hx : t.holding c = some x) (ledger : u.ledger = t.ledger)
    (others : ∀ d, d ≠ c → u.entry d = t.entry d)
    (own : u.entry c = { (t.restore c).entry c with cause := none }) : Orderly u := by
  obtain ⟨fitted, -, -, rest, minute, -⟩ := (h.entries c).of_holding hx
  have deposited : x.rest ≠ none := fun hn => by
    rcases rest.mp hn with e | e <;> rcases hs with st | st <;> rw [State.custodyState, e] at st <;> cases st
  obtain ⟨r, hr⟩ := Option.ne_none_iff_exists'.mp deposited
  refine h.of_entry c ledger others ?_
  rw [own, restore_entry_same hx hr]
  exact CompartmentEntry.inOrder_held fitted (by cases r <;> simp [RestState.custody])
    (by cases r <;> simp [RestState.custody]) (by cases r <;> simp [RestState.custody])
    (Holding.inOrder_atRest hr (by rw [← minute, hr]; rfl) rfl rfl)

theorem Orderly.restore (h : Orderly t) (hs : t.custodyState c = .review) : Orderly (t.restore c) := by
  obtain ⟨x, hx⟩ := h.has_holding (c := c) (by simp [hs]) (by simp [hs]) (by simp [hs])
  obtain ⟨ledger, others⟩ := restore_frame t c
  refine h.restored (.inl hs) hx ledger others ?_
  have review : (t.entry c).state = .review := hs
  have bare : (t.entry c).cause = none := (h.entries c).cause_none (by simp [review])
  have kept : ((t.restore c).entry c).cause = none := by
    obtain ⟨-, -, -, rest, -⟩ := (h.entries c).of_holding hx
    obtain ⟨r, hr⟩ := Option.ne_none_iff_exists'.mp fun hn : x.rest = none => by
      rcases rest.mp hn with e | e <;> rw [State.custodyState, e] at hs <;> cases hs
    rw [restore_entry_same hx hr]
    exact bare
  rw [← kept]

theorem Orderly.waive (h : Orderly t) (hs : t.custodyState c = .review) : Orderly (t.waive c) := by
  unfold State.waive
  split
  · exact (h.updRecord _ (fun k => { k with waived := true }) fun _ => rfl).restore hs
  · exact h.restore hs

/-- An OUT_OF_SERVICE compartment returns to service (R28). -/
theorem Orderly.returned (h : Orderly t) (hs : t.custodyState c = .outOfService) : Orderly (t.returned c) := by
  have entry := h.entries c
  have state : (t.entry c).state = .outOfService := hs
  unfold State.returned
  split
  · rename_i bare
    have none : (t.entry c).holding = none := Option.isNone_iff_eq_none.mp bare
    refine h.of_entry c (ledger_setEntry_same t c _ rfl) (fun d hd => setEntry_entry_other _ _ _ _ hd) ?_
    rw [setEntry_entry_same]
    have own := CompartmentEntry.inOrder_bare (e := t.entry c) (st := .free) (cause := Option.none)
      (entry.1.mpr (by simp [state])) (.inl ⟨rfl, rfl⟩)
    rwa [← none] at own
  · rename_i holds
    obtain ⟨x, hx⟩ := Option.ne_none_iff_exists'.mp fun hn => holds (Option.isNone_iff_eq_none.mpr hn)
    obtain ⟨ledger, others⟩ := restore_frame t c
    refine h.restored (.inr hs) hx ?_ (fun d hd => ?_) (putEntry_entry_same ..)
    · refine Eq.trans ?_ ledger
      rw [ledger_putEntry]
      exact congrArg (fun names => { (t.restore c).ledger with names := names }) (Function.update_eq_self ..)
    · exact (putEntry_entry_other _ _ _ _ hd).trans (others d hd)

theorem Orderly.returnToService (h : Orderly t) (c : Comp) : Orderly (t.returnToService c).1 :=
  h.check _ _ fun _ => h.check _ _ fun _ => h.check _ _ fun st => h.returned (by simpa using st)

/-- What the fields of an Amend Holding keep of the order of a holding (R29). -/
theorem Holding.inOrder_amended {x : Holding} {st : CustodyState} {sel : BitVec 16} {v : AmendFields}
    (hx : x.InOrder st) (minute : sel.getLsbD 2 = true → x.depositMinute.isSome = true)
    (rest : sel.getLsbD 3 = true → amendableRest v.rest = true ∧ amendableRest x.rest = true) :
    (x.amended sel v).InOrder (if sel.getLsbD 3 = true ∧ (st = .held ∨ st = .overstayed) then
      (v.rest.elim st RestState.custody) else st) := by
  obtain ⟨hr, hm, shown, claimant, nodup, few, some_cause, causes⟩ := hx
  have minutes : (x.amended sel v).depositMinute.isSome = x.depositMinute.isSome := by
    simp only [Holding.amended, pick]
    split
    · rename_i hs
      simpa using (minute hs).symm
    · rfl
  cases hs : sel.getLsbD 3 with
  | false =>
    have same : (x.amended sel v).rest = x.rest := by
      simp only [Holding.amended, pick, hs, Bool.false_eq_true, if_false]
    simp only [Holding.InOrder, same, minutes, Bool.false_eq_true, false_and, if_false]
    exact ⟨hr, hm, shown, claimant, nodup, few, some_cause, causes⟩
  | true =>
    obtain ⟨new, old⟩ := rest hs
    have written : (x.amended sel v).rest = v.rest := by simp [Holding.amended, pick, hs]
    obtain ⟨q, hq⟩ : ∃ q, v.rest = some q := Option.isSome_iff_exists.mp (by
      cases hv : v.rest <;> simp_all [amendableRest])
    obtain ⟨p, hp⟩ : ∃ p, x.rest = some p := Option.isSome_iff_exists.mp (by
      cases hv : x.rest <;> simp_all [amendableRest])
    rw [hp] at hr hm shown
    have isRest_q : (RestState.custody q).isRest = true := by cases q <;> rfl
    by_cases atRest : st = .held ∨ st = .overstayed
    · have unclaimed : x.claimant = none := by rcases atRest with rfl | rfl <;> simpa using claimant
      have clear : x.causes = [] := by rcases atRest with rfl | rfl <;> simpa using causes
      simp only [atRest, and_self, if_true, hq, Option.elim_some]
      exact Holding.inOrder_atRest (written.trans hq) (by rw [minutes, ← hm]; rfl) unclaimed clear
    · simp only [atRest, and_false, if_false]
      refine ⟨by simpa [written, hq] using hr, by simpa [written, hq, minutes] using hm, fun isRest => ?_, claimant,
        nodup, few, some_cause, causes⟩
      have is := shown isRest
      simp only [Option.map_some, Option.some.injEq] at is
      cases p with
      | held => exact absurd (.inl is.symm) atRest
      | overstayed => exact absurd (.inr is.symm) atRest
      | returnHeld => simp [hp, amendableRest] at old

theorem Orderly.amended (h : Orderly t) (x : Holding) (sel : BitVec 16) (v : AmendFields) (hx : t.holding c = some x)
    (minute : sel.getLsbD 2 = true → x.depositMinute.isSome = true)
    (rest : sel.getLsbD 3 = true → amendableRest v.rest = true ∧ amendableRest x.rest = true) :
    Orderly (t.amended c x sel v) := by
  have entry := h.entries c
  obtain ⟨fitted, nf, fr, hold⟩ := entry.of_holding hx
  have amended := Holding.inOrder_amended hold minute rest
  have ledger : ((t.updHolding c fun y => y.amended sel v).updRecord x.record fun k =>
      { k with cod := pick sel 4 (clampTop maxAmount v.cod) k.cod }).ledger = t.ledger :=
    (ledger_updRecord _ _ (fun k => { k with cod := pick sel 4 (clampTop maxAmount v.cod) k.cod }) fun _ => rfl).trans
      (ledger_updHolding t c (fun y => y.amended sel v) fun _ => rfl)
  have others : ∀ d, d ≠ c → ((t.updHolding c fun y => y.amended sel v).updRecord x.record fun k =>
      { k with cod := pick sel 4 (clampTop maxAmount v.cod) k.cod }).entry d = t.entry d :=
    fun d hd => updHolding_entry_other t c d _ hd
  have own : ((t.updHolding c fun y => y.amended sel v).updRecord x.record fun k =>
      { k with cod := pick sel 4 (clampTop maxAmount v.cod) k.cod }).entry c =
        { t.entry c with holding := some (x.amended sel v) } :=
    (updHolding_entry_same t c _).trans (by rw [hx, Option.map_some])
  have state : ((t.updHolding c fun y => y.amended sel v).updRecord x.record fun k =>
      { k with cod := pick sel 4 (clampTop maxAmount v.cod) k.cod }).custodyState c = t.custodyState c := by
    rw [State.custodyState, own]
    rfl
  unfold State.amended
  generalize ((t.updHolding c fun y => y.amended sel v).updRecord x.record fun k =>
    { k with cod := pick sel 4 (clampTop maxAmount v.cod) k.cod }) = u at *
  have moved : ∀ r, v.rest = some r → sel.getLsbD 3 = true → t.custodyState c = .held ∨ t.custodyState c = .overstayed →
      Orderly (u.setCustody c (RestState.custody r)) := by
    intro r hr hs st
    refine h.of_entry c ((ledger_setCustody ..).trans ledger)
      (fun d hd => (setCustody_entry_other _ _ _ _ hd).trans (others d hd)) ?_
    rw [setCustody_entry_same, own]
    rw [if_pos ⟨hs, st⟩, hr, Option.elim_some] at amended
    refine CompartmentEntry.inOrder_held fitted ?_ ?_ ?_ amended
    · cases r <;> simp [RestState.custody]
    · cases r <;> simp [RestState.custody]
    · have up : (t.entry c).state ≠ .outOfService := by
        intro e
        rw [State.custodyState, e] at st
        simp at st
      rw [entry.cause_none up]
      cases r <;> simp [RestState.custody]
  unfold State.restMoves
  split
  · rename_i hs st hr
    exact moved _ hr hs (.inl (state ▸ st))
  · rename_i hs st hr
    exact moved _ hr hs (.inr (state ▸ st))
  · rename_i notHeld notOverstayed
    refine h.of_entry c ledger others ?_
    rw [own]
    have still : ¬ (sel.getLsbD 3 = true ∧ ((t.entry c).state = .held ∨ (t.entry c).state = .overstayed)) := by
      rintro ⟨hs, st⟩
      obtain ⟨r, hr⟩ : ∃ r, v.rest = some r := Option.isSome_iff_exists.mp (by
        have := (rest hs).1
        cases hv : v.rest <;> simp_all [amendableRest])
      rcases st with st | st
      · exact notHeld r hs (state.trans st) hr
      · exact notOverstayed r hs (state.trans st) hr
    rw [if_neg still] at amended
    exact CompartmentEntry.inOrder_held fitted nf fr entry.2.1 amended

theorem Orderly.amendHolding (h : Orderly t) (sel : BitVec 16) (v : AmendFields) (c : Comp) :
    Orderly (t.amendHolding sel v c).1 := by
  unfold State.amendHolding
  split
  · exact h
  · rename_i x hx
    refine h.check _ _ fun pass => h.amended x sel v hx ?_ ?_
    · intro hs
      simp only [State.amendOk, Bool.and_eq_true, hs, Bool.not_true, Bool.false_or] at pass
      obtain ⟨⟨⟨-, minute⟩, -⟩, -⟩ := pass
      exact minute
    · intro hs
      simp only [State.amendOk, Bool.and_eq_true, hs, Bool.not_true, Bool.false_or] at pass
      obtain ⟨⟨-, rest⟩, -⟩ := pass
      exact rest

/-! ### Operations on settings and releases -/

/-- A carrier entry is written without its live count (R50, R51). -/
theorem Orderly.setCarrier (h : Orderly t) (sel : BitVec 16) (v : CarrierFields) (i : Fin 8) :
    Orderly (t.setCarrier sel v i).1 := by
  refine h.check _ _ fun _ => h.check _ _ fun _ => h.check _ _ fun _ => ⟨h.entries, ?_⟩
  have same : (t.putCarrier i ((t.carriers.get i).written sel v)).ledger = t.ledger := by
    rw [ledger_putCarrier]
    exact congrArg (fun live => { t.ledger with live := live }) (Function.update_eq_self ..)
  exact same ▸ h.ledger

theorem Orderly.setTariff (h : Orderly t) (target : Nat) (sel : BitVec 16) (v : ClassValues) (b : BankValues) :
    Orderly (t.setTariff target sel v b).1 := by
  unfold State.setTariff
  split
  · exact h.check _ _ fun _ => h.of_eq rfl rfl
  · split
    · exact h.check _ _ fun _ => h.check _ _ fun _ => h.of_eq rfl rfl
    · exact h

/-- A clearance is refused but at rest (R23). -/
theorem releaseRefusal_rest {c : Comp} (hr : s.releaseRefusal c true = none) : (s.custodyState c).isRest = true := by
  revert hr
  unfold State.releaseRefusal
  cases s.custodyState c <;> cases (s.holding c).isSome <;> decide

theorem Orderly.serviceRelease (h : Orderly t) (b : Bool) (c : Comp) : Orderly (t.serviceRelease b c).1 := by
  refine h.check _ _ fun _ => h.check _ _ fun _ => ?_
  split
  · exact h
  · rename_i admitted
    refine h.check _ _ fun _ => ?_
    have claimed : Orderly (t.clearanceClaim c b) := by
      unfold State.clearanceClaim
      split
      · rename_i clearance
        rw [clearance] at admitted
        exact h.claim _ (.inl (releaseRefusal_rest admitted))
      · exact h
    unfold State.serviceTaken
    split
    · exact claimed.request _
    · split
      · exact claimed.setPending _
      · exact h

theorem Orderly.withdrawService (h : Orderly t) (c : Comp) : Orderly (t.withdrawService c).1 := by
  refine h.guarded ?_
  split
  · show Orderly (t.pendingWithdrawn c)
    unfold State.pendingWithdrawn
    dsimp only
    split
    · rename_i claimed
      simp only [Bool.and_eq_true, beq_iff_eq] at claimed
      exact (h.setPending _).toRest (by simp [claimed.1]) (by simp [claimed.1])
    · exact h.setPending _
  · split
    · exact h
    · exact h

theorem Orderly.columnRestore (h : Orderly t) (n : Nat) : Orderly (t.columnRestore n).1 := by
  unfold State.columnRestore
  split
  · exact h
  · refine h.check _ _ fun _ => h.check _ _ fun _ => ?_
    split
    · exact h
    · exact h.check _ _ fun _ => h.request _

/-! ### Power and the clock -/

/-- The order of a custody table in which no compartment is fitted, no record is in use and no holding is counted
(R198). -/
theorem Orderly.cold (entries : ∀ c, t.entry c = CompartmentEntry.cold) (records : ∀ n, t.record n = none)
    (codeMap : t.custody.codeMap = []) (live : ∀ i, (t.carriers.get i).live = 0) : Orderly t := by
  have lots : ∀ n, t.ledger.lots n = none := fun n => by simp [State.ledger, records]
  have names : ∀ c, t.ledger.names c = none := fun c => by
    simp [State.ledger, State.holding, entries, CompartmentEntry.cold]
  refine ⟨fun c => by rw [entries]; decide, ?_, ?_, ?_, ?_, ?_, ?_⟩
  · intro c n h
    simp [names] at h
  · intro n k h
    simp [lots] at h
  · intro n k h
    simp [lots] at h
  · intro p hp
    simp [State.ledger, codeMap] at hp
  · simp [State.ledger, codeMap]
  · intro i
    have unowned : ∀ c, t.ledger.carrierAt c = none := fun c => by
      unfold Ledger.carrierAt
      rw [names]
      rfl
    show (t.carriers.get i).live = _
    simp [unowned, live]

@[simp] theorem Orderly.coldStarted (t : State) : Orderly t.coldStarted := by
  refine Orderly.cold (fun c => ?_) (fun n => ?_) rfl fun i => ?_
  · exact Vector.getElem_replicate ..
  · exact Vector.getElem_replicate ..
  · exact congrArg CarrierEntry.live (Vector.getElem_replicate ..)

/-- The open charge references are no part of the order (R143). -/
@[simp] theorem Orderly.forgetCharges (h : Orderly t) : Orderly t.forgetCharges := by
  have lots : t.forgetCharges.ledger.lots = t.ledger.lots := by
    funext n
    have mapped : t.forgetCharges.record n = (t.record n).map fun x => { x with openRef := none } := by
      show (t.custody.records.map fun k => k.map fun x => { x with openRef := none })[n.val] = _
      rw [Vector.getElem_map]
      rfl
    show (t.forgetCharges.record n).map Consignment.lot = (t.record n).map Consignment.lot
    rw [mapped]
    cases t.record n <;> simp [Consignment.lot]
  refine ⟨h.entries, ?_⟩
  show Ledger.InOrder (Ledger.mk t.ledger.names t.forgetCharges.ledger.lots t.ledger.codeMap t.ledger.live)
  rw [lots]
  exact h.ledger

@[simp] theorem Orderly.tryStart (h : Orderly t) (x : Straps) : Orderly (t.tryStart x) := by
  unfold State.tryStart
  split
  · unfold State.start
    dsimp only
    split
    · exact Orderly.of_eq (Orderly.forgetCharges (Orderly.of_eq h rfl rfl)) rfl rfl
    · exact Orderly.of_eq (Orderly.forgetCharges (Orderly.coldStarted _)) rfl rfl
  · exact h

@[simp] theorem Orderly.tryStop (h : Orderly t) : Orderly t.tryStop := by
  unfold State.tryStop
  split
  · exact h.of_eq rfl rfl
  · exact h

@[simp] theorem Orderly.pulseEnds (h : Orderly t) (c : Column) (p : EntryClass → Bool) (act : State → Entry → State)
    (ha : ∀ e, Orderly (act t e)) : Orderly (t.pulseEnds c p act) := by
  unfold State.pulseEnds
  split
  · exact h
  · split
    · exact ha _
    · exact h

/-- Every command keeps the custody table in order. -/
theorem Orderly.exec (h : Orderly s) (i : Instr) : ∃ t, exec i s = .next t ∧ Orderly t := by
  cases i with
  | readNotice hd =>
    refine ⟨_, rfl, h.serveLate fun u hu => ?_⟩
    unfold State.readNotice
    split
    · exact hu.of_eq rfl rfl
    · exact hu.of_eq rfl rfl
  | portReset hd x => exact ⟨_, rfl, h.portReset ..⟩
  | lookup hd code =>
    exact ⟨_, rfl, h.serveLate fun u hu => hu.guarded (hu.withCode _ fun _ _ _ hv => hv.addSticky _)⟩
  | quote hd code =>
    exact ⟨_, rfl, h.serveLate fun u hu => hu.guarded (hu.withCode _ fun _ _ _ hv => hv.quoteKnown ..)⟩
  | voidQuote hd i g =>
    exact ⟨_, rfl, h.serveLate fun u hu => hu.guarded (hu.withCharge _ _ fun _ _ => hu.voidNamed ..)⟩
  | collect hd code =>
    exact ⟨_, rfl, h.serveLate fun u hu => hu.guarded (hu.withCode _ fun _ _ _ hv => hv.collectKnown ..)⟩
  | returnBegin hd n z ref => exact ⟨_, rfl, h.serveLate fun u hu => hu.guarded (hu.returnBegin ..)⟩
  | returnCancel hd n x =>
    exact ⟨_, rfl, h.serveLate fun u hu => (hu.latch x).guarded ((hu.latch x).returnCancel n)⟩
  | releaseCharge hd i g =>
    refine ⟨_, rfl, h.serveLate fun u hu => hu.withCharge _ _ fun j r => ?_⟩
    unfold State.releaseNamed
    split
    · exact hu.freeSlot _
    · exact hu
  | slotWrite hd i f =>
    refine ⟨_, rfl, h.serveLate fun u hu => hu.withSlot _ fun j => ?_⟩
    unfold State.slotWrite
    split
    · exact hu
    · exact hu.check _ _ fun _ => hu.putSlot ..
  | slotRead hd i => exact ⟨_, rfl, h.serveLate fun u hu => hu.withSlot _ fun _ => hu⟩
  | handOver hd i n =>
    exact ⟨_, rfl, h.serveLate fun u hu => hu.withSlot _ fun j => hu.check _ _ fun _ => hu.check _ _ fun _ =>
      (Orderly.foldl State.handSlot (fun _ _ hv => hv.handSlot _) _ _ hu).emit _⟩
  | start hd i =>
    exact ⟨_, rfl, h.serveLate fun u hu => hu.withSlot _ fun j => hu.guarded (hu.check _ _ fun _ =>
      ((hu.setPointer j).setEngine _).emit _)⟩
  | resume hd => exact ⟨_, rfl, h.serveLate fun u hu => hu.engineResume⟩
  | stop hd x => exact ⟨_, rfl, h.serveLate fun u hu => (hu.latch x).engineStop⟩
  | fetchCharge hd ref => exact ⟨_, rfl, h.serveLate fun u hu => hu.fetchCharge ref⟩
  | paymentResult hd i g o x y => exact ⟨_, rfl, h.serveLate fun u hu => hu.paymentResult ..⟩
  | setCompartment hd n f z u => exact ⟨_, rfl, h.serveLate fun u hu => hu.setCompartment ..⟩
  | withholdToReview hd ok n =>
    exact ⟨_, rfl, h.serveLate fun u hu => hu.guarded (hu.check _ _ fun _ => hu.withComp _ hu.withholdReview)⟩
  | withholdToOutOfService hd ok n =>
    exact ⟨_, rfl, h.serveLate fun u hu => hu.guarded (hu.check _ _ fun _ => hu.withComp _ hu.withholdOos)⟩
  | resolveReviewRestore hd ok n =>
    exact ⟨_, rfl, h.serveLate fun u hu => hu.resolve _ _ fun c st => hu.restore st⟩
  | resolveReviewWaive hd ok n => exact ⟨_, rfl, h.serveLate fun u hu => hu.resolve _ _ fun c st => hu.waive st⟩
  | resolveReviewRetire hd ok n =>
    exact ⟨_, rfl, h.serveLate fun u hu => hu.resolve _ _ fun c _ => hu.removeHolding c _ _ (.inl ⟨rfl, rfl⟩)⟩
  | resolveReviewWithdraw hd ok n =>
    exact ⟨_, rfl, h.serveLate fun u hu => hu.resolve _ _ fun c st => hu.outOfService _ (.inr (.inr (.inl st)))⟩
  | returnToService hd n => exact ⟨_, rfl, h.serveLate fun u hu => hu.guarded (hu.withComp _ hu.returnToService)⟩
  | amendHolding hd n sel v =>
    exact ⟨_, rfl, h.serveLate fun u hu => hu.guarded (hu.withComp _ (hu.amendHolding sel v))⟩
  | setCarrier hd i sel v =>
    refine ⟨_, rfl, h.serveLate fun u hu => ?_⟩
    unfold State.withCarrier
    split
    · exact hu
    · exact hu.setCarrier ..
  | readCarrier hd i =>
    refine ⟨_, rfl, h.serveLate fun u hu => ?_⟩
    unfold State.withCarrier
    split
    · exact hu
    · exact hu
  | setTariff hd x sel v b => exact ⟨_, rfl, h.serveLate fun u hu => hu.setTariff ..⟩
  | readTariff hd x =>
    refine ⟨_, rfl, h.serveLate fun u hu => ?_⟩
    unfold State.readTariff
    split
    · exact hu
    · dsimp only
      split
      · exact hu
      · exact hu
  | setMasks hd x =>
    refine ⟨_, rfl, h.serveLate fun u hu => ?_⟩
    unfold State.setMasks
    split
    · exact hu
    · exact hu.of_eq rfl rfl
  | clearConditions hd x =>
    refine ⟨_, rfl, h.serveLate fun u hu => ?_⟩
    unfold State.clearConditions
    split
    · exact hu
    · exact hu.of_eq rfl rfl
  | readConditions hd => exact ⟨_, rfl, h.serveLate fun u hu => hu⟩
  | serviceRelease hd n b =>
    refine ⟨_, rfl, h.serveLate fun u hu => hu.guarded ?_⟩
    unfold State.serviceReleaseOf
    split
    · exact hu
    · exact hu.withComp _ (hu.serviceRelease _)
  | withdrawService hd n => exact ⟨_, rfl, h.serveLate fun u hu => hu.withComp _ hu.withdrawService⟩
  | testPulse hd n =>
    exact ⟨_, rfl, h.serveLate fun u hu => hu.guarded (hu.withComp _ fun c => hu.check _ _ fun _ =>
      hu.check _ _ fun _ => hu.check _ _ fun _ => hu.check _ _ fun _ => hu.check _ _ fun _ => hu.request _)⟩
  | columnRestore hd n => exact ⟨_, rfl, h.serveLate fun u hu => hu.guarded (hu.columnRestore n)⟩
  | setTiming hd sel v =>
    exact ⟨_, rfl, h.serveLate fun u hu => hu.check _ _ fun _ => hu.check _ _ fun _ => hu.of_eq rfl rfl⟩
  | readCompartment hd n => exact ⟨_, rfl, h.serveLate fun u hu => hu.withComp _ fun _ => hu⟩
  | readConsignment hd n =>
    refine ⟨_, rfl, h.serveLate fun u hu => ?_⟩
    unfold State.readConsignment
    split
    · exact hu
    · split
      · exact hu
      · exact hu
  | readCharge hd i =>
    refine ⟨_, rfl, h.serveLate fun u hu => ?_⟩
    unfold State.readCharge
    split
    · exact hu
    · exact hu
  | readQueueQueue hd ok => exact ⟨_, rfl, h.serveLate fun u hu => hu.check _ _ fun _ => hu⟩
  | readQueueEngine hd ok => exact ⟨_, rfl, h.serveLate fun u hu => hu.check _ _ fun _ => hu⟩
  | readQueuePickup hd ok i =>
    refine ⟨_, rfl, h.serveLate fun u hu => hu.check _ _ fun _ => ?_⟩
    split
    · exact hu
    · exact hu
  | readQueueLists hd ok => exact ⟨_, rfl, h.serveLate fun u hu => hu.check _ _ fun _ => hu⟩
  | readClock hd => exact ⟨_, rfl, h.serveLate fun u hu => hu⟩
  | unknownRequestCode hd code => exact ⟨_, rfl, h.serveLate fun u hu => hu⟩
  | frameDiscarded p =>
    refine ⟨_, rfl, ?_⟩
    unfold State.discardFrame
    split
    · exact h.onPort ..
    · exact h
  | frameGapTimeout p =>
    refine ⟨_, rfl, ?_⟩
    unfold State.discardFrame
    split
    · exact h.onPort ..
    · exact h
  | responseSent p =>
    refine ⟨_, rfl, ?_⟩
    split
    · exact h.onPort ..
    · exact h
  | armingEnd col =>
    refine ⟨_, rfl, h.event fun u hu => ?_⟩
    unfold State.armingEnds
    split
    · split
      · exact hu.setColumn ..
      · exact hu
    all_goals exact hu
  | pulseGood col x => exact ⟨_, rfl, h.event fun u hu => (hu.latch x).pulseEnds _ _ _ (hu.latch x).pulseGoodEnd⟩
  | pulseOpenCoil col x => exact ⟨_, rfl, h.event fun u hu => (hu.latch x).pulseEnds _ _ _ (hu.latch x).pulseOpenEnd⟩
  | pulseShort col x =>
    refine ⟨_, rfl, h.event fun u hu => (hu.latch x).pulseEnds _ _ _ fun e => ?_⟩
    unfold State.shortEnd
    split
    · exact (hu.latch x).pulseShortEnd e
    · exact (hu.latch x).pulseShortEnd e
    · exact (hu.latch x).testPulseEnd ..
  | testPulseEnd col o x =>
    exact ⟨_, rfl, h.event fun u hu => (hu.latch x).pulseEnds _ _ _ fun e => (hu.latch x).testPulseEnd e o⟩
  | runWindowEnd col x =>
    refine ⟨_, rfl, h.event fun u hu => ?_⟩
    unfold State.runWindowEnds
    split
    · exact (hu.latch x).disarm _
    · exact (hu.latch x).putColumn ..
    all_goals exact hu.latch x
  | recoveringEnd col =>
    refine ⟨_, rfl, h.event fun u hu => ?_⟩
    unfold State.recoveringEnds
    split
    · exact hu.setColumn ..
    all_goals exact hu
  | svcKeyOn =>
    refine ⟨_, rfl, h.event fun u hu => ?_⟩
    unfold State.keyOn
    split
    · exact hu
    · exact hu.of_eq rfl rfl
  | svcKeyOff => exact ⟨_, rfl, h.event fun u hu => hu.of_eq rfl rfl⟩
  | pfailAssert => exact ⟨_, rfl, h.of_eq rfl rfl⟩
  | pfailNegate x =>
    have negated : Orderly (s.setPfail false) := h.of_eq rfl rfl
    refine ⟨_, rfl, ?_⟩
    unfold State.pfailNegated
    split
    · exact negated.event fun u hu => hu.markArbiter
    · exact negated.tryStart x
  | mainsFall => exact ⟨_, rfl, Orderly.tryStop (h.of_eq rfl rfl)⟩
  | mainsReturn x =>
    refine ⟨_, rfl, ?_⟩
    unfold State.mainsReturns
    split
    · exact h
    · refine Orderly.tryStart (Orderly.of_eq h ?_ ?_) x
      · rfl
      · rfl
  | resetAssert => exact ⟨_, rfl, Orderly.tryStop (h.of_eq rfl rfl)⟩
  | resetRelease x =>
    refine ⟨_, rfl, ?_⟩
    unfold State.resetReleased
    split
    · refine Orderly.tryStart (Orderly.of_eq h ?_ ?_) x
      · rfl
      · rfl
    · exact h
  | retentionLoss => exact ⟨_, rfl, h.of_eq rfl rfl⟩
  | custodyTick =>
    have minute : ∀ k, Orderly { s with clock := k } := fun _ => h.of_eq rfl rfl
    refine ⟨_, rfl, ?_⟩
    unfold State.custodyTicks
    dsimp only
    split
    · split
      · exact (minute _).begin.overstayScan.complete
      · exact minute _
    · exact minute _
  | chargeExpiry i => exact ⟨_, rfl, h.event fun u hu => hu.expireCharge i⟩
  | lockoutEnd =>
    refine ⟨_, rfl, h.event fun u hu => ?_⟩
    unfold State.lockoutEnds
    split
    · exact hu.of_eq rfl rfl
    · exact hu
  | sweepStart => exact ⟨_, rfl, h.event fun u hu => hu.of_eq rfl rfl⟩
  | sweepColumnStep x => exact ⟨_, rfl, h.event fun u hu => (hu.latch x).sweepStep⟩
  | openWindowEnd c => exact ⟨_, rfl, h.event fun u hu => hu.windowEnds c⟩
  | ajarTimerEnd c => exact ⟨_, rfl, h.event fun u hu => hu.ajarEnds c⟩

/-- A crystal cycle changes no custody entry, record or carrier (R189). -/
theorem Orderly.tick (h : Orderly s) : Orderly s.tick := by
  unfold State.tick
  dsimp only
  split
  · exact h.of_eq rfl rfl
  · exact h.of_eq rfl rfl

/-- Settles O28, from the order of the custody table through each shared operation and each command. -/
theorem stepsKeepCustodyTable : Obligations.StepsKeepCustodyTable := by
  unfold Obligations.StepsKeepCustodyTable
  intro s t h ht
  have order := (orderly_iff s).mpr h
  refine (orderly_iff t).mp ?_
  unfold step at ht
  split at ht
  · cases ht
    exact order.tick
  · rename_i c rest _
    have waiting : Orderly { s with pending := rest } := order.of_eq rfl rfl
    obtain ⟨u, hu, kept⟩ := waiting.exec c
    cases ht.symm.trans hu
    exact kept

end Sys2Proof.Machine
end

section
/-! SUPPORT. The state after reset is in order. -/

namespace Sys2Proof.Machine

theorem reset_charge (i : ChargeSlot) : State.reset.charge i = ChargeRecord.blank := Vector.getElem_replicate ..

theorem reset_record (n : RecordNo) : State.reset.record n = none := Vector.getElem_replicate ..

/-- The table after a cold start has no holding and no consignment. -/
theorem reset_custodyInOrder : State.reset.CustodyInOrder := by
  refine (orderly_iff _).mp (Orderly.cold (fun c => ?_) reset_record rfl fun i => ?_)
  · exact Vector.getElem_replicate ..
  · exact congrArg CarrierEntry.live (Vector.getElem_replicate ..)

/-- Every charge record is FREE after reset, and no consignment names one. -/
theorem reset_chargesInOrder : State.reset.ChargesInOrder := by
  refine ⟨fun i => ⟨?_, ?_⟩, List.nodup_nil, fun i => ?_, fun _ => ⟨?_, ?_⟩⟩
  · rw [reset_charge]
    decide
  · rw [show State.reset.charges.gens.get i = 0 from Vector.getElem_replicate ..]
    decide
  · rw [reset_charge]
    decide +revert
  · intro n k hk
    simp [reset_record] at hk
  · intro i hi
    rw [reset_charge] at hi
    simp [ChargeRecord.blank, ChargeState.isLive] at hi

/-- No entry is in flight after reset, and nothing has been taken in. -/
theorem reset_pulsesInOrder : State.reset.PulsesInOrder := by
  have idle : State.reset.flying = [] := by decide
  refine ⟨List.nodup_nil, by simp [idle], by simp [idle], fun _ => ⟨fun _ => ?_, fun _ => rfl, fun _ => ?_⟩⟩
  · rw [idle]
    exact List.Perm.nil
  · exact ⟨rfl, rfl, rfl, rfl, rfl, fun i => congrArg ChargeRecord.state (reset_charge i)⟩

/-- Settles O9, block by block: every table is blank, and the one notice is the operations port's BACKUP_LOST. -/
theorem resetIsInOrder : Obligations.ResetIsInOrder := by
  unfold Obligations.ResetIsInOrder
  refine ⟨⟨rfl, rfl⟩, ?_, ?_, ?_, ?_, ?_, reset_custodyInOrder, reset_chargesInOrder, reset_pulsesInOrder⟩
  · intro p
    fin_cases p <;> decide
  · exact Nat.zero_le _
  · exact List.nodup_nil
  · exact ⟨by decide, by decide, by decide⟩
  · exact ⟨by decide, by decide⟩

end Sys2Proof.Machine
end

section
/-! SUPPORT. What a request that passes its frame's checks answers, said once for the statements about one request: the
checks of a block that pass or fail, the operands that name what exists, and the responses of refusals and of reads. -/

namespace Sys2Proof.Machine

variable {s t : State} {hd : Head} {code : Byte} {role : Role} {n : Nat} {body : State → State × Answer}

/-- A refusal carries no late field. -/
theorem serveLate_refuses {carried : Role → Bool} {late : State → List Field} {r : Reason} {fields : List Field}
    (hp : s.FramePasses hd role n) (hc : carried role = true) (ht : t.Settled)
    (hb : body (s.frameTaken hd.port) = (t.frameTaken hd.port, refuseWith r fields)) :
    s.serveLate hd code carried n late body = t.refusedWith hd code r fields := by
  rw [serveLate_passes hp hc]
  unfold State.takeRequest
  rw [hb]
  dsimp only
  rw [complete_settled_id (s := t.frameTaken hd.port) ht]
  rfl

theorem serve_refuses {carried : Role → Bool} {r : Reason} {fields : List Field} (hp : s.FramePasses hd role n)
    (hc : carried role = true) (ht : t.Settled)
    (hb : body (s.frameTaken hd.port) = (t.frameTaken hd.port, refuseWith r fields)) :
    s.serve hd code carried n body = t.refusedWith hd code r fields :=
  serveLate_refuses hp hc ht hb

theorem serve_done {carried : Role → Bool} {fields : List Field} (hp : s.FramePasses hd role n)
    (hc : carried role = true) (ht : t.Settled)
    (hb : body (s.frameTaken hd.port) = (t.frameTaken hd.port, done fields)) :
    s.serve hd code carried n body = t.answeredDone hd code fields :=
  serve_answers hp hc hb ht

/-- An event in a running part (log 10). -/
theorem exec_event {i : Instr} {f : State → State} (hi : exec i s = .next (s.event f)) (hr : s.Running)
    (hf : f s = t) : exec i s = .next t.complete := by
  rw [hi, event_running hr, hf]

theorem exec_event_quiet {i : Instr} {f : State → State} (hi : exec i s = .next (s.event f)) (hr : s.Running)
    (hf : f s = t) (ht : t.Settled) : exec i s = .next t := by
  rw [exec_event hi hr hf, complete_settled_id ht]

@[simp] theorem check_true (r : Reason) (b : State × Answer) : s.check true r b = b := rfl

@[simp] theorem check_false (r : Reason) (b : State × Answer) : s.check false r b = s.refuses r := rfl

theorem check_passes {ok : Bool} (r : Reason) (b : State × Answer) (h : ok = true) : s.check ok r b = b := by
  rw [h, check_true]

theorem check_fails {ok : Bool} (r : Reason) (b : State × Answer) (h : ok = false) :
    s.check ok r b = s.refuses r := by
  rw [h, check_false]

theorem guarded_restoring (b : State × Answer) (h : s.power.restoring = true) : s.guarded b = s.refuses .notReady := by
  simp [State.guarded, State.unlessRestoring, h]

theorem guarded_uncommissioned (b : State × Answer) (h : s.power.restoring = false) (hf : s.anyFitted = false) :
    s.guarded b = s.refuses .uncommissioned := by
  simp [State.guarded, State.unlessRestoring, State.unlessUncommissioned, h, hf]

theorem codeRecord_of {r : RecordNo} {k : Consignment} (hr : s.findCode n = some r) (hk : s.record r = some k) :
    s.codeRecord n = some (r, k) := by
  simp [State.codeRecord, hr, hk]

@[simp] theorem withComp_val (c : Comp) (f : Comp → State × Answer) : s.withComp c.val f = f c := by
  simp [State.withComp]

@[simp] theorem withSlot_val (i : RingSlot) (f : RingSlot → State × Answer) : s.withSlot i.val f = f i := by
  simp [State.withSlot]

/-- A known code outside a lockout (R34, R35). -/
theorem withCode_known {text : Text} {r : RecordNo} {k : Consignment}
    (f : State → RecordNo → Consignment → State × Answer) (hc : parseCode text = some n)
    (hl : s.limiter.lockout = none) (hr : s.findCode n = some r) (hk : s.record r = some k) :
    s.withCode text f = f s.knownAttempt r k := by
  simp [State.withCode, hc, hl, codeRecord_of hr hk]

@[simp] theorem condAt_condZip {α β γ : Type} (f : α → β → γ) (a : PerCond α) (b : PerCond β) (q : Condition) :
    condAt (condZip f a b) q = f (condAt a q) (condAt b q) := by
  cases q <;> rfl

end Sys2Proof.Machine
end

section
/-! SUPPORT. Lookup, Quote and Collect of a known code. -/

namespace Sys2Proof.Machine

variable {s t : State} {hd : Head} {n : Nat} {r : RecordNo} {k : Consignment} {text : Text}

/-- What a request of the console that passes its frame's checks and names a known code finds. -/
structure KnownCode (hd : Head) (text : Text) (r : RecordNo) (k : Consignment) (s : State) : Prop where
  frame : s.FramePasses hd .console 8
  service : s.InService
  code : ∃ n, parseCode text = some n ∧ s.findCode n = some r
  unlocked : s.limiter.lockout = none
  record : s.record r = some k

/-- A request on a known code is its block's, with the limiter's count at 0 (R35). -/
theorem KnownCode.served (h : KnownCode hd text r k s) {code : Byte} {a : Answer}
    {f : State → RecordNo → Consignment → State × Answer} (hf : f (s.knownAttempt.frameTaken hd.port) r k = (t, a)) :
    s.serve hd code (only .console) 8 (fun u => u.guarded (u.withCode text f)) = t.complete.respond hd code a := by
  obtain ⟨n, parsed, found⟩ := h.code
  refine serve_completes h.frame rfl ?_
  rw [guarded_passes (s := s.frameTaken hd.port) h.service,
    withCode_known (s := s.frameTaken hd.port) f parsed h.unlocked found h.record]
  exact hf

/-- A request on a known code that changes nothing with consequences. -/
theorem KnownCode.answered (h : KnownCode hd text r k s) {code : Byte} {a : Answer}
    {f : State → RecordNo → Consignment → State × Answer} (ht : t.Settled)
    (hf : f (s.knownAttempt.frameTaken hd.port) r k = (t.frameTaken hd.port, a)) :
    s.serve hd code (only .console) 8 (fun u => u.guarded (u.withCode text f)) =
      (t.frameTaken hd.port).respond hd code a := by
  rw [h.served hf, complete_settled_id (s := t.frameTaken hd.port) ht]

theorem lookup_known (h : KnownCode hd text r k s) :
    exec (.lookup hd text) s = .next ((s.knownAttempt.addSticky (s.evaluate k).raised).answeredDone hd 0x10#8
      [.summary (s.summary r k (s.evaluate k))]) :=
  congrArg _ (h.answered (t := s.knownAttempt.addSticky (s.evaluate k).raised) h.frame.1 rfl)

/-- A consignment's summary and what it takes from the evaluation (R11, R37, R117, R127). -/
theorem summaryOfAConsignment : Claims.SummaryOfAConsignment := by
  intro s n k ev
  refine ⟨?_, ?_, fun raised q => condAt_condZip ..⟩
  · have openRef : s.openCharge k = k.openRef.bind fun ref =>
        (s.chargeNamed ref.slot ref.gen).map fun r => (ref, r.state) := by
      unfold State.openCharge
      cases k.openRef <;> rfl
    simp only [State.summary, openRef]
    rfl
  · simp [State.collectable]

theorem lookupReadsTheConsignment_known : Claims.LookupReadsTheConsignment :=
  fun _ _ n _ _ _ frame service parsed unlocked found record =>
    lookup_known ⟨frame, service, ⟨n, parsed, found⟩, unlocked, record⟩

/-- A condition keeps its first-raised minute (R115). -/
theorem evaluationsAddToTheStickySet : Claims.EvaluationsAddToTheStickySet :=
  fun _ _ _ => ⟨condAt_condZip .., rfl, rfl⟩

/-- Settles O13, from the answer to a known code. -/
theorem lookupReadsTheConsignment : Obligations.LookupReadsTheConsignment :=
  ⟨lookupReadsTheConsignment_known, summaryOfAConsignment, evaluationsAddToTheStickySet⟩

end Sys2Proof.Machine
end

section
/-! SUPPORT. The checks of Quote and Collect in their order, and the refusals of a part that is not in service. -/

namespace Sys2Proof.Machine

variable {s t : State} {hd : Head} {n : Nat} {r : RecordNo} {k : Consignment} {text : Text}

/-! ### Quote and Collect of a known code -/

theorem quoteKnown_notReady (h : s.collectable k = false) : s.quoteKnown r k = s.refuses .notReady :=
  check_fails _ _ h

theorem quoteKnown_paying (hc : s.collectable k = true) (hp : s.openChargeIs k .presented = true) :
    s.quoteKnown r k = s.refuses .paying :=
  (check_passes _ _ hc).trans (check_fails _ _ (by rw [hp]; rfl))

/-- A Quote past its checks on the consignment (R38, R119, R129). -/
theorem quoteKnown_evaluated (hc : s.collectable k = true) (hp : s.openChargeIs k .presented = false) :
    s.quoteKnown r k =
      if (s.unmaskedOf (s.evaluate k).raised).any then
        (s.addSticky (s.evaluate k).raised).stopForConditions k (s.evaluate k) .quote
      else (s.addSticky (s.evaluate k).raised).check ((s.evaluate k).total != 0) .nothingDue
        ((s.addSticky (s.evaluate k).raised).quoteOpens r k (s.evaluate k)) :=
  (check_passes _ _ hc).trans (check_passes _ _ (by rw [hp]; rfl))

theorem collectKnown_notReady (h : s.collectable k = false) : s.collectKnown r k = s.refuses .notReady :=
  check_fails _ _ h

theorem collectKnown_paying (hc : s.collectable k = true) (hp : s.openChargeIs k .presented = true) :
    s.collectKnown r k = s.refuses .paying :=
  (check_passes _ _ hc).trans (check_fails _ _ (by rw [hp]; rfl))

/-- A Collect past its checks on the consignment (R38, R40, R119). -/
theorem collectKnown_evaluated (hc : s.collectable k = true) (hp : s.openChargeIs k .presented = false) :
    s.collectKnown r k =
      if (s.unmaskedOf (s.evaluate k).raised).any then
        (s.addSticky (s.evaluate k).raised).stopForConditions k (s.evaluate k) .collect
      else if (s.evaluate k).total ≠ 0 then
        (s.addSticky (s.evaluate k).raised,
          refuseWith .due [.u32 (s.evaluate k).dueO, .u32 (s.evaluate k).dueK, .u32 (s.evaluate k).total])
      else (s.addSticky (s.evaluate k).raised).collectClaims r k :=
  (check_passes _ _ hc).trans (check_passes _ _ (by rw [hp]; rfl))

/-- What Quote and Collect read of the consignment does not lie on a port or in the limiter. -/
theorem evaluate_attempt (p : Fin 4) : (s.knownAttempt.frameTaken p).evaluate k = s.evaluate k := rfl

theorem unmaskedOf_attempt (p : Fin 4) (raised : CondSet) :
    (s.knownAttempt.frameTaken p).unmaskedOf raised = s.unmaskedOf raised := rfl

theorem addSticky_attempt (p : Fin 4) (raised : CondSet) :
    (s.knownAttempt.frameTaken p).addSticky raised = (s.knownAttempt.addSticky raised).frameTaken p := rfl

/-- A Quote on a known code past its checks on the consignment. -/
theorem quoteKnown_attempt (p : Fin 4) (hc : s.collectable k = true) (hp : s.openChargeIs k .presented = false) :
    (s.knownAttempt.frameTaken p).quoteKnown r k =
      if (s.unmaskedOf (s.evaluate k).raised).any then
        ((s.knownAttempt.addSticky (s.evaluate k).raised).frameTaken p).stopForConditions k (s.evaluate k) .quote
      else ((s.knownAttempt.addSticky (s.evaluate k).raised).frameTaken p).check ((s.evaluate k).total != 0) .nothingDue
        (((s.knownAttempt.addSticky (s.evaluate k).raised).frameTaken p).quoteOpens r k (s.evaluate k)) := by
  rw [quoteKnown_evaluated (s := s.knownAttempt.frameTaken p) hc hp, evaluate_attempt, unmaskedOf_attempt,
    addSticky_attempt]

/-- A Collect on a known code past its checks on the consignment. -/
theorem collectKnown_attempt (p : Fin 4) (hc : s.collectable k = true) (hp : s.openChargeIs k .presented = false) :
    (s.knownAttempt.frameTaken p).collectKnown r k =
      if (s.unmaskedOf (s.evaluate k).raised).any then
        ((s.knownAttempt.addSticky (s.evaluate k).raised).frameTaken p).stopForConditions k (s.evaluate k) .collect
      else if (s.evaluate k).total ≠ 0 then
        ((s.knownAttempt.addSticky (s.evaluate k).raised).frameTaken p,
          refuseWith .due [.u32 (s.evaluate k).dueO, .u32 (s.evaluate k).dueK, .u32 (s.evaluate k).total])
      else ((s.knownAttempt.addSticky (s.evaluate k).raised).frameTaken p).collectClaims r k := by
  rw [collectKnown_evaluated (s := s.knownAttempt.frameTaken p) hc hp, evaluate_attempt, unmaskedOf_attempt,
    addSticky_attempt]

theorem quoteAndCollectChecks : Claims.QuoteAndCollectChecks := by
  intro h text n r k s frame service parsed unlocked found record ev s0 s1 u stopped
  have known : KnownCode h text r k s := ⟨frame, service, ⟨n, parsed, found⟩, unlocked, record⟩
  have quiet0 : s0.Settled := frame.1
  have quiet1 : s1.Settled := frame.1
  refine ⟨fun hc => ⟨?_, ?_⟩, fun hc hp => ⟨?_, ?_⟩, fun hc hp hu => ⟨?_, ?_⟩,
    fun hc hp hu => ⟨fun ht => ?_, fun ht => ?_⟩⟩
  · exact congrArg _ (known.answered quiet0 (quoteKnown_notReady hc))
  · exact congrArg _ (known.answered quiet0 (collectKnown_notReady hc))
  · exact congrArg _ (known.answered quiet0 (quoteKnown_paying hc hp))
  · exact congrArg _ (known.answered quiet0 (collectKnown_paying hc hp))
  · exact congrArg _ (known.served ((quoteKnown_attempt _ hc hp).trans (if_pos hu)))
  · exact congrArg _ (known.served ((collectKnown_attempt _ hc hp).trans (if_pos hu)))
  · refine congrArg _ (known.answered quiet1 ((quoteKnown_attempt _ hc hp).trans ?_))
    rw [if_neg (Bool.eq_false_iff.mp hu), check_fails _ _ (bne_eq_false_iff_eq.mpr ht)]
    rfl
  · refine congrArg _ (known.answered quiet1 ((collectKnown_attempt _ hc hp).trans ?_))
    rw [if_neg (Bool.eq_false_iff.mp hu), if_pos ht]

/-! ### The later checks -/

theorem endCharge_frameTaken (p : Fin 4) (i : ChargeSlot) (st : ChargeState) (cause : Option EndCause)
    (m : Option Nat) :
    (s.frameTaken p).endCharge i st cause m = (s.endCharge i st cause m).frameTaken p := by
  unfold State.endCharge
  rw [show (s.frameTaken p).charge i = s.charge i from rfl]
  dsimp only
  cases (s.charge i).record with
  | none => rfl
  | some n => rfl

theorem voidOpen_frameTaken (p : Fin 4) (cause : EndCause) :
    (s.frameTaken p).voidOpen k cause = (s.voidOpen k cause).frameTaken p := by
  unfold State.voidOpen
  split
  · rw [apply_ite (fun u : State => u.frameTaken p), endCharge_frameTaken]
    rfl
  · rfl

/-- A Quote whose charge finds no slot is refused (R128). -/
theorem quoteOpens_noSlot (ev : Evaluation) (h : (s.voidOpen k .requote).slotToTake = none) :
    s.quoteOpens r k ev = s.refuses .qfull := by
  simp [State.quoteOpens, h]

/-- The claim of a Collect admits a piece in HELD or OVERSTAYED (R21). -/
theorem admits_collect_iff (st : CustodyState) :
    ClaimKind.admits .collect st = true ↔ st = .held ∨ st = .overstayed := by
  cases st <;> simp [ClaimKind.admits]

/-- The first piece that is not admitted names the refusal (R22, R41). -/
theorem firstClaimRefusal_split {older younger : List Comp} {c : Comp}
    (ho : ∀ d ∈ older, s.custodyState d = .held ∨ s.custodyState d = .overstayed)
    (hc : ¬ (s.custodyState c = .held ∨ s.custodyState c = .overstayed)) :
    s.firstClaimRefusal (older ++ c :: younger) = some ((claimRefusal (s.custodyState c)).getD .notReady) := by
  have passed : older.find? (fun d => !(ClaimKind.admits .collect (s.custodyState d))) = none :=
    List.find?_eq_none.mpr fun d hd => by simpa using (admits_collect_iff _).mpr (ho d hd)
  have stops : ClaimKind.admits .collect (s.custodyState c) = false :=
    Bool.eq_false_iff.mpr fun h => hc ((admits_collect_iff _).mp h)
  simp [State.firstClaimRefusal, List.find?_append, passed, stops]

theorem firstClaimRefusal_admitted {pieces : List Comp}
    (h : ∀ c ∈ pieces, s.custodyState c = .held ∨ s.custodyState c = .overstayed) :
    s.firstClaimRefusal pieces = none := by
  have passed : pieces.find? (fun d => !(ClaimKind.admits .collect (s.custodyState d))) = none :=
    List.find?_eq_none.mpr fun d hd => by simpa using (admits_collect_iff _).mpr (h d hd)
  simp [State.firstClaimRefusal, passed]

theorem collectClaims_refused {x : Reason} (h : s.firstClaimRefusal k.pieces = some x) :
    s.collectClaims r k = s.refuses x := by
  simp [State.collectClaims, h]

/-- A Collect whose pieces are all admitted (R41). -/
theorem collectClaims_admitted (h : s.firstClaimRefusal k.pieces = none) :
    s.collectClaims r k = s.check (!(k.pieces.any s.hasEntry)) .occupied
      (s.check (decide (k.pieces.length ≤ s.queueFree)) .qfull (s.collectAccepted r k)) := by
  simp [State.collectClaims, h]

theorem laterQuoteAndCollectChecks : Claims.LaterQuoteAndCollectChecks := by
  intro h text n r k s frame service parsed unlocked found record hc hp ev hu s1 refused admits
  have known : KnownCode h text r k s := ⟨frame, service, ⟨n, parsed, found⟩, unlocked, record⟩
  have quiet : s1.Settled := frame.1
  refine ⟨fun due full => ?_, fun free => ?_⟩
  · have noSlot : (((s1.frameTaken h.port).voidOpen k .requote).slotToTake) = none := by
      rw [voidOpen_frameTaken]
      exact full
    refine congrArg _ (known.answered quiet ((quoteKnown_attempt _ hc hp).trans ?_))
    rw [if_neg (Bool.eq_false_iff.mp hu), check_passes _ _ (bne_iff_ne.mpr due), quoteOpens_noSlot _ noSlot]
    rfl
  · have answers : ∀ x, (s1.frameTaken h.port).collectClaims r k = (s1.frameTaken h.port).refuses x → refused x :=
      fun x hx => congrArg _ (known.answered quiet ((collectKnown_attempt _ hc hp).trans (by
        rw [if_neg (Bool.eq_false_iff.mp hu), if_neg (not_not.mpr free)]
        exact hx)))
    refine ⟨fun older c younger split before => ?_, fun all => ⟨fun waiting => ?_, fun clear full => ?_⟩⟩
    · have stops : ∀ x, ¬ admits c → claimRefusal (s.custodyState c) = some x → refused x := by
        intro x hn hx
        refine answers x (collectClaims_refused ?_)
        rw [split]
        exact (firstClaimRefusal_split before hn).trans (by rw [hx, Option.getD_some])
      refine ⟨fun st => stops _ ?_ ?_, fun st => stops _ ?_ ?_, fun st => stops _ ?_ ?_⟩
      · rcases st with st | st <;> simp [admits, st]
      · rcases st with st | st <;> simp [st, claimRefusal]
      all_goals simp [admits, st, claimRefusal]
    · have admitted := firstClaimRefusal_admitted (s := s1.frameTaken h.port) all
      refine answers _ ((collectClaims_admitted admitted).trans (check_fails _ _ ?_))
      obtain ⟨c, hc, entry⟩ := waiting
      simpa using ⟨c, hc, entry⟩
    · have admitted := firstClaimRefusal_admitted (s := s1.frameTaken h.port) all
      refine answers _ ((collectClaims_admitted admitted).trans ((check_passes _ _ ?_).trans (check_fails _ _ ?_)))
      · simpa using show ∀ c ∈ k.pieces, (s1.frameTaken h.port).hasEntry c = false from clear
      · have free : (s1.frameTaken h.port).queueFree = 16 - s.seq.queue.length := rfl
        have pieces : 0 < k.pieces.length := by
          unfold State.collectable at hc
          simp only [Bool.and_eq_true, Bool.not_eq_true', List.isEmpty_eq_false_iff] at hc
          exact List.length_pos_iff.mpr hc.1
        have small : ¬ k.pieces.length ≤ (s1.frameTaken h.port).queueFree := by
          rw [free]
          omega
        exact decide_eq_false small

/-! ### What an unmasked condition does -/

theorem feeConditionPiece_rest {c : Comp} (h : (s.custodyState c).isRest = true) :
    s.feeConditionPiece c = s.enterReview c .feeCondition := by
  unfold State.feeConditionPiece
  cases hc : s.custodyState c <;> simp_all [CustodyState.isRest]

theorem feeConditionPiece_review {c : Comp} (h : s.custodyState c = .review) :
    s.feeConditionPiece c = s.addCause c .feeCondition := by
  simp [State.feeConditionPiece, h]

theorem feeConditionPiece_else {c : Comp} (h : (s.custodyState c).isRest = false) (hr : s.custodyState c ≠ .review) :
    s.feeConditionPiece c = s := by
  unfold State.feeConditionPiece
  cases hc : s.custodyState c <;> simp_all [CustodyState.isRest]

theorem addCause_entry_same (c : Comp) (q : ReviewCause) (x : Holding) (h : s.holding c = some x) :
    (s.addCause c q).entry c = { s.entry c with holding := some (x.addCause q) } := by
  simp [State.addCause, h]

theorem addCause_entry_other (c d : Comp) (q : ReviewCause) (h : d ≠ c) : (s.addCause c q).entry d = s.entry d :=
  updHolding_entry_other _ _ _ _ h

theorem feeConditionPiece_entry_other (c d : Comp) (h : d ≠ c) : (s.feeConditionPiece c).entry d = s.entry d := by
  unfold State.feeConditionPiece
  split
  case h_1 | h_2 | h_3 => exact enterReview_entry_other _ _ _ _ h
  case h_4 => exact addCause_entry_other _ _ _ h
  all_goals rfl

/-- A new cause is appended while there are fewer than four (R6). -/
theorem Holding.addCause_new (x : Holding) (q : ReviewCause) (new : x.causes.contains q = false)
    (few : x.causes.length < 4) : (x.addCause q).causes = x.causes ++ [q] := by
  rw [Holding.addCause, new, decide_eq_false (by omega)]
  rfl

theorem conditionsReachThePieces : Claims.ConditionsReachThePieces := by
  refine ⟨fun s c x hx => ⟨fun rest => ?_, fun st => ?_, feeConditionPiece_else, feeConditionPiece_entry_other c,
    x.addCause_new _⟩, ?_⟩
  · rw [feeConditionPiece_rest rest]
    exact ⟨enterReview_entry_same _ _ _ _ hx, _, rfl, rfl, rfl, rfl, rfl, enterReview_ports ..⟩
  · rw [feeConditionPiece_review st]
    exact ⟨addCause_entry_same _ _ _ hx, rfl⟩
  intro s k found
  refine ⟨fun p rest hf => ?_, fun hf => ?_⟩
  · have first : (s.evaluate k).pieces.find? (fun p => (s.unmaskedOf p.raised).any) = some p := by
      rw [← List.head?_filter]
      exact congrArg List.head? hf
    simp [State.conditionComp, first]
  · have none : (s.evaluate k).pieces.find? (fun p => (s.unmaskedOf p.raised).any) = none := by
      rw [← List.head?_filter]
      exact congrArg List.head? hf
    simp [State.conditionComp, none]

/-! ### A part not in service -/

/-- A custody request is refused in RESTORING, and while no compartment is fitted (R30, R31, R193). -/
theorem serveLate_guarded {code : Byte} {role : Role} {len : Nat} {carried : Role → Bool} {late : State → List Field}
    {f : State → State × Answer} (hp : s.FramePasses hd role len) (hc : carried role = true) :
    (s.power.restoring = true →
      s.serveLate hd code carried len late (fun t => t.guarded (f t)) = s.refusedWith hd code .notReady []) ∧
    (s.power.restoring = false → s.anyFitted = false →
      s.serveLate hd code carried len late (fun t => t.guarded (f t)) = s.refusedWith hd code .uncommissioned []) :=
  ⟨fun restoring => serveLate_refuses hp hc hp.1 (guarded_restoring (s := s.frameTaken hd.port) _ restoring),
    fun running unfitted =>
      serveLate_refuses hp hc hp.1 (guarded_uncommissioned (s := s.frameTaken hd.port) _ running unfitted)⟩

/-- A request refused in RESTORING alone (R193). -/
theorem serveLate_restoring {code : Byte} {role : Role} {len : Nat} {carried : Role → Bool} {late : State → List Field}
    {f : State → State × Answer} (hp : s.FramePasses hd role len) (hc : carried role = true)
    (hr : s.power.restoring = true) :
    s.serveLate hd code carried len late (fun t => t.unlessRestoring (f t)) = s.refusedWith hd code .notReady [] :=
  serveLate_refuses hp hc hp.1 (if_pos hr)

/-- What a command answers in a part that is not in service (R30, R31, R193). -/
def RefusedOutOfService (i : Instr) (hd : Head) (code : Byte) (s : State) : Prop :=
  (s.power.restoring = true → exec i s = .next (s.refusedWith hd code .notReady [])) ∧
  (s.power.restoring = false → s.anyFitted = false → exec i s = .next (s.refusedWith hd code .uncommissioned []))

theorem refusedOutOfService_of_guarded {i : Instr} {code : Byte} {role : Role} {len : Nat} {carried : Role → Bool}
    {late : State → List Field} {f : State → State × Answer}
    (hi : exec i s = .next (s.serveLate hd code carried len late fun t => t.guarded (f t)))
    (hc : carried role = true) (hp : s.FramePasses hd role len) : RefusedOutOfService i hd code s := by
  obtain ⟨restoring, unfitted⟩ := serveLate_guarded (code := code) (late := late) (f := f) hp hc
  exact ⟨fun h => hi.trans (congrArg _ (restoring h)), fun h h' => hi.trans (congrArg _ (unfitted h h'))⟩

/-- The requests on custody are refused in order: RESTORING, then no compartment fitted (R30, R31, R193). -/
theorem notInServiceRefuses : Claims.NotInServiceRefuses := by
  intro h c col code ref n i g j z use b sel v x o s
  refine ⟨?_, fun frame => ⟨fun restoring => ?_, fun running unfitted => ?_⟩, ?_⟩
  · simp only [List.forall_mem_cons, List.not_mem_nil, false_implies, implies_true, and_true]
    have withdraw : exec (.withdrawService h c.val) s =
        .next (s.serveOps h 0x4D#8 1 fun t => t.withdrawService c) :=
      congrArg (fun f => Host.Outcome.next (s.serveOps h 0x4D#8 1 f)) (funext fun t => withComp_val c _)
    have start : exec (.start h j.val) s = .next (s.serveCourier h 0x23#8 1 fun t => t.engineStart j) :=
      congrArg (fun f => Host.Outcome.next (s.serveCourier h 0x23#8 1 f)) (funext fun t => withSlot_val j _)
    exact ⟨refusedOutOfService_of_guarded rfl rfl, refusedOutOfService_of_guarded rfl rfl,
      refusedOutOfService_of_guarded rfl rfl, refusedOutOfService_of_guarded rfl rfl,
      refusedOutOfService_of_guarded rfl rfl, refusedOutOfService_of_guarded rfl rfl,
      refusedOutOfService_of_guarded rfl rfl, refusedOutOfService_of_guarded rfl rfl,
      refusedOutOfService_of_guarded rfl rfl, refusedOutOfService_of_guarded withdraw rfl,
      refusedOutOfService_of_guarded rfl rfl, refusedOutOfService_of_guarded rfl rfl,
      refusedOutOfService_of_guarded rfl rfl, refusedOutOfService_of_guarded rfl rfl,
      refusedOutOfService_of_guarded rfl rfl, refusedOutOfService_of_guarded rfl rfl,
      refusedOutOfService_of_guarded rfl rfl, refusedOutOfService_of_guarded start rfl⟩
  · exact congrArg _ (serveLate_refuses (t := s.latch x) frame rfl frame.1
      (guarded_restoring (s := (s.latch x).frameTaken h.port) _ restoring))
  · exact congrArg _ (serveLate_refuses (t := s.latch x) frame rfl frame.1
      (guarded_uncommissioned (s := (s.latch x).frameTaken h.port) _ running unfitted))
  · simp only [List.forall_mem_cons, List.not_mem_nil, false_implies, implies_true, and_true]
    exact ⟨fun frame restoring => congrArg _ (serveLate_restoring frame rfl restoring),
      fun frame restoring => congrArg _ (serveLate_restoring frame rfl restoring),
      fun frame restoring => congrArg _ (serveLate_restoring frame rfl restoring)⟩

/-- Settles O15, from the order of the checks of Quote and Collect and the common checks of every custody request. -/
theorem requestChecks : Obligations.RequestChecks :=
  ⟨quoteAndCollectChecks, laterQuoteAndCollectChecks, conditionsReachThePieces, notInServiceRefuses⟩

end Sys2Proof.Machine
end

section
/-! SUPPORT. What the end of a charge does, and the reservation that waits on it. -/

namespace Sys2Proof.Machine

variable {s t : State}

/-! ### What the shared operations leave, by block -/

theorem setCustody_ports (c : Comp) (st : CustodyState) : (s.setCustody c st).ports = s.ports := by simp

theorem setCustody_seq (c : Comp) (st : CustodyState) : (s.setCustody c st).seq = s.seq := by simp

theorem removeHolding_ports (c : Comp) (st : CustodyState) (k : Option OosCause) :
    (s.removeHolding c st k).ports = s.ports := by simp

theorem removeHolding_engine (c : Comp) (st : CustodyState) (k : Option OosCause) :
    (s.removeHolding c st k).engine = s.engine := by simp

theorem toRest_ports (c : Comp) : (s.toRest c).ports = s.ports := by simp

theorem toRest_engine (c : Comp) : (s.toRest c).engine = s.engine := by simp

theorem outOfService_ports (c : Comp) (k : OosCause) : (s.outOfService c k).ports = s.ports := by simp

theorem outOfService_engine (c : Comp) (k : OosCause) : (s.outOfService c k).engine = s.engine := by simp

theorem reportClaim_ports (c : Comp) (e : ClaimEnd) : (s.reportClaim c e).ports = s.ports := rfl

theorem endCharge_ports (i : ChargeSlot) (st : ChargeState) (cause : Option EndCause) (paid : Option Nat) :
    (s.endCharge i st cause paid).ports = s.ports := by simp

theorem endCharge_ended (i : ChargeSlot) (st : ChargeState) (cause : Option EndCause) (paid : Option Nat) :
    (s.endCharge i st cause paid).charges.ended = s.charges.ended ++ [i] := by simp

theorem endCharge_gens (i : ChargeSlot) (st : ChargeState) (cause : Option EndCause) (paid : Option Nat) :
    (s.endCharge i st cause paid).charges.gens = s.charges.gens := by simp

/-! ### The end of a charge -/

theorem endCharge_settled (i : ChargeSlot) (st : ChargeState) (cause : Option EndCause) (paid : Option Nat) :
    (s.endCharge i st cause paid).Settled ↔ s.Settled := by
  unfold State.endCharge State.Settled
  dsimp only
  split
  · exact Iff.rfl
  · exact Iff.rfl

theorem postBoth_settled (a b : Role) (n : Notice) : (s.postBoth a b n).Settled ↔ s.Settled := by
  unfold State.postBoth State.Settled
  split
  · exact Iff.rfl
  · exact Iff.rfl

theorem endCharge_charge_same (i : ChargeSlot) (st : ChargeState) (cause : Option EndCause) (paid : Option Nat) :
    (s.endCharge i st cause paid).charge i =
      { s.charge i with state := st, cause := cause, paymentMinute := paid, expiry := 0 } := by
  rw [State.charge, (endCharge_table ..).1, put_get_same]

theorem endCharge_charge_other (i j : ChargeSlot) (st : ChargeState) (cause : Option EndCause) (paid : Option Nat)
    (h : j ≠ i) : (s.endCharge i st cause paid).charge j = s.charge j := by
  rw [State.charge, (endCharge_table ..).1, put_get_other _ _ _ _ h]
  rfl

@[simp] theorem updRecord_record_same (n : RecordNo) (f : Consignment → Consignment) :
    (s.updRecord n f).record n = (s.record n).map f := putRecord_record_same ..

theorem updRecord_record_other (n m : RecordNo) (f : Consignment → Consignment) (h : m ≠ n) :
    (s.updRecord n f).record m = s.record m := put_get_other _ _ _ _ h

/-- The charge's consignment forgets it (R127). -/
theorem endCharge_record_own {i : ChargeSlot} {n : RecordNo} (st : ChargeState) (cause : Option EndCause)
    (paid : Option Nat) (h : (s.charge i).record = some n) :
    (s.endCharge i st cause paid).record n = (s.record n).map (Consignment.forget (s.refOf i)) := by
  unfold State.endCharge
  dsimp only
  rw [h]
  exact updRecord_record_same ..

theorem endCharge_record_other {i : ChargeSlot} {n : RecordNo} (st : ChargeState) (cause : Option EndCause)
    (paid : Option Nat) (h : (s.charge i).record ≠ some n) : (s.endCharge i st cause paid).record n = s.record n := by
  unfold State.endCharge
  dsimp only
  split
  · rename_i m hm
    exact updRecord_record_other _ _ _ fun e => h (hm.trans (congrArg some e.symm))
  · rfl

theorem endCharge_entry (i : ChargeSlot) (st : ChargeState) (cause : Option EndCause) (paid : Option Nat) (c : Comp) :
    (s.endCharge i st cause paid).entry c = s.entry c := by
  simp [State.entry]

theorem openChargeIs_iff (k : Consignment) (st : ChargeState) : s.openChargeIs k st = true ↔
    ∃ ref r, k.openRef = some ref ∧ s.chargeNamed ref.slot ref.gen = some r ∧ r.state = st := by
  unfold State.openChargeIs State.openCharge
  cases k.openRef with
  | none => simp
  | some ref => cases h : s.chargeNamed ref.slot ref.gen <;> simp [h]

theorem chargesEnd : Claims.ChargesEnd := by
  refine ⟨fun s i st cause paid => ?_, fun s k cause st => ⟨openChargeIs_iff k st, fun ref href ho => ?_, fun ho => ?_⟩⟩
  · intro t
    refine ⟨endCharge_charge_same .., fun j => endCharge_charge_other i j st cause paid, endCharge_ended ..,
      endCharge_gens .., fun n k hn hk => ?_, fun m => endCharge_record_other st cause paid,
      endCharge_entry i st cause paid, endCharge_ports ..⟩
    rw [endCharge_record_own st cause paid hn, hk]
    rfl
  · unfold State.voidOpen
    rw [href]
    exact if_pos ho
  · unfold State.voidOpen
    split
    · exact if_neg (Bool.eq_false_iff.mp ho)
    · rfl

/-! ### The reservation that waits on a charge -/

/-- The reservation that waits on a consignment's payment lies in its kind, its pieces and their custody states. -/
theorem waitingReturn_congr (n : RecordNo)
    (record : (t.record n).map (fun k => (k.kind, k.pieces)) = (s.record n).map fun k => (k.kind, k.pieces))
    (entry : ∀ c, t.entry c = s.entry c) : t.waitingReturn n = s.waitingReturn n := by
  have custody : t.custodyState = s.custodyState :=
    funext fun c => congrArg CompartmentEntry.state (entry c)
  unfold State.waitingReturn
  rw [custody]
  cases hs : s.record n with
  | none =>
    rw [hs, Option.map_none, Option.map_eq_none_iff] at record
    rw [record]
  | some k =>
    obtain ⟨k', hk', same⟩ := Option.map_eq_some_iff.mp (record.trans (congrArg _ hs))
    obtain ⟨kind, pieces⟩ := Prod.mk.inj same
    simp only [hk', kind, pieces]

theorem waitingReturn_endCharge (i : ChargeSlot) (st : ChargeState) (cause : Option EndCause) (paid : Option Nat) :
    (s.endCharge i st cause paid).waitingReturn = s.waitingReturn := by
  funext n
  refine waitingReturn_congr n ?_ (endCharge_entry i st cause paid)
  by_cases h : (s.charge i).record = some n
  · rw [endCharge_record_own st cause paid h, Option.map_map]
    rfl
  · rw [endCharge_record_other st cause paid h]

theorem waitingReturn_postBoth (a b : Role) (n : Notice) : (s.postBoth a b n).waitingReturn = s.waitingReturn :=
  funext fun m => waitingReturn_congr m (by simp [State.record]) (postBoth_entry s a b n)

theorem dropForCharge_some {r : ChargeRecord} {c : Comp} (d : Detail) (h : r.record.bind s.waitingReturn = some c) :
    s.dropForCharge r d = (s.dropReserved c).post .console ((s.noteFull .returnDone c).withDetail d) := by
  simp [State.dropForCharge, h]

theorem dropForCharge_none {r : ChargeRecord} (d : Detail) (h : r.record.bind s.waitingReturn = none) :
    s.dropForCharge r d = s := by
  simp [State.dropForCharge, h]

theorem voidCharge_some {i : ChargeSlot} {c : Comp} (cause : EndCause)
    (h : (s.charge i).record.bind s.waitingReturn = some c) :
    s.voidCharge i cause = ((s.endCharge i .void (some cause) none).dropReserved c, some c) := by
  simp [State.voidCharge, h]

theorem voidCharge_none {i : ChargeSlot} (cause : EndCause) (h : (s.charge i).record.bind s.waitingReturn = none) :
    s.voidCharge i cause = (s.endCharge i .void (some cause) none, none) := by
  simp [State.voidCharge, h]

theorem reservationsOfChargesThatEnd : Claims.ReservationsOfChargesThatEnd :=
  fun _ => ⟨fun _ d => ⟨fun _ h => dropForCharge_some d h, fun h => dropForCharge_none d h⟩,
    fun _ cause => ⟨fun _ h => voidCharge_some cause h, fun h => voidCharge_none cause h⟩⟩

theorem dropReserved_entry_same {c : Comp} {x : Holding} (st : s.custodyState c = .reserved)
    (h : s.holding c = some x) :
    (s.dropReserved c).entry c = { s.entry c with state := .free, cause := none, holding := none } := by
  rw [dropReserved_reserved s c x st h]
  cases x.origin with
  | slot n => exact (reportDrop_entry ..).trans (removeHolding_entry_same _ _ _ _ x h)
  | console => exact removeHolding_entry_same _ _ _ _ x h

theorem dropReserved_entry_other (c d : Comp) (hd : d ≠ c) : (s.dropReserved c).entry d = s.entry d := by
  unfold State.dropReserved
  split
  · rename_i x _ _
    cases x.origin with
    | slot n => exact (reportDrop_entry ..).trans (removeHolding_entry_other _ _ _ _ _ hd)
    | console => exact removeHolding_entry_other _ _ _ _ _ hd
  · rfl

theorem dropReserved_ports (c : Comp) : (s.dropReserved c).ports = s.ports := by
  unfold State.dropReserved
  split
  · rename_i x _ _
    cases x.origin with
    | slot n => exact removeHolding_ports ..
    | console => exact removeHolding_ports ..
  · rfl

theorem reservationsAreDropped : Claims.ReservationsAreDropped := by
  refine fun s c => ⟨fun x st hx => ⟨dropReserved_entry_same st hx, dropReserved_entry_other c, dropReserved_ports c,
    fun n ho => ?_, fun ho => ?_⟩, dropReserved_other s c⟩
  · rw [dropReserved_reserved s c x st hx, ho]
    rfl
  · rw [dropReserved_reserved s c x st hx, ho]
    rfl

/-! ### The expiry of a charge -/

theorem isLive_iff (st : ChargeState) : st.isLive = true ↔ st = .opened ∨ st = .presented := by
  cases st <;> simp [ChargeState.isLive]

theorem liveDetail_eq (st : ChargeState) : liveDetail st = if st = .presented then .presented else .opened := by
  cases st <;> rfl

/-- Settles O24, from what the end of a charge does and where the reservation that waits on it lies. -/
theorem chargeExpiryEndsTheCharge : Obligations.ChargeExpiryEndsTheCharge := by
  refine ⟨fun i s running => ⟨fun live => ?_, fun ended => ?_, fun n k hn hk => ?_⟩, chargesEnd,
    reservationsOfChargesThatEnd, reservationsAreDropped⟩
  · have expires : exec (.chargeExpiry i) s = .next ((((s.endCharge i .expired none none).postBoth .console .payment
        (s.expiredNotice i)).dropForCharge (s.charge i) .expired).complete) :=
      exec_event rfl running (if_pos ((isLive_iff _).mpr live))
    refine ⟨expires, fun alone => ⟨?_, ?_, ?_, endCharge_ended ..⟩⟩
    · rw [expires, dropForCharge_none, complete_settled_id]
      · exact (postBoth_settled ..).mpr ((endCharge_settled ..).mpr running.1)
      · rw [waitingReturn_postBoth, waitingReturn_endCharge]
        exact alone
    · rw [endCharge_charge_same]
    · rw [endCharge_charge_same]
  · exact exec_event_quiet rfl running (if_neg (Bool.eq_false_iff.mp ended)) running.1
  · simp only [State.expiredNotice, hn, Option.bind_some, hk, liveDetail_eq]
    rfl

end Sys2Proof.Machine
end

section
/-! SUPPORT. Set Compartment, Return To Service, Amend Holding, the door timers and the OPENED event. -/

namespace Sys2Proof.Machine

variable {s t : State} {hd : Head} {c : Comp}

/-! ### Operands -/

theorem compOf_above {n : Nat} (h : 143 < n) : compOf n = none := dif_neg (by omega)

theorem withComp_above {n : Nat} (h : 143 < n) (f : Comp → State × Answer) : s.withComp n f = s.refuses .format := by
  simp [State.withComp, compOf_above h]

/-- An operations request on a compartment past the common checks. -/
theorem guarded_withComp (hi : s.InService) (c : Comp) (f : Comp → State × Answer) :
    s.guarded (s.withComp c.val f) = f c := by
  rw [guarded_passes hi, withComp_val]

theorem guarded_withComp_above {n : Nat} (hi : s.InService) (h : 143 < n) (f : Comp → State × Answer) :
    s.guarded (s.withComp n f) = s.refuses .format := by
  rw [guarded_passes hi, withComp_above h]

/-! ### Set Compartment (R2) -/

/-- No pending service entry is looked at again for a compartment that has none (R160). -/
theorem setEntry_of_not_pending (e : CompartmentEntry) (h : s.pendingFor c = false) : s.setEntry c e = s.putEntry c e :=
  if_neg fun pending => by
    have : s.pendingFor c = true := pending.2.1
    simp [h] at this

theorem fittedState_eq (st : CustodyState) (cause : Option OosCause) (fitted : Bool) : fittedState st cause fitted =
    if fitted = false then (.notFitted, none) else if st = .outOfService then (.outOfService, cause)
      else (.free, none) := by
  cases fitted
  · rfl
  · cases st <;> rfl

/-- The entry that Set Compartment writes to a compartment without a holding (R2). -/
def CompartmentEntry.fittedAs (e : CompartmentEntry) (f : Bool) (z : SizeClass) (u : UseClass) : CompartmentEntry :=
  let st : CustodyState × Option OosCause :=
    if f = false then (.notFitted, none)
    else if e.state = .outOfService then (.outOfService, e.cause) else (.free, none)
  { fitted := f, size := z, use := u, state := st.1, cause := st.2, holding := none }

theorem fitComp_empty (f : Bool) (z : SizeClass) (u : UseClass) (empty : s.holding c = none)
    (pending : s.pendingFor c = false) : s.fitComp c f z u =
      if (s.entry c).fitted = f then s.putEntry c ((s.entry c).fittedAs f z u)
      else (s.putEntry c ((s.entry c).fittedAs f z u)).setDoor c none := by
  unfold State.fitComp
  dsimp only
  rw [setEntry_of_not_pending _ pending, fittedState_eq, show (s.entry c).holding = none from empty]
  rfl

theorem setCompartment_format {n : Nat} {f : Option Bool} {z : Option SizeClass} {u : Option UseClass}
    (hr : s.power.restoring = false) (h : 143 < n ∨ f = none ∨ z = none ∨ u = none) :
    s.setCompartment n f z u = s.refuses .format := by
  unfold State.setCompartment
  rw [State.unlessRestoring, hr, if_neg (by decide)]
  split
  · rename_i hc
    rcases h with h | h | h | h
    · rw [compOf_above h] at hc
      cases hc
    all_goals cases h
  · rfl

theorem setCompartment_named (hr : s.power.restoring = false) (f : Bool) (z : SizeClass) (u : UseClass) :
    s.setCompartment c.val (some f) (some z) (some u) =
      s.check (!((s.holding c).isSome || s.hasEntry c || s.pendingFor c)) .occupied (s.fitComp c f z u, done []) := by
  unfold State.setCompartment
  rw [State.unlessRestoring, hr, if_neg (by decide), compOf_val]

/-- Settles O25, by the three answers of Set Compartment. -/
theorem setCompartmentFits : Obligations.SetCompartmentFits := by
  intro h c fitted z u s frame running run refused
  refine ⟨fun empty clear pending => ?_, fun busy => ?_, fun n f z u bad => ?_⟩
  · intro st s1
    have passes : (!((s.holding c).isSome || s.hasEntry c || s.pendingFor c)) = true := by
      simp [empty, clear, pending]
    have fits : (s.frameTaken h.port).fitComp c fitted z u =
        (if (s.entry c).fitted = fitted then s1 else s1.setDoor c none).frameTaken h.port := by
      rw [fitComp_empty (s := s.frameTaken h.port) _ _ _ empty pending,
        apply_ite (fun v : State => v.frameTaken h.port)]
      rfl
    have quiet : (if (s.entry c).fitted = fitted then s1 else s1.setDoor c none).Settled := by
      split
      · exact frame.1
      · exact frame.1
    refine congrArg _ (serve_done frame rfl quiet ?_)
    exact (setCompartment_named (s := s.frameTaken h.port) running ..).trans
      ((check_passes _ _ passes).trans (by rw [fits]))
  · have fails : (!((s.holding c).isSome || s.hasEntry c || s.pendingFor c)) = false := by
      rcases busy with busy | busy | busy
      · simp [Option.isSome_iff_ne_none.mpr busy]
      · simp [busy]
      · simp [busy]
    exact congrArg _ (serve_refuses frame rfl frame.1
      ((setCompartment_named (s := s.frameTaken h.port) running ..).trans (check_fails _ _ fails)))
  · exact congrArg _ (serve_refuses frame rfl frame.1 (setCompartment_format (s := s.frameTaken h.port) running bad))

/-! ### Return To Service (R28) -/

theorem returned_empty (h : s.holding c = none) :
    (s.returned c).entry c = { s.entry c with state := .free, cause := none } := by
  unfold State.returned
  rw [h]
  exact setEntry_entry_same ..

theorem returned_holding {x : Holding} {r : RestState} (hx : s.holding c = some x) (hr : x.rest = some r) :
    (s.returned c).entry c = { s.entry c with
      state := RestState.custody r, cause := none
      holding := some { x with causes := [], releaseInterrupted := false, claimant := none } } := by
  unfold State.returned
  rw [hx]
  dsimp only [Option.isNone_some]
  rw [if_neg (by decide), putEntry_entry_same, restore_entry_same hx hr]

/-- Settles O26, by the three checks in their order and the entry that is restored. -/
theorem returnToServiceByState : Obligations.ReturnToServiceByState := by
  intro h c s frame service
  have body := guarded_withComp (s := s.frameTaken h.port) service c (s.frameTaken h.port).returnToService
  refine ⟨fun up shut oos => ⟨?_, fun empty => ?_, fun x r hx hr => returned_holding hx hr⟩, fun down => ?_,
    fun up other => ?_, fun n hn => ?_⟩
  · refine congrArg _ (serve_completes frame rfl (body.trans ?_))
    exact (check_passes _ _ (bne_iff_ne.mpr up)).trans
      ((check_passes _ _ (beq_iff_eq.mpr shut)).trans (check_passes _ _ (beq_iff_eq.mpr oos)))
  · rw [State.custodyState, returned_empty empty]
    exact ⟨rfl, rfl⟩
  · exact congrArg _ (serve_refuses frame rfl frame.1 (body.trans (check_fails _ _ (bne_eq_false_iff_eq.mpr down))))
  · refine congrArg _ (serve_refuses frame rfl frame.1 (body.trans ((check_passes _ _ (bne_iff_ne.mpr up)).trans ?_)))
    by_cases shut : s.door c = some .shut
    · exact (check_passes _ _ (beq_iff_eq.mpr shut)).trans
        (check_fails _ _ (beq_eq_false_iff_ne.mpr (other.resolve_left fun d => d shut)))
    · exact check_fails _ _ (beq_eq_false_iff_ne.mpr shut)
  · exact congrArg _ (serve_refuses frame rfl frame.1 (guarded_withComp_above (s := s.frameTaken h.port) service hn _))

end Sys2Proof.Machine
end

section
/-! SUPPORT. Amend Holding, the door timers and the OPENED event. -/

namespace Sys2Proof.Machine

variable {s t : State} {hd : Head} {c : Comp}

/-! ### Amend Holding (R29) -/

/-- What Amend Holding asks of the fields it writes (R29). -/
def State.AmendPasses (s : State) (x : Holding) (sel : BitVec 16) (v : AmendFields) : Prop :=
  sel.toNat < 32 ∧
  (sel.getLsbD 0 = true → v.parcelRef ≠ [] ∧ v.parcelRef.length ≤ 20 ∧
    ∀ b ∈ v.parcelRef, 0x20 ≤ b.toNat ∧ b.toNat ≤ 0x7E) ∧
  (sel.getLsbD 1 = true → v.tariffClass < 4) ∧
  (sel.getLsbD 2 = true → x.depositMinute ≠ none) ∧
  (sel.getLsbD 3 = true → (v.rest = some .held ∨ v.rest = some .overstayed) ∧
    (x.rest = some .held ∨ x.rest = some .overstayed)) ∧
  (sel.getLsbD 4 = true → ∃ k, s.record x.record = some k ∧ k.kind = .delivery)

theorem amendableRest_iff (r : Option RestState) : amendableRest r = true ↔ r = some .held ∨ r = some .overstayed := by
  rcases r with _ | r
  · simp [amendableRest]
  · cases r <;> simp [amendableRest]

theorem parcelNamed_iff (p : Text) : (parcelOk p && !p.isEmpty) = true ↔
    p ≠ [] ∧ p.length ≤ 20 ∧ ∀ b ∈ p, 0x20 ≤ b.toNat ∧ b.toNat ≤ 0x7E := by
  simp [parcelOk, printable, and_comm]

theorem classOf_isSome_iff (n : Nat) : (classOf n).isSome = true ↔ n < 4 := by
  unfold classOf
  split
  · simpa
  · simp only [Option.isSome_none, Bool.false_eq_true, false_iff]
    assumption

theorem selectsOnly_iff (sel : BitVec 16) (n : Nat) : selectsOnly sel n = true ↔ sel.toNat < 2 ^ n := by
  simp [selectsOnly]

theorem amendOk_iff {x : Holding} (hx : s.holding c = some x) (sel : BitVec 16) (v : AmendFields) :
    s.amendOk c x sel v = true ↔ s.AmendPasses x sel v := by
  have consignment : s.consignment c = s.record x.record := by simp [State.consignment, hx]
  have delivery : (s.record x.record).any (fun k => k.kind == .delivery) = true ↔
      ∃ k, s.record x.record = some k ∧ k.kind = .delivery := by
    cases s.record x.record <;> simp
  have selected : ∀ (b p : Bool), (!b || p) = true ↔ (b = true → p = true) := by decide
  have minute : x.depositMinute.isSome = true ↔ x.depositMinute ≠ none := Option.isSome_iff_ne_none
  rw [State.amendOk, State.AmendPasses, consignment, Bool.and_eq_true, Bool.and_eq_true, Bool.and_eq_true,
    Bool.and_eq_true, Bool.and_eq_true, selected, selected, selected, selected, selected, selectsOnly_iff,
    parcelNamed_iff, classOf_isSome_iff, minute, Bool.and_eq_true, amendableRest_iff, amendableRest_iff, delivery]
  simp only [and_assoc]
  exact Iff.rfl

theorem State.AmendPasses.rest {x : Holding} {sel : BitVec 16} {v : AmendFields} (h : s.AmendPasses x sel v) :
    sel.getLsbD 3 = true → v.rest = some .held ∨ v.rest = some .overstayed := by
  obtain ⟨-, -, -, -, rest, -⟩ := h
  exact fun selected => (rest selected).1

theorem amendHolding_none (h : s.holding c = none) (sel : BitVec 16) (v : AmendFields) :
    s.amendHolding sel v c = s.refuses .unknown := by
  simp [State.amendHolding, h]

theorem amendHolding_some {x : Holding} (h : s.holding c = some x) (sel : BitVec 16) (v : AmendFields) :
    s.amendHolding sel v c = s.check (s.amendOk c x sel v) .format
      (s.amended c x sel v, done ((s.amended c x sel v).amendFields c)) := by
  simp [State.amendHolding, h]

/-- A written rest state moves a compartment in HELD and OVERSTAYED (R29). -/
theorem restMoves_eq (sel : BitVec 16) (v : AmendFields)
    (h : sel.getLsbD 3 = true → v.rest = some .held ∨ v.rest = some .overstayed) :
    s.restMoves c sel v =
      if sel.getLsbD 3 = true ∧ (s.custodyState c = .held ∨ s.custodyState c = .overstayed) then
        s.setCustody c (if v.rest = some .overstayed then .overstayed else .held)
      else s := by
  unfold State.restMoves
  cases hs : sel.getLsbD 3 with
  | false => simp
  | true => rcases h hs with hv | hv <;> rw [hv] <;> cases s.custodyState c <;> simp [RestState.custody]

/-- Settles O27, by the fields' checks and the two writes. -/
theorem amendHoldingWritesTheFields : Obligations.AmendHoldingWritesTheFields := by
  intro h c sel v s frame service passes
  have body := guarded_withComp (s := s.frameTaken h.port) service c ((s.frameTaken h.port).amendHolding sel v)
  refine ⟨fun x hx ok => ?_, fun empty => ?_, fun x hx bad => ?_, fun n hn => ?_, fun t y hy => ?_⟩
  · intro s1 moves s2
    have written : (s.frameTaken h.port).amended c x sel v = s2 := by
      have state : (((s.frameTaken h.port).updHolding c fun y => y.amended sel v).updRecord x.record fun k =>
          { k with cod := pick sel 4 (clampTop maxAmount v.cod) k.cod }).custodyState c = s.custodyState c :=
        Eq.trans (congrArg CompartmentEntry.state
          (updHolding_entry_same (s.frameTaken h.port) c fun y => y.amended sel v)) rfl
      unfold State.amended
      rw [restMoves_eq sel v (State.AmendPasses.rest (s := s) ok), state]
      rfl
    refine congrArg _ (serve_completes frame rfl (body.trans ?_))
    rw [amendHolding_some (s := s.frameTaken h.port) hx,
      check_passes _ _ ((amendOk_iff (s := s.frameTaken h.port) hx sel v).mpr ok), written]
  · exact congrArg _ (serve_refuses frame rfl frame.1
      (body.trans (amendHolding_none (s := s.frameTaken h.port) empty sel v)))
  · have fails : (s.frameTaken h.port).amendOk c x sel v = false :=
      Bool.eq_false_iff.mpr fun ok => bad ((amendOk_iff (s := s.frameTaken h.port) hx sel v).mp ok)
    exact congrArg _ (serve_refuses frame rfl frame.1
      (body.trans ((amendHolding_some (s := s.frameTaken h.port) hx sel v).trans (check_fails _ _ fails))))
  · exact congrArg _ (serve_refuses frame rfl frame.1 (guarded_withComp_above (s := s.frameTaken h.port) service hn _))
  · unfold State.amendFields State.consignment
    rw [hy]
    dsimp only [Option.bind_some]
    cases t.record y.record <;> rfl

/-! ### The door timers (R176, R179) -/

theorem codeForm_code_iff (n : Nat) : s.codeForm c = some (.code n) ↔ ∃ y k, s.holding c = some y ∧
    s.record y.record = some k ∧ k.kind = .delivery ∧ k.code = some n := by
  unfold State.codeForm State.form
  cases hy : s.holding c with
  | none => simp
  | some y =>
    cases hk : s.record y.record with
    | none => simp [hk]
    | some k =>
      cases kind : k.kind with
      | delivery => cases hc : k.code <;> simp [hk, kind, hc]
      | returnDrop => simp [hk, kind]

theorem codeForm_ne_record (n : RecordNo) : s.codeForm c ≠ some (.record n) := by
  unfold State.codeForm
  split
  · simp
  · simp
  · simp

theorem windowEnds_released {k : ReleaseClass} {w : Nat} (h : s.door c = some (.released k w)) :
    s.windowEnds c = (s.setDoor c (some .shut)).custodyWindowShut c k false := by
  simp [State.windowEnds, h]

theorem windowEnds_other (h : ∀ k w, s.door c ≠ some (.released k w)) : s.windowEnds c = s := by
  unfold State.windowEnds
  split
  · rename_i k w hd
    exact absurd hd (h k w)
  all_goals rfl

theorem ajarEnds_opened {k : Option ReleaseClass} {a : Nat} {p : Option Presence}
    (h : s.door c = some (.opened k a p)) : s.ajarEnds c = (s.setDoor c (some (.ajar k p))).post .operations
      { s.noteCode .ajar c with detail := k.map fun x => .word (ReleaseClass.detail x) } := by
  simp [State.ajarEnds, h]

theorem ajarEnds_other (h : ∀ k a p, s.door c ≠ some (.opened k a p)) : s.ajarEnds c = s := by
  unfold State.ajarEnds
  split
  · rename_i k a p hd
    exact absurd hd (h k a p)
  all_goals rfl

/-- Settles O29, by the door that each timer's end finds. -/
theorem doorTimersEnd : Obligations.DoorTimersEnd := by
  intro c s running
  refine ⟨fun k w hd => exec_event rfl running (windowEnds_released hd),
    fun other => exec_event_quiet rfl running (windowEnds_other other) running.1, fun k a p hd => ?_,
    codeForm_code_iff, codeForm_ne_record, fun other => exec_event_quiet rfl running (ajarEnds_other other) running.1⟩
  refine exec_event_quiet rfl running ((ajarEnds_opened hd).trans ?_) running.1
  rfl

/-! ### The OPENED event (R13, R181) -/

theorem servedBy_iff (k : ReleaseClass) : s.servedBy c k = true ↔
    k = .custody ∨ (s.holding c).any (fun x => x.claimant == some .service) = true := by
  cases k <;> simp [State.servedBy]

theorem custodyOpened_reserved {k : ReleaseClass} (st : s.custodyState c = .reserved) (hs : s.servedBy c k = true) :
    s.custodyOpened c k = s.setCustody c .loading := by
  simp [State.custodyOpened, st, hs]

theorem custodyOpened_releasing {k : ReleaseClass} (st : s.custodyState c = .releasing) (hs : s.servedBy c k = true) :
    s.custodyOpened c k = (s.updHolding c fun x => { x with releaseInterrupted := false }).setCustody c .emptying := by
  simp [State.custodyOpened, st, hs]

theorem custodyOpened_unserved {k : ReleaseClass} (hs : s.servedBy c k = false) : s.custodyOpened c k = s := by
  unfold State.custodyOpened
  rw [hs]
  cases s.custodyState c <;> rfl

theorem custodyOpened_other {k : ReleaseClass} (reserved : s.custodyState c ≠ .reserved)
    (releasing : s.custodyState c ≠ .releasing) : s.custodyOpened c k = s := by
  unfold State.custodyOpened
  split
  · exact absurd (by assumption) reserved
  · exact absurd (by assumption) releasing
  · rfl

theorem custodyOpened_entry_other {k : ReleaseClass} {d : Comp} (hd : d ≠ c) :
    (s.custodyOpened c k).entry d = s.entry d := by
  unfold State.custodyOpened
  split
  · exact setCustody_entry_other _ _ _ _ hd
  · exact (setCustody_entry_other _ _ _ _ hd).trans (updHolding_entry_other _ _ _ _ hd)
  · rfl

/-- Settles O30, by the rows of the OPENED event. -/
theorem openedEventRows : Obligations.OpenedEventRows := by
  intro s c k serves
  refine ⟨fun st hs => ?_, fun st hs => ?_, fun hs => ?_, custodyOpened_other, fun d => custodyOpened_entry_other⟩
  · rw [custodyOpened_reserved st ((servedBy_iff k).mpr hs), setCustody_entry_same]
  · rw [custodyOpened_releasing st ((servedBy_iff k).mpr hs), setCustody_entry_same, updHolding_entry_same]
  · exact custodyOpened_unserved (Bool.eq_false_iff.mpr fun h => hs ((servedBy_iff k).mp h))

end Sys2Proof.Machine
end

section
/-! SUPPORT. The reads of operations: each answers with what it reads, and changes nothing but its own port. -/

namespace Sys2Proof.Machine

variable {s t : State} {hd : Head} {c : Comp} {code : Byte} {len : Nat} {body : State → State × Answer}

/-! ### The answers and the refusals -/

/-- A read is answered with what the state holds, since a frame taken changes its port alone. -/
theorem serveOps_reads {fields : List Field} (hp : s.FramePasses hd .operations len)
    (hb : body (s.frameTaken hd.port) = (s.frameTaken hd.port, done fields)) :
    s.serveOps hd code len body = s.answeredDone hd code fields :=
  serve_done hp rfl hp.1 hb

theorem serveOps_refuses {r : Reason} (hp : s.FramePasses hd .operations len)
    (hb : body (s.frameTaken hd.port) = (s.frameTaken hd.port).refuses r) :
    s.serveOps hd code len body = s.refusedWith hd code r [] :=
  serve_refuses hp rfl hp.1 hb

theorem readConsignment_some {n : RecordNo} {k : Consignment} (h : s.record n = some k) :
    s.readConsignment n.val = (s, done (k.fields n)) := by
  simp [State.readConsignment, h]

theorem readConsignment_none {n : RecordNo} (h : s.record n = none) :
    s.readConsignment n.val = s.refuses .unknown := by
  simp [State.readConsignment, h]

theorem readConsignment_above {x : Nat} (h : 143 < x) : s.readConsignment x = s.refuses .format := by
  have none : recordOf x = none := dif_neg (by omega)
  simp [State.readConsignment, none]

theorem readCharge_val (i : ChargeSlot) : s.readCharge i.val = (s, done (s.chargeFields i)) := by
  simp [State.readCharge]

theorem readCharge_above {x : Nat} (h : 7 < x) : s.readCharge x = s.refuses .format := by
  have none : chargeSlotOf x = none := dif_neg (by omega)
  simp [State.readCharge, none]

theorem withCarrier_val (i : Fin 8) (f : Fin 8 → State × Answer) : s.withCarrier i.val f = f i := by
  simp [State.withCarrier]

theorem withCarrier_above {x : Nat} (h : 7 < x) (f : Fin 8 → State × Answer) :
    s.withCarrier x f = s.refuses .format := by
  have none : carrierOf x = none := dif_neg (by omega)
  simp [State.withCarrier, none]

theorem readTariff_class (i : Fin 4) : s.readTariff i.val =
    (s, done (classFields (s.tariff.classes.get i) ++ [.mark (unitValid (s.tariff.classes.get i).u)])) := by
  simp [State.readTariff]

theorem readTariff_above {x : Nat} (h : 4 < x) : s.readTariff x = s.refuses .format := by
  have none : classOf x = none := dif_neg (by omega)
  have other : x ≠ 4 := by omega
  simp [State.readTariff, none, other]

theorem readPickup_some {slot : Nat} {r : WindowRecord} (h : s.pickupAt slot = some r) :
    s.readPickup true slot = (s, done [.compMap r.outstanding, .compMap r.waiting]) := by
  simp [State.readPickup, h]

theorem readPickup_none {slot : Nat} (h : s.pickupAt slot = none) : s.readPickup true slot = s.refuses .unknown := by
  simp [State.readPickup, h]

theorem readsAnswerAndChangeNothing : Claims.ReadsAnswerAndChangeNothing := by
  refine fun h s => ⟨fun one => ⟨fun c => ?_, fun n k hk => ?_, fun i => ?_, fun i => ?_, fun i => ?_, ?_⟩,
    fun two => ⟨?_, ?_, ?_, fun slot r hr => ?_⟩, fun zero => ⟨?_, ?_⟩⟩
  · exact congrArg _ (serveOps_reads one (withComp_val c _))
  · exact congrArg _ (serveOps_reads one (readConsignment_some (s := s.frameTaken h.port) hk))
  · exact congrArg _ (serveOps_reads one (readCharge_val i))
  · exact congrArg _ (serveOps_reads one (withCarrier_val i _))
  · exact congrArg _ (serveOps_reads one (readTariff_class i))
  · exact congrArg _ (serveOps_reads one rfl)
  · exact congrArg _ (serveOps_reads two rfl)
  · exact congrArg _ (serveOps_reads two rfl)
  · exact congrArg _ (serveOps_reads two rfl)
  · exact congrArg _ (serveOps_reads two (readPickup_some (s := s.frameTaken h.port) hr))
  · exact congrArg _ (serveOps_reads zero rfl)
  · exact congrArg _ (serveOps_reads zero rfl)

theorem readsRefuse : Claims.ReadsRefuse := by
  refine fun h s x => ⟨fun one => ⟨fun above => ⟨?_, ?_⟩, fun n hn => ?_, fun above => ⟨?_, ?_⟩, fun above => ?_⟩,
    fun two => ⟨?_, fun none => ?_⟩⟩
  · exact congrArg _ (serveOps_refuses one (withComp_above above _))
  · exact congrArg _ (serveOps_refuses one (readConsignment_above above))
  · exact congrArg _ (serveOps_refuses one (readConsignment_none (s := s.frameTaken h.port) hn))
  · exact congrArg _ (serveOps_refuses one (readCharge_above above))
  · exact congrArg _ (serveOps_refuses one (withCarrier_above above _))
  · exact congrArg _ (serveOps_refuses one (readTariff_above above))
  · simp only [List.forall_mem_cons, List.not_mem_nil, false_implies, implies_true, and_true]
    exact ⟨congrArg _ (serveOps_refuses two rfl), congrArg _ (serveOps_refuses two rfl),
      congrArg _ (serveOps_refuses two rfl), congrArg _ (serveOps_refuses two rfl)⟩
  · exact congrArg _ (serveOps_refuses two (readPickup_none (s := s.frameTaken h.port) none))

/-! ### The fields -/

theorem compartmentIsRead : Claims.CompartmentIsRead := by
  intro s c e seconds entry holding door marks
  have doors : doorFields (s.door c) = door := by
    show doorFields (s.door c) = _
    unfold door
    cases s.door c with
    | none => rfl
    | some d => cases d <;> rfl
  have read : s.compFields c = e.fields ++ door ++ marks := by rw [← doors]; rfl
  refine ⟨fun empty => ?_, fun x hx => ?_⟩
  · rw [read, CompartmentEntry.fields, empty]
    rfl
  · have origin : originField x.origin = .u8 (match x.origin with
        | .slot n => n.val
        | .console => 32) := by
      cases x.origin <;> rfl
    rw [read, CompartmentEntry.fields, hx]
    simp only [Option.elim_some, Holding.fields, origin]
    rfl

theorem endedPosition_none {i : ChargeSlot} (h : i ∉ s.charges.ended) : s.endedPosition i = none := by
  simp only [State.endedPosition, List.findIdx?_eq_none_iff]
  intro j hj
  simpa using fun e : j = i => h (e ▸ hj)

theorem endedPosition_some {i : ChargeSlot} {older younger : List ChargeSlot}
    (h : s.charges.ended = older ++ i :: younger) (ho : i ∉ older) : s.endedPosition i = some older.length := by
  have passed : older.findIdx? (fun j => j == i) = none := by
    simp only [List.findIdx?_eq_none_iff]
    intro j hj
    simpa using fun e : j = i => ho (e ▸ hj)
  simp [State.endedPosition, h, List.findIdx?_append, passed, List.findIdx?_cons]

theorem recordsAreRead : Claims.RecordsAreRead := by
  refine ⟨fun _ _ => rfl, fun s i => ⟨fun h => ?_, fun older younger h ho => ?_⟩⟩
  · rw [State.chargeFields, endedPosition_none h]
    rfl
  · rw [State.chargeFields, endedPosition_some h ho]
    rfl

/-- The STARTED PICKUP of a window slot (R210). -/
theorem pickupAt_iff (slot : Nat) (r : WindowRecord) :
    (r.slot.val == slot && r.isStarted && r.kind == .pickup) = true ↔
      r.slot.val = slot ∧ r.outcome = none ∧ r.kind = .pickup := by
  simp [WindowRecord.isStarted, and_assoc]

theorem queuesAreRead : Claims.QueuesAreRead := by
  intro s entry record
  have entries : Entry.fields = entry := by
    funext e
    simp only [Entry.fields, entry]
    cases e.origin <;> rfl
  have records : WindowRecord.fields = record := by
    funext r
    simp only [WindowRecord.fields, record, WindowRecord.progressField, WindowRecord.isStarted,
      Option.isNone_iff_eq_none]
  refine ⟨?_, ?_, rfl, ?_⟩
  · rw [← entries]
    rfl
  · rw [← records]
    rfl
  intro slot at_
  refine ⟨fun r => ?_, ?_⟩
  · have named : ∀ q : WindowRecord, (q.slot.val == slot && q.isStarted && q.kind == .pickup) = true ↔ at_ q :=
      pickupAt_iff slot
    have unnamed : ∀ q : WindowRecord, (!(q.slot.val == slot && q.isStarted && q.kind == .pickup)) = true ↔ ¬ at_ q :=
      fun q => by rw [← named, Bool.not_eq_true']; exact Bool.eq_false_iff
    unfold State.pickupAt
    rw [List.find?_eq_some_iff_append]
    simp only [named, unnamed]
    constructor
    · rintro ⟨hr, older, younger, split, before⟩
      exact ⟨older, younger, split, hr, before⟩
    · rintro ⟨older, younger, split, hr, before⟩
      exact ⟨hr, older, younger, split, before⟩
  · unfold State.pickupAt
    rw [List.find?_eq_none]
    simp only [pickupAt_iff]
    rfl

theorem settingsAreRead : Claims.SettingsAreRead :=
  ⟨fun _ => rfl, fun _ => rfl, fun _ => rfl, fun _ => rfl⟩

/-- Settles O41, by the answers of the reads, their refusals and the fields of each record. -/
theorem reads : Obligations.Reads :=
  ⟨readsAnswerAndChangeNothing, readsRefuse, compartmentIsRead, recordsAreRead, queuesAreRead, settingsAreRead⟩

end Sys2Proof.Machine
end

section
/-! SUPPORT. What an accepted Collect claims, and the requests on return drops. -/

namespace Sys2Proof.Machine

variable {s t : State} {hd : Head} {c : Comp}

/-! ### Collect (R21, R38, R41) -/

theorem claimMakesReleasing : Claims.ClaimMakesReleasing := by
  intro s c w x hx
  have entry : (s.claim c w).entry c = { s.entry c with
      state := .releasing, holding := some { x with claimant := some w, collectIncomplete := false } } := by
    unfold State.claim
    rw [setCustody_entry_same, updHolding_entry_same, hx]
    rfl
  refine ⟨congrArg CompartmentEntry.state entry, congrArg CompartmentEntry.holding entry, fun d hd => ?_, ?_, ?_, ?_⟩
  · exact (setCustody_entry_other _ _ _ _ hd).trans (updHolding_entry_other _ _ _ _ hd)
  all_goals simp [State.claim]

theorem collectClaimsEveryPiece : Claims.CollectClaimsEveryPiece := by
  intro h text n r k s frame service parsed unlocked found record hc hp hu free all clear room s1 s2
  have known : KnownCode h text r k s := ⟨frame, service, ⟨n, parsed, found⟩, unlocked, record⟩
  have admitted : s1.firstClaimRefusal k.pieces = none := firstClaimRefusal_admitted (s := s1) all
  have noEntry : (!(k.pieces.any s1.hasEntry)) = true := by
    simpa using show ∀ c ∈ k.pieces, s1.hasEntry c = false from clear
  have fits : decide (k.pieces.length ≤ s1.queueFree) = true := by
    rw [show s1.queueFree = 16 - s.seq.queue.length from rfl]
    exact decide_eq_true (by omega)
  refine congrArg _ (known.served ((collectKnown_attempt _ hc hp).trans ?_))
  rw [if_neg (Bool.eq_false_iff.mp hu), if_neg (not_not.mpr free)]
  exact (collectClaims_admitted admitted).trans ((check_passes _ _ noEntry).trans (check_passes _ _ fits))

/-- Settles O45, from what a claim writes and the checks that an accepted Collect has passed. -/
theorem collectClaimsAndReleases : Obligations.CollectClaimsAndReleases :=
  ⟨collectClaimsEveryPiece, claimMakesReleasing⟩

/-! ### The slot that a charge takes (R128) -/

theorem firstIndex_some {α : Type} {n : Nat} {v : Vector α n} {p : α → Bool} {i : Fin n} (h : p (v.get i) = true)
    (before : ∀ j, j < i → p (v.get j) = false) : firstIndex v p = some i := by
  unfold firstIndex
  rw [List.find?_eq_some_iff_getElem]
  refine ⟨h, i.val, by simp, by simp, fun j hj => ?_⟩
  simpa using before ⟨j, hj.trans i.isLt⟩ hj

theorem firstIndex_none {α : Type} {n : Nat} {v : Vector α n} {p : α → Bool} (h : ∀ i, p (v.get i) = false) :
    firstIndex v p = none := by
  unfold firstIndex
  rw [List.find?_eq_none]
  intro i _
  simp [h i]

theorem slotToTake_first {i : ChargeSlot} (h : (s.charge i).state = .free)
    (before : ∀ j, j < i → (s.charge j).state ≠ .free) : s.slotToTake = some i := by
  unfold State.slotToTake
  rw [firstIndex_some (p := fun r : ChargeRecord => r.state == .free) (beq_iff_eq.mpr h)
    fun j hj => beq_eq_false_iff_ne.mpr (before j hj)]

theorem slotToTake_ended (h : ∀ i, (s.charge i).state ≠ .free) : s.slotToTake = s.charges.ended.head? := by
  unfold State.slotToTake
  rw [firstIndex_none (p := fun r : ChargeRecord => r.state == .free) fun i => beq_eq_false_iff_ne.mpr (h i)]

theorem slotToTake_congr (h : t.charges = s.charges) : t.slotToTake = s.slotToTake := by
  unfold State.slotToTake
  rw [h]

/-! ### Return Begin (R43 to R45) -/

theorem returnIsCommitted : Claims.ReturnIsCommitted := by
  intro s n i c z ref t e lanes
  have reserved : t = ((s.putRecord n (some
      { code := none, kind := .returnDrop, carrier := i, pieces := [c], cod := 0, laneO := lanes.1, laneK := lanes.2,
        paidO := 0, paidK := 0, paidThrough := none, waived := false, openRef := none })).reserve c
      (Holding.fresh n ref z e.tariffClass .console)).raiseLive i 1 := rfl
  refine ⟨?_, fun m hm => ?_, ?_, ?_, fun d hd => ?_, ?_, fun j hj => ?_, ?_, ?_, ?_⟩
  all_goals rw [reserved]
  · simp [State.raiseLive, State.reserve, State.record, State.putRecord]
  · simp [State.raiseLive, State.reserve, State.record, State.putRecord, put_get_other _ _ _ _ hm]
  · simp [State.raiseLive, State.reserve]
    rfl
  · exact setEntry_entry_same ..
  · exact setEntry_entry_other _ _ _ _ hd
  · simp [State.raiseLive, State.reserve, e]
  · simp [State.raiseLive, State.reserve, put_get_other _ _ _ _ hj]
  all_goals simp [State.raiseLive, State.reserve]

theorem returnBegin_format {id : Nat} {z : SizeClass} {ref : Text} (h : parcelOk ref = false) :
    s.returnBegin id (some z) ref = s.refuses .format :=
  check_fails _ _ h

theorem returnBegin_unmatched {id : Nat} {z : SizeClass} {ref : Text} (h : parcelOk ref = true)
    (hm : s.matchCarrier id = .notPermitted ∨ s.matchCarrier id = .unknown) :
    s.returnBegin id (some z) ref = s.refuses .unknown := by
  refine (check_passes _ _ h).trans ?_
  rcases hm with hm | hm <;> rw [hm]

theorem returnBegin_matched {id : Nat} {z : SizeClass} {ref : Text} {i : Fin 8} (h : parcelOk ref = true)
    (hm : s.matchCarrier id = .found i) : s.returnBegin id (some z) ref = s.returnMatched i z (parcelOf ref) := by
  refine (check_passes _ _ h).trans ?_
  rw [hm]

/-- A carrier's Return Begin past the checks on the carrier (R43). -/
theorem returnMatched_admitted {i : Fin 8} {z : SizeClass} {ref : Option Text}
    (right : (s.carriers.get i).rights.acceptReturns = true) (size : sizeAt (s.carriers.get i).sizes z = true)
    (quota : s.quotaAdmits i 1 = true) : s.returnMatched i z ref =
      match s.placeOne .returnDrop z [], s.freeRecord with
      | some c, some n => s.check (s.returnRoom i z) .qfull (s.returnAccepted i c z ref n)
      | none, _ | some _, none => s.refuses .noSpace :=
  (check_passes _ _ right).trans ((check_passes _ _ size).trans (check_passes _ _ quota))

theorem returnMatched_placed {i : Fin 8} {z : SizeClass} {ref : Option Text} {n : RecordNo}
    (right : (s.carriers.get i).rights.acceptReturns = true) (size : sizeAt (s.carriers.get i).sizes z = true)
    (quota : s.quotaAdmits i 1 = true) (place : s.placeOne .returnDrop z [] = some c) (free : s.freeRecord = some n) :
    s.returnMatched i z ref = s.check (s.returnRoom i z) .qfull (s.returnAccepted i c z ref n) := by
  rw [returnMatched_admitted right size quota, place, free]

theorem returnMatched_noSpace {i : Fin 8} {z : SizeClass} {ref : Option Text}
    (right : (s.carriers.get i).rights.acceptReturns = true) (size : sizeAt (s.carriers.get i).sizes z = true)
    (quota : s.quotaAdmits i 1 = true) (place : s.placeOne .returnDrop z [] = none) :
    s.returnMatched i z ref = s.refuses .noSpace := by
  rw [returnMatched_admitted right size quota, place]

/-- The room that a return without a fee and one with a fee ask for (R43). -/
theorem returnRoom_free {i : Fin 8} {z : SizeClass} (h : (s.returnFee i z).1 + (s.returnFee i z).2 = 0) :
    s.returnRoom i z = decide (s.seq.queue.length < 16) := by
  rw [State.returnRoom, if_pos h, show s.queueFree = 16 - s.seq.queue.length from rfl]
  exact decide_eq_decide.mpr Nat.sub_pos_iff_lt

theorem returnRoom_fee {i : Fin 8} {z : SizeClass} (h : (s.returnFee i z).1 + (s.returnFee i z).2 ≠ 0) :
    s.returnRoom i z = s.slotToTake.isSome := if_neg h

theorem returnAccepted_free {i : Fin 8} {z : SizeClass} {ref : Option Text} {n : RecordNo}
    (h : (s.returnFee i z).1 + (s.returnFee i z).2 = 0) : s.returnAccepted i c z ref n =
      ((s.commitReturn n i c z ref).request (returnEntry c),
        accepted [.u8 c.val, .u8 n.val, .u32 (s.returnFee i z).1, .u32 (s.returnFee i z).2, .optRef none]) := if_pos h

theorem openIn_refOf (j : ChargeSlot) (n : RecordNo) (laneO laneK : Nat) :
    (s.openIn j n laneO laneK).refOf j = { slot := j, gen := nextGen (s.charges.gens.get j) } := by
  show ChargeRef.mk j ((put s.charges.gens j (nextGen (s.charges.gens.get j))).get j) = _
  rw [put_get_same]

theorem returnAccepted_fee {i : Fin 8} {z : SizeClass} {ref : Option Text} {n : RecordNo} {j : ChargeSlot}
    (h : (s.returnFee i z).1 + (s.returnFee i z).2 ≠ 0) (slot : s.slotToTake = some j) :
    s.returnAccepted i c z ref n =
      ((s.commitReturn n i c z ref).openIn j n (s.returnFee i z).1 (s.returnFee i z).2,
        accepted [.u8 c.val, .u8 n.val, .u32 (s.returnFee i z).1, .u32 (s.returnFee i z).2,
          .optRef (some { slot := j, gen := nextGen (s.charges.gens.get j) })]) := by
  obtain ⟨-, -, -, -, -, -, -, charges, -, -⟩ := returnIsCommitted s n i c z ref
  have taken : (s.commitReturn n i c z ref).slotToTake = some j := (slotToTake_congr charges).trans slot
  refine (if_neg h).trans ?_
  rw [taken]
  dsimp only
  rw [openIn_refOf, charges]
  rfl

theorem returnBeginCommitsTheDrop : Claims.ReturnBeginCommitsTheDrop := by
  intro h id z ref i c n s frame service parcel carrier right size quota place free lanes s1
  have body := (guarded_passes (s := s.frameTaken h.port) service).trans
    ((returnBegin_matched (s := s.frameTaken h.port) parcel carrier).trans
      (returnMatched_placed (s := s.frameTaken h.port) (z := z) right size quota place free))
  refine ⟨fun noFee room => ?_, fun j fee slot => ?_⟩
  · refine congrArg _ (serve_completes frame rfl (body.trans ((check_passes _ _ ?_).trans (returnAccepted_free noFee))))
    exact (returnRoom_free (s := s.frameTaken h.port) noFee).trans (decide_eq_true room)
  · refine congrArg _ (serve_completes frame rfl
      (body.trans ((check_passes _ _ ?_).trans (returnAccepted_fee fee slot))))
    exact (returnRoom_fee (s := s.frameTaken h.port) fee).trans (Option.isSome_of_eq_some slot)

theorem returnBeginRefuses : Claims.ReturnBeginRefuses := by
  refine ⟨?_, fun s => ⟨fun i => slotToTake_first, slotToTake_ended⟩⟩
  intro h id z ref s frame service refused
  have answers : ∀ size r, (s.frameTaken h.port).returnBegin id size ref = (s.frameTaken h.port).refuses r →
      refused size r := fun size r hb =>
    congrArg _ (serve_refuses frame rfl frame.1 ((guarded_passes (s := s.frameTaken h.port) service).trans hb))
  refine ⟨answers _ _ rfl, fun bad => answers _ _ (returnBegin_format bad), fun parcel =>
    ⟨fun unmatched => answers _ _ (returnBegin_unmatched parcel unmatched), ?_⟩⟩
  intro i carrier e lanes
  have matched : ∀ r, (s.frameTaken h.port).returnMatched i z (parcelOf ref) = (s.frameTaken h.port).refuses r →
      refused (some z) r := fun r hb =>
    answers _ _ ((returnBegin_matched (s := s.frameTaken h.port) parcel carrier).trans hb)
  refine ⟨fun noRight => matched _ (check_fails _ _ noRight), fun right => ⟨fun noSize => matched _
    ((check_passes _ _ right).trans (check_fails _ _ noSize)), fun size =>
    ⟨fun exceeds => matched _ ?_, fun within => ?_⟩⟩⟩
  · exact (check_passes _ _ right).trans ((check_passes _ _ size).trans
      (check_fails _ _ (decide_eq_false (Nat.not_le.mpr exceeds))))
  · have quota : (s.frameTaken h.port).quotaAdmits i 1 = true := decide_eq_true within
    refine ⟨fun none => matched _ (returnMatched_noSpace (s := s.frameTaken h.port) right size quota none),
      fun c n place free => ⟨fun noFee full => matched _ ?_, fun fee none => matched _ ?_⟩⟩
    · refine (returnMatched_placed (s := s.frameTaken h.port) right size quota place free).trans (check_fails _ _ ?_)
      exact (returnRoom_free (s := s.frameTaken h.port) noFee).trans (decide_eq_false (Nat.not_lt.mpr full))
    · refine (returnMatched_placed (s := s.frameTaken h.port) right size quota place free).trans (check_fails _ _ ?_)
      exact (returnRoom_fee (s := s.frameTaken h.port) fee).trans
        (Option.isSome_eq_false_iff.mpr (Option.isNone_iff_eq_none.mpr none))

/-! ### Return Cancel (R48) -/

/-- A Return Cancel that passes the common checks. -/
theorem returnCancel_served {record : Nat} {x : Sense} {a : Answer} (frame : s.FramePasses hd .console 1)
    (service : s.InService) (hb : ((s.latch x).frameTaken hd.port).returnCancel record = (t, a)) :
    exec (.returnCancel hd record x) s = .next (t.complete.respond hd 0x15#8 a) :=
  congrArg _ (serve_completes frame rfl ((guarded_passes (s := (s.latch x).frameTaken hd.port) service).trans hb))

theorem returnCancel_refused {record : Nat} {x : Sense} {r : Reason} (frame : s.FramePasses hd .console 1)
    (service : s.InService) (hb : ((s.latch x).frameTaken hd.port).returnCancel record =
      ((s.latch x).frameTaken hd.port).refuses r) :
    exec (.returnCancel hd record x) s = .next ((s.latch x).refusedWith hd 0x15#8 r []) := by
  rw [returnCancel_served frame service hb, complete_settled_id (s := (s.latch x).frameTaken hd.port) frame.1]
  rfl

/-- Return Cancel of a return, by its piece (R48). -/
theorem returnCancel_return {n : RecordNo} {k : Consignment} {rest : List Comp} (hk : s.record n = some k)
    (kind : k.kind = .returnDrop) (pieces : k.pieces = c :: rest) : s.returnCancel n.val =
      s.check (s.custodyState c == .reserved) .notReady (s.check (!(s.entryInFlight c)) .occupied
        (s.check (!(s.returnPaying k)) .paying (s.returnCancelled k c))) := by
  simp [State.returnCancel, hk, kind, State.returnCancelOf, pieces]

theorem returnCancelDropsTheReservation : Claims.ReturnCancelDropsTheReservation := by
  intro h n x k c rest s frame service hk kind pieces st
  have body := (returnCancel_return (s := (s.latch x).frameTaken h.port) hk kind pieces).trans
    (check_passes _ _ (beq_iff_eq.mpr st))
  refine ⟨fun landed unpaid => ?_, fun flying => ?_, fun landed paying => ?_⟩
  · exact returnCancel_served frame service (body.trans ((check_passes _ _ (congrArg not landed)).trans
      (check_passes _ _ (congrArg not unpaid))))
  · exact returnCancel_refused frame service (body.trans (check_fails _ _ (congrArg not flying)))
  · exact returnCancel_refused frame service (body.trans ((check_passes _ _ (congrArg not landed)).trans
      (check_fails _ _ (congrArg not paying))))

theorem returnCancelRefuses : Claims.ReturnCancelRefuses := by
  intro h x s frame service refused
  refine ⟨fun n above => returnCancel_refused frame service ?_, fun n none => returnCancel_refused frame service ?_,
    fun n k hk kind => returnCancel_refused frame service ?_, fun n k c rest hk kind pieces st =>
      returnCancel_refused frame service ?_⟩
  · have none : recordOf n = none := dif_neg (by omega)
    simp [State.returnCancel, none]
  · have unused : ((s.latch x).frameTaken h.port).record n = Option.none := none
    simp [State.returnCancel, unused]
  · have used : ((s.latch x).frameTaken h.port).record n = some k := hk
    simp [State.returnCancel, used, kind]
  · exact (returnCancel_return (s := (s.latch x).frameTaken h.port) hk kind pieces).trans
      (check_fails _ _ (beq_eq_false_iff_ne.mpr st))

/-- Settles O46, from the commitment of a return drop and the checks of Return Begin and Return Cancel in their
order. -/
theorem returnDrops : Obligations.ReturnDrops :=
  ⟨returnBeginCommitsTheDrop, returnIsCommitted, returnBeginRefuses, returnCancelDropsTheReservation,
    returnCancelRefuses⟩

end Sys2Proof.Machine
end

section
/-! SUPPORT. Withhold Compartment and Resolve Review, and the entries into REVIEW, OUT_OF_SERVICE and rest. -/

namespace Sys2Proof.Machine

variable {s t : State} {hd : Head} {c : Comp}

/-- The rest states (R3). -/
theorem isRest_iff (st : CustodyState) : st.isRest = true ↔ st = .held ∨ st = .overstayed ∨ st = .returnHeld := by
  cases st <;> simp [CustodyState.isRest]

/-! ### Withhold Compartment (R26) -/

/-- A Withhold with a target of its set on a compartment, past the common checks. -/
theorem guarded_withhold (hi : s.InService) (c : Comp) (f : Comp → State × Answer) :
    s.guarded (s.check true .format (s.withComp c.val f)) = f c :=
  guarded_withComp hi c f

theorem withholdReview_none (h : s.holding c = none) : s.withholdReview c = s.refuses .unknown := by
  simp [State.withholdReview, h]

theorem withholdReview_rest (h : (s.holding c).isSome = true) (st : (s.custodyState c).isRest = true) :
    s.withholdReview c = (s.enterReview c .operator, done []) := by
  have present : (s.holding c).isNone = false := Option.isNone_eq_false_iff.mpr h
  rw [State.withholdReview, present]
  rcases (isRest_iff _).mp st with st | st | st <;> rw [st] <;> rfl

theorem withholdReview_review (h : (s.holding c).isSome = true) (st : s.custodyState c = .review) :
    s.withholdReview c = (s.addCause c .operator, done []) := by
  rw [State.withholdReview, Option.isNone_eq_false_iff.mpr h, st]
  rfl

theorem withholdReview_occupied (h : (s.holding c).isSome = true)
    (st : s.custodyState c = .reserved ∨ s.custodyState c = .loading) :
    s.withholdReview c = s.refuses .occupied := by
  rw [State.withholdReview, Option.isNone_eq_false_iff.mpr h]
  rcases st with st | st <;> rw [st] <;> rfl

theorem withholdReview_claimed (h : (s.holding c).isSome = true)
    (st : s.custodyState c = .releasing ∨ s.custodyState c = .emptying) :
    s.withholdReview c = s.refuses .claimed := by
  rw [State.withholdReview, Option.isNone_eq_false_iff.mpr h]
  rcases st with st | st <;> rw [st] <;> rfl

theorem withholdReview_outOfService (h : (s.holding c).isSome = true) (st : s.custodyState c = .outOfService) :
    s.withholdReview c = s.refuses .outOfService := by
  rw [State.withholdReview, Option.isNone_eq_false_iff.mpr h, st]
  rfl

theorem withholdOos_taken
    (st : (s.custodyState c).isRest = true ∨ s.custodyState c = .free ∨ s.custodyState c = .review) :
    s.withholdOos c = (s.outOfService c .operator, done []) := by
  rw [isRest_iff] at st
  rw [State.withholdOos]
  rcases st with (st | st | st) | st | st <;> rw [st]

theorem withholdOos_occupied (st : s.custodyState c = .reserved ∨ s.custodyState c = .loading) :
    s.withholdOos c = s.refuses .occupied := by
  rw [State.withholdOos]
  rcases st with st | st <;> rw [st]

theorem withholdOos_claimed (st : s.custodyState c = .releasing ∨ s.custodyState c = .emptying) :
    s.withholdOos c = s.refuses .claimed := by
  rw [State.withholdOos]
  rcases st with st | st <;> rw [st]

theorem withholdByState : Claims.WithholdByState := by
  intro h c s frame service toReview toOos refused
  have review := guarded_withhold (s := s.frameTaken h.port) service c (s.frameTaken h.port).withholdReview
  have oos := guarded_withhold (s := s.frameTaken h.port) service c (s.frameTaken h.port).withholdOos
  have reviewRefused : ∀ r, (s.frameTaken h.port).withholdReview c = (s.frameTaken h.port).refuses r →
      toReview = refused r := fun r hr => congrArg _ (serveOps_refuses frame (review.trans hr))
  have oosRefused : ∀ r, (s.frameTaken h.port).withholdOos c = (s.frameTaken h.port).refuses r →
      toOos = refused r := fun r hr => congrArg _ (serveOps_refuses frame (oos.trans hr))
  refine ⟨fun present => ⟨fun st => ?_, fun st => ?_, fun st => ?_, fun st => ?_, fun st => ?_⟩, fun empty => ?_,
    fun st => ?_, fun st => ?_, fun st => ?_, fun st => ?_, fun st => ?_, fun n => ⟨?_, ?_⟩, fun n hn => ⟨?_, ?_⟩⟩
  · exact congrArg _ (serve_completes frame rfl
      (review.trans (withholdReview_rest (s := s.frameTaken h.port) present st)))
  · exact congrArg _ (serve_done (t := s.addCause c .operator) frame rfl frame.1
      (review.trans (withholdReview_review (s := s.frameTaken h.port) present st)))
  · exact reviewRefused _ (withholdReview_occupied (s := s.frameTaken h.port) present st)
  · exact reviewRefused _ (withholdReview_claimed (s := s.frameTaken h.port) present st)
  · exact reviewRefused _ (withholdReview_outOfService (s := s.frameTaken h.port) present st)
  · exact reviewRefused _ (withholdReview_none (s := s.frameTaken h.port) empty)
  · exact congrArg _ (serve_completes frame rfl (oos.trans (withholdOos_taken (s := s.frameTaken h.port) st)))
  · have stays : (s.frameTaken h.port).withholdOos c = (s.frameTaken h.port, done []) := by
      rw [State.withholdOos, show (s.frameTaken h.port).custodyState c = .outOfService from st]
    exact congrArg _ (serveOps_reads frame (oos.trans stays))
  · refine oosRefused _ ?_
    rw [State.withholdOos, show (s.frameTaken h.port).custodyState c = .notFitted from st]
  · exact oosRefused _ (withholdOos_occupied (s := s.frameTaken h.port) st)
  · exact oosRefused _ (withholdOos_claimed (s := s.frameTaken h.port) st)
  · exact congrArg _ (serveOps_refuses frame (guarded_passes (s := s.frameTaken h.port) service))
  · exact congrArg _ (serveOps_refuses frame (guarded_passes (s := s.frameTaken h.port) service))
  · exact congrArg _ (serveOps_refuses frame (guarded_withComp_above (s := s.frameTaken h.port) service hn _))
  · exact congrArg _ (serveOps_refuses frame (guarded_withComp_above (s := s.frameTaken h.port) service hn _))

/-! ### Resolve Review (R27) -/

/-- Resolve Review with an action of its set on a compartment with a holding, by its custody state. -/
theorem resolve_holding (hi : s.InService) (act : Comp → State) (h : (s.holding c).isSome = true) :
    s.resolve true c.val act = match s.custodyState c with
      | .review => (act c, done [])
      | .releasing | .emptying => s.refuses .claimed
      | .outOfService => s.refuses .outOfService
      | .notFitted | .free | .reserved | .loading | .held | .overstayed | .returnHeld => s.refuses .notReady := by
  refine (guarded_passes hi).trans ((withComp_val c _).trans ?_)
  rw [Option.isNone_eq_false_iff.mpr h]
  rfl

theorem resolve_none (hi : s.InService) (act : Comp → State) (h : s.holding c = none) :
    s.resolve true c.val act = s.refuses .unknown := by
  refine (guarded_passes hi).trans ((withComp_val c _).trans ?_)
  rw [h]
  rfl

theorem resolve_review (hi : s.InService) (act : Comp → State) (h : (s.holding c).isSome = true)
    (st : s.custodyState c = .review) : s.resolve true c.val act = (act c, done []) := by
  rw [resolve_holding hi act h, st]

theorem waive_holding {x : Holding} (h : s.holding c = some x) :
    s.waive c = (s.updRecord x.record fun k => { k with waived := true }).restore c := by
  rw [State.waive, h]

theorem resolveReviewActions : Claims.ResolveReviewActions := by
  intro h c x s frame service st hx s0 cleared
  have present : (s0.holding c).isSome = true := Option.isSome_of_eq_some hx
  have resolved : ∀ act : Comp → State, s0.resolve true c.val act = (act c, done []) :=
    fun act => resolve_review (s := s0) service act present st
  refine ⟨congrArg _ (serve_completes frame rfl (resolved _)), ?_, congrArg _ (serve_completes frame rfl (resolved _)),
    congrArg _ (serve_completes frame rfl (resolved _))⟩
  have waived := waive_holding (s := s0) hx
  exact congrArg _ (serve_completes frame rfl ((resolved _).trans (by rw [waived]; rfl)))

/-- The four actions differ in what they do to a REVIEW holding alone. -/
theorem resolveReview_exec (h : Head) (s : State) :
    ∀ f ∈ [Instr.resolveReviewRestore h, .resolveReviewWaive h, .resolveReviewRetire h, .resolveReviewWithdraw h],
      ∃ act : State → Comp → State, ∀ ok n,
        exec (f ok n) s = .next (s.serveOps h 0x42#8 2 fun t => t.resolve ok n (act t)) := by
  simp only [List.forall_mem_cons, List.not_mem_nil, false_implies, implies_true, and_true]
  exact ⟨⟨State.restore, fun _ _ => rfl⟩, ⟨State.waive, fun _ _ => rfl⟩,
    ⟨fun t c => t.removeHolding c .free none, fun _ _ => rfl⟩, ⟨fun t c => t.outOfService c .operator, fun _ _ => rfl⟩⟩

theorem resolveReviewRefuses : Claims.ResolveReviewRefuses := by
  intro h c s frame service f hf refused
  obtain ⟨act, run⟩ := resolveReview_exec h s f hf
  have answers : ∀ ok n r, (s.frameTaken h.port).resolve ok n (act (s.frameTaken h.port)) =
      (s.frameTaken h.port).refuses r → exec (f ok n) s = refused r :=
    fun ok n r hr => (run ok n).trans (congrArg _ (serveOps_refuses frame hr))
  refine ⟨fun empty => answers _ _ _ (resolve_none (s := s.frameTaken h.port) service _ empty),
    fun present => ⟨fun st => answers _ _ _ ?_, fun st => answers _ _ _ ?_, fun st => answers _ _ _ ?_⟩,
    fun n => ⟨answers _ _ _ (guarded_passes (s := s.frameTaken h.port) service), fun hn => answers _ _ _
      (guarded_withComp_above (s := s.frameTaken h.port) service hn _)⟩⟩
  all_goals refine (resolve_holding (s := s.frameTaken h.port) service _ present).trans ?_
  · rcases st with st | st
    all_goals rw [show (s.frameTaken h.port).custodyState c = _ from st]
  · rw [show (s.frameTaken h.port).custodyState c = _ from st]
  · rw [isRest_iff] at st
    rcases st with st | st | st | st | st
    all_goals rw [show (s.frameTaken h.port).custodyState c = _ from st]

/-! ### REVIEW, OUT_OF_SERVICE and rest (R4 to R6, R24, R26) -/

theorem Holding.addCause_eq (x : Holding) (k : ReviewCause) :
    x.addCause k = if k ∈ x.causes ∨ 4 ≤ x.causes.length then x else { x with causes := x.causes ++ [k] } := by
  unfold Holding.addCause
  simp

theorem reviewRestAndOutOfService : Claims.ReviewRestAndOutOfService := by
  refine ⟨fun s c x hx => ⟨fun k => ⟨enterReview_entry_same _ _ _ _ hx, fun d hd => enterReview_entry_other _ _ _ _ hd,
      (enterReview_ports s c k).trans ?_, addCause_entry_same _ _ _ hx, fun d => addCause_entry_other c d k, rfl,
      x.addCause_eq k⟩,
    fun r hr => ⟨toRest_entry_same _ _ _ _ hx hr, fun d hd => toRest_entry_other _ _ _ hd, toRest_ports c⟩⟩,
    fun s c k => ⟨outOfService_entry_same .., fun d hd => outOfService_entry_other _ _ _ _ hd,
      outOfService_ports c k⟩⟩
  cases k <;> rfl

end Sys2Proof.Machine
end

section
/-! SUPPORT. The removal of a holding, the lapse of a claim, and a release that ended with its door shut. -/

namespace Sys2Proof.Machine

variable {s t : State} {c : Comp}

/-! ### Removal (R8, R10, R11, R46, R50) -/

theorem removeHolding_some {x : Holding} (h : s.holding c = some x) (st : CustodyState) (cause : Option OosCause) :
    s.removeHolding c st cause =
      (s.setEntry c { s.entry c with state := st, cause := cause, holding := none }).leaveRecord x.record c := by
  rw [State.removeHolding, h]

/-- A consignment keeps its record while a piece is left (R8). -/
theorem leaveRecord_left {n : RecordNo} {k : Consignment} (hk : s.record n = some k)
    (left : k.pieces.filter (· != c) ≠ []) : s.leaveRecord n c =
      (s.lowerLive k.carrier).putRecord n (some { k with pieces := k.pieces.filter (· != c) }) := by
  unfold State.leaveRecord
  rw [hk]
  exact if_neg (by simpa [List.isEmpty_iff] using left)

/-- The last piece takes the consignment with it (R11). -/
theorem leaveRecord_last {n : RecordNo} {k : Consignment} (hk : s.record n = some k)
    (last : k.pieces.filter (· != c) = []) :
    s.leaveRecord n c = (((s.lowerLive k.carrier).voidRetired k).putRecord n none).unlist n := by
  unfold State.leaveRecord
  rw [hk]
  exact if_pos (by rw [last]; rfl)

theorem leaveRecord_carriers {n : RecordNo} {k : Consignment} (hk : s.record n = some k) :
    (s.leaveRecord n c).carriers = (s.lowerLive k.carrier).carriers := by
  by_cases left : k.pieces.filter (· != c) = []
  · rw [leaveRecord_last hk left]
    show ((s.lowerLive k.carrier).voidRetired k).carriers = _
    simp
  · rw [leaveRecord_left hk left]
    rfl

theorem lowerLive_same (i : Fin 8) :
    (s.lowerLive i).carriers.get i = { s.carriers.get i with live := (s.carriers.get i).live - 1 } := put_get_same ..

theorem lowerLive_other (i j : Fin 8) (h : j ≠ i) : (s.lowerLive i).carriers.get j = s.carriers.get j :=
  put_get_other _ _ _ _ h

/-- A consignment whose charge is not live ends no charge (R140). -/
theorem voidRetired_other {k : Consignment} (opened : s.openChargeIs k .opened = false)
    (presented : s.openChargeIs k .presented = false) : s.voidRetired k = s := by
  unfold State.voidRetired
  rw [opened, presented]
  split
  · rfl
  · rfl

theorem voidRetired_live {k : Consignment} {ref : ChargeRef} (href : k.openRef = some ref)
    (live : s.openChargeIs k .opened = true ∨ s.openChargeIs k .presented = true) :
    s.voidRetired k = s.endCharge ref.slot .void (some .retired) none := by
  unfold State.voidRetired
  rw [href]
  exact if_pos ((Bool.or_eq_true _ _).mpr live)

theorem openChargeIs_congr (h : t.charges = s.charges) (k : Consignment) (st : ChargeState) :
    t.openChargeIs k st = s.openChargeIs k st := by
  have named : t.chargeNamed = s.chargeNamed := by
    funext i gen
    simp only [State.chargeNamed, h]
  simp only [State.openChargeIs, State.openCharge, named]

/-- The entry that a removal writes leaves the consignments, the carriers and the charges. -/
theorem setEntry_tables (e : CompartmentEntry) :
    (∀ n, (s.setEntry c e).record n = s.record n) ∧ (s.setEntry c e).carriers = s.carriers ∧
      (s.setEntry c e).charges = s.charges ∧ (s.setEntry c e).custody.codeMap = s.custody.codeMap ∧
      (s.setEntry c e).paidReturns = s.paidReturns := by
  simp [State.record]

theorem removalOfAHolding : Claims.RemovalOfAHolding := by
  intro s c st cause x k hx hk n t left
  obtain ⟨records, carriers, charges, codes, paid⟩ :=
    setEntry_tables (s := s) (c := c) { s.entry c with state := st, cause := cause, holding := none }
  have removed : t = (s.setEntry c { s.entry c with state := st, cause := cause, holding := none }).leaveRecord n c :=
    removeHolding_some hx st cause
  have entry : t.entry c = { s.entry c with state := st, cause := cause, holding := none } :=
    removeHolding_entry_same s c st cause x hx
  have others : ∀ d, d ≠ c → t.entry d = s.entry d := fun d hd => removeHolding_entry_other s c d st cause hd
  have ports : t.ports = s.ports := removeHolding_ports c st cause
  generalize s.setEntry c { s.entry c with state := st, cause := cause, holding := none } = u at *
  have used : u.record n = some k := (records n).trans hk
  have lowered : t.carriers = (u.lowerLive k.carrier).carriers := by
    rw [removed]
    exact leaveRecord_carriers used
  refine ⟨entry, others, ?_, fun i hi => ?_, ports, fun stays => ?_, fun last => ?_⟩
  · rw [lowered, lowerLive_same, carriers]
  · rw [lowered, lowerLive_other _ _ hi, carriers]
  · rw [removed, leaveRecord_left used stays]
    exact ⟨putRecord_record_same _ n _, fun m hm => (put_get_other _ _ _ _ hm).trans (records m), codes, charges, paid⟩
  · rw [removed, leaveRecord_last used last]
    obtain ⟨-, -, -, -, -, -, paidKept, -, codesKept⟩ := voidRetired_frame (u.lowerLive k.carrier) k
    have same : (u.lowerLive k.carrier).charges = s.charges := charges
    refine ⟨putRecord_record_same _ n _, ?_, ?_, fun opened presented => ?_, fun ref href live => ?_⟩
    · rw [← codes]
      exact congrArg _ codesKept
    · rw [← paid]
      exact congrArg _ paidKept
    · rw [voidRetired_other ((openChargeIs_congr same _ _).trans opened)
        ((openChargeIs_congr same _ _).trans presented)]
      exact same
    · rw [← openChargeIs_congr same, ← openChargeIs_congr same] at live
      rw [voidRetired_live href live]
      have read : ∀ j, (u.lowerLive k.carrier).charge j = s.charge j := fun j => by rw [State.charge, same]; rfl
      refine ⟨?_, ?_, fun j hj => ?_⟩
      · exact (endCharge_charge_same ..).trans (by rw [read])
      · exact (endCharge_ended ..).trans (by rw [same])
      · exact (endCharge_charge_other _ _ _ _ _ hj).trans (read j)

/-! ### A release that ended with its door shut (R14, R20, R24) -/

/-- What a lapse leaves of the compartment, and to whom it is told (R24). -/
theorem lapse_entry (d : Comp) : (s.lapse c).entry d = (s.toRest c).entry d := by
  unfold State.lapse
  split
  · rfl
  · rfl
  · rfl
  · rfl

theorem lapse_customer {x : Holding} (hx : s.holding c = some x) (who : x.claimant = some .customer) :
    s.lapse c = (s.toRest c).post .console (s.noteFull .notOpened c) := by
  simp [State.lapse, hx, who]

theorem lapse_carrier {x : Holding} (hx : s.holding c = some x) (who : x.claimant = some .carrier) :
    s.lapse c = (s.toRest c).reportClaim c .notOpened := by
  simp [State.lapse, hx, who]

theorem lapse_service {x : Holding} (hx : s.holding c = some x) (who : x.claimant = some .service) :
    s.lapse c = (s.toRest c).serviceDone s c .notOpened := by
  simp [State.lapse, hx, who]

theorem shutReleasing_first {x : Holding} {b : Bool} (hx : s.holding c = some x)
    (h : b = false ∨ x.releaseInterrupted = false) : s.shutReleasing c b =
      if b then (s.lapse c).updHolding c fun y => { y with releaseInterrupted := true } else s.lapse c := by
  cases b with
  | false => rfl
  | true =>
    have fresh : x.releaseInterrupted = false := h.resolve_left (by simp)
    simp [State.shutReleasing, hx, fresh]

theorem shutReleasing_again {x : Holding} (hx : s.holding c = some x) (h : x.releaseInterrupted = true) :
    s.shutReleasing c true = s.enterReview c .interrupted := by
  simp [State.shutReleasing, hx, h]

theorem shutReleasing_entry_other (b : Bool) (d : Comp) (hd : d ≠ c) : (s.shutReleasing c b).entry d = s.entry d := by
  have lapsed : (s.lapse c).entry d = s.entry d := (lapse_entry d).trans (toRest_entry_other _ _ _ hd)
  unfold State.shutReleasing
  split
  · split
    · exact enterReview_entry_other _ _ _ _ hd
    · exact (updHolding_entry_other _ _ _ _ hd).trans lapsed
  · exact lapsed

theorem shutReserved_some {x : Holding} (hx : s.holding c = some x) (b : Bool) : s.shutReserved c b =
    ((s.removeHolding c .free none).post x.origin.role
      (if b then (s.noteFull .notOpened c).withDetail .interrupted
        else s.noteFull .notOpened c)).reportOrigin x.origin c .notOpened none := by
  simp [State.shutReserved, hx]

theorem reportOrigin_entry (o : Origin) (c d : Comp) (outcome : Status) (minute : Option Nat) :
    (s.reportOrigin o c outcome minute).entry d = s.entry d := by
  cases o with
  | slot n => exact reportDrop_entry ..
  | console => rfl

theorem reportOrigin_ports (o : Origin) (c : Comp) (outcome : Status) (minute : Option Nat) :
    (s.reportOrigin o c outcome minute).ports = s.ports := by
  cases o <;> rfl

theorem shutReserved_entry_other (b : Bool) (d : Comp) (hd : d ≠ c) : (s.shutReserved c b).entry d = s.entry d := by
  cases hx : s.holding c with
  | none => simp [State.shutReserved, hx]
  | some x =>
    rw [shutReserved_some hx, reportOrigin_entry]
    exact removeHolding_entry_other _ _ _ _ _ hd

/-- When the end of a release ends the compartment's reservation or claim (R14, R24, R147). -/
theorem endsWith_iff {x : Holding} (hx : s.holding c = some x) (k : ReleaseClass) :
    s.endsWith c k = true ↔ k = .custody ∨ x.claimant = some .service ∨ s.releaseWaits c = false := by
  cases k <;> simp [State.endsWith, State.servedBy, hx]

theorem windowShut_notFitted (st : s.custodyState c = .notFitted) (k : ReleaseClass) (b : Bool) :
    s.custodyWindowShut c k b = s := by
  unfold State.custodyWindowShut
  rw [st]

theorem windowShut_reserved {k : ReleaseClass} (st : s.custodyState c = .reserved) (ends : s.endsWith c k = true)
    (b : Bool) : s.custodyWindowShut c k b = s.shutReserved c b := by
  unfold State.custodyWindowShut
  rw [st, ends]

theorem windowShut_releasing {k : ReleaseClass} (st : s.custodyState c = .releasing) (ends : s.endsWith c k = true)
    (b : Bool) : s.custodyWindowShut c k b = s.shutReleasing c b := by
  unfold State.custodyWindowShut
  rw [st, ends]

/-- A release that ends neither a reservation nor a claim tells operations alone, where it is of class SERVICE (R14,
R181). -/
theorem windowShut_else {k : ReleaseClass} (nf : s.custodyState c ≠ .notFitted)
    (h : s.endsWith c k = false ∨ (s.custodyState c ≠ .reserved ∧ s.custodyState c ≠ .releasing)) (b : Bool) :
    s.custodyWindowShut c k b = if k = .service then s.serviceDone s c .notOpened else s := by
  unfold State.custodyWindowShut
  split
  · exact absurd (by assumption) nf
  · rename_i st ends
    exact absurd st (h.resolve_left (by simp [ends])).1
  · rename_i st ends
    exact absurd st (h.resolve_left (by simp [ends])).2
  · cases k <;> rfl

theorem windowShut_entry_other (k : ReleaseClass) (b : Bool) (d : Comp) (hd : d ≠ c) :
    (s.custodyWindowShut c k b).entry d = s.entry d := by
  unfold State.custodyWindowShut
  split
  · rfl
  · exact shutReserved_entry_other b d hd
  · exact shutReleasing_entry_other b d hd
  · cases k <;> rfl

theorem windowShutRows : Claims.WindowShutRows := by
  intro s c x k b hx t ends n told
  have endsWith : ends → s.endsWith c k = true := (endsWith_iff hx k).mpr
  refine ⟨windowShut_entry_other k b, fun st he => ?_, fun r st he hr => ⟨fun once => ?_, fun hb again => ?_⟩,
    fun hk nf none => ?_, fun hk nr nl => ?_⟩
  · have shut : t = _ := (windowShut_reserved st (endsWith he) b).trans (shutReserved_some hx b)
    have noted : (if b then (s.noteFull .notOpened c).withDetail .interrupted else s.noteFull .notOpened c) = n := by
      cases b <;> rfl
    rw [noted] at shut
    have ports : t.ports = (s.post x.origin.role n).ports := by
      rw [shut, reportOrigin_ports]
      exact post_ports_congr (removeHolding_ports ..) ..
    have engine : ((s.removeHolding c .free none).post x.origin.role n).engine = s.engine :=
      removeHolding_engine c .free none
    refine ⟨?_, ?_, fun i ho => ?_, fun ho => ?_⟩
    · rw [shut, reportOrigin_entry]
      exact removeHolding_entry_same _ _ _ _ _ hx
    · rw [ports]
      cases x.origin <;> rfl
    · rw [shut, ho]
      rw [ho] at engine
      exact reportDrop_engine_congr engine ..
    · rw [shut, ho]
      rw [ho] at engine
      exact engine
  · have shut : t = _ := (windowShut_releasing st (endsWith he) b).trans (shutReleasing_first hx once)
    have rest : (s.lapse c).entry c = { s.entry c with
        state := RestState.custody r, holding := some { x with claimant := none } } :=
      (lapse_entry c).trans (toRest_entry_same _ _ _ _ hx hr)
    have ports : t.ports = (s.lapse c).ports := by
      rw [shut]
      cases b <;> rfl
    have engine : t.engine = (s.lapse c).engine := by
      rw [shut]
      cases b <;> rfl
    refine ⟨?_, fun who => ?_, fun who => ?_, fun who => ⟨?_, ?_⟩⟩
    · rw [shut]
      cases b with
      | false => exact rest
      | true =>
        refine (updHolding_entry_same ..).trans ?_
        simp [State.holding, rest]
    · rw [ports, lapse_customer hx who]
      exact post_ports_congr (toRest_ports c) ..
    · rw [ports, lapse_service hx who]
      exact post_ports_congr (toRest_ports c) ..
    · rw [ports, lapse_carrier hx who]
      exact toRest_ports c
    · rw [engine, lapse_carrier hx who]
      exact reportClaim_engine_congr (toRest_engine c) ..
  · have shut : t = s.enterReview c .interrupted := by
      subst hb
      exact (windowShut_releasing st (endsWith he) true).trans (shutReleasing_again hx again)
    rw [shut]
    exact enterReview_entry_same _ _ _ _ hx
  · have unended : s.endsWith c k = false ∨ (s.custodyState c ≠ .reserved ∧ s.custodyState c ≠ .releasing) :=
      none.imp_left fun hn => Bool.eq_false_iff.mpr fun he => hn ((endsWith_iff hx k).mp he)
    have shut : t = _ := (windowShut_else nf unended b).trans (if_pos hk)
    rw [shut]
    exact ⟨rfl, rfl⟩
  · by_cases nf : s.custodyState c = .notFitted
    · exact windowShut_notFitted nf k b
    · exact (windowShut_else nf (.inr ⟨nr, nl⟩) b).trans (if_neg (by rw [hk]; decide))

/-- Settles O49, from the requests on REVIEW, the removal of a holding and the rows of a release that ended with its
door shut. -/
theorem reviewRemovalAndLapse : Obligations.ReviewRemovalAndLapse :=
  ⟨withholdByState, resolveReviewActions, resolveReviewRefuses, reviewRestAndOutOfService, removalOfAHolding,
    windowShutRows⟩

end Sys2Proof.Machine
end

section
/-! SUPPORT. The closures of a deposit and of a removal, and the inspections. -/

namespace Sys2Proof.Machine

variable {s t : State} {c : Comp}

/-! ### The closure of a deposit (R15, R47, R80) -/

/-- The rest state that a deposit takes (R15). -/
def State.depositRest (s : State) (c : Comp) : RestState :=
  match s.consignment c with
  | some k => if k.kind = .returnDrop then .returnHeld else .held
  | none => .held

/-- The state that a deposit's closure leaves before the outcome is told. -/
def State.deposited (s : State) (c : Comp) : State :=
  (s.updHolding c fun x => { x with depositMinute := some s.clock.minute, rest := some (s.depositRest c) }).setCustody c
    (RestState.custody (s.depositRest c))

theorem depositDone_eq (x : Holding) : s.depositDone c x = match x.origin with
    | .slot n => (s.deposited c).reportDrop n c .deposited (some s.clock.minute)
    | .console => (s.deposited c).post .console (((s.deposited c).noteFull .returnDone c).withDetail .deposited) := by
  unfold State.depositDone State.deposited State.depositRest
  cases x.origin <;> rfl

theorem deposited_entry {x : Holding} (hx : s.holding c = some x) : (s.deposited c).entry c =
    { s.entry c with state := RestState.custody (s.depositRest c), holding := some { x with
        depositMinute := some s.clock.minute, rest := some (s.depositRest c) } } := by
  unfold State.deposited
  rw [setCustody_entry_same, updHolding_entry_same, hx]
  rfl

theorem deposited_frame : (s.deposited c).clock = s.clock ∧ (s.deposited c).engine = s.engine ∧
    (s.deposited c).ports = s.ports ∧ (s.deposited c).custody.records = s.custody.records := by
  simp [State.deposited]

theorem deposited_entry_other (d : Comp) (hd : d ≠ c) : (s.deposited c).entry d = s.entry d :=
  (setCustody_entry_other _ _ _ _ hd).trans (updHolding_entry_other _ _ _ _ hd)

theorem deposited_noteFull (k : NoticeKind) : (s.deposited c).noteFull k c = s.noteFull k c := by
  obtain ⟨clock, -, -, records⟩ := deposited_frame (s := s) (c := c)
  refine noteFull_congr k c clock records ?_
  cases hx : s.holding c with
  | none => simp [State.deposited, State.holding] at hx ⊢; simp [hx]
  | some x =>
    rw [State.holding, deposited_entry hx]
    rfl

theorem depositDone_entry (x : Holding) (d : Comp) : (s.depositDone c x).entry d = (s.deposited c).entry d := by
  rw [depositDone_eq]
  cases x.origin <;> rfl

theorem depositEmpty_entry (x : Holding) (d : Comp) :
    (s.depositEmpty c x).entry d = (s.removeHolding c .free none).entry d := by
  unfold State.depositEmpty
  cases x.origin <;> rfl

/-- The outcomes of a deposit for a manifest slot (R80). -/
theorem deposit_slot {x : Holding} {n : RingSlot} (ho : x.origin = .slot n) :
    (s.depositDone c x).engine = (s.reportDrop n c .deposited (some s.clock.minute)).engine ∧
    (s.depositEmpty c x).engine = (s.reportDrop n c .emptyClose none).engine ∧
    (s.depositDone c x).ports = s.ports ∧ (s.depositEmpty c x).ports = s.ports := by
  rw [depositDone_eq, State.depositEmpty, ho]
  obtain ⟨-, engine, ports, -⟩ := deposited_frame (s := s) (c := c)
  exact ⟨reportDrop_engine_congr engine .., reportDrop_engine_congr (removeHolding_engine ..) .., ports,
    removeHolding_ports ..⟩

/-- The outcomes of a deposit for the console (R47). -/
theorem deposit_console {x : Holding} (ho : x.origin = .console) :
    (s.depositDone c x).ports = (s.post .console ((s.noteFull .returnDone c).withDetail .deposited)).ports ∧
    (s.depositEmpty c x).ports = (s.post .console ((s.noteFull .returnDone c).withDetail .emptyClose)).ports ∧
    (s.depositDone c x).engine = s.engine ∧ (s.depositEmpty c x).engine = s.engine := by
  rw [depositDone_eq, State.depositEmpty, ho, deposited_noteFull]
  obtain ⟨-, engine, ports, -⟩ := deposited_frame (s := s) (c := c)
  exact ⟨post_ports_congr ports .., post_ports_congr (removeHolding_ports ..) .., engine, removeHolding_engine ..⟩

theorem closure_loading {x : Holding} (st : s.custodyState c = .loading) (hx : s.holding c = some x) :
    s.custodyClosure c .occupied .custody = s.depositDone c x ∧
      s.custodyClosure c .empty .custody = s.depositEmpty c x := by
  unfold State.custodyClosure
  rw [st, hx]
  exact ⟨rfl, rfl⟩

/-! ### The closure of a removal (R7, R15, R82, R85) -/

/-- The state that a removal's closure leaves before its end is told, by the presence found. -/
def State.removalLeft (s : State) (c : Comp) : Presence → State
  | .empty => s.removeHolding c .free none
  | .occupied => (s.toRest c).updHolding c fun x => { x with collectIncomplete := true }

/-- A removal's closure (R15). -/
def State.removalEnds (s : State) (c : Comp) (x : Holding) : Presence → State
  | .empty => s.removalDone c x
  | .occupied => s.removalIncomplete c x

theorem removalLeft_frame (p : Presence) :
    (s.removalLeft c p).engine = s.engine ∧ (s.removalLeft c p).ports = s.ports := by
  cases p with
  | empty => exact ⟨removeHolding_engine .., removeHolding_ports ..⟩
  | occupied => exact ⟨toRest_engine c, toRest_ports c⟩

theorem removalLeft_entry_other (p : Presence) (d : Comp) (hd : d ≠ c) : (s.removalLeft c p).entry d = s.entry d := by
  cases p with
  | empty => exact removeHolding_entry_other _ _ _ _ _ hd
  | occupied => exact (updHolding_entry_other _ _ _ _ hd).trans (toRest_entry_other _ _ _ hd)

theorem removalLeft_occupied_entry {x : Holding} {r : RestState} (hx : s.holding c = some x) (hr : x.rest = some r) :
    (s.removalLeft c .occupied).entry c = { s.entry c with
      state := RestState.custody r, holding := some { x with claimant := none, collectIncomplete := true } } := by
  unfold State.removalLeft
  rw [updHolding_entry_same, State.holding, toRest_entry_same _ _ _ _ hx hr]
  rfl

theorem removalEnds_entry (x : Holding) (p : Presence) (d : Comp) :
    (s.removalEnds c x p).entry d = (s.removalLeft c p).entry d := by
  cases p
  all_goals
    unfold State.removalEnds
    simp only [State.removalDone, State.removalIncomplete]
    split
    · exact postBoth_entry ..
    all_goals rfl

/-- The notice kind, the report and the detail of a removal's end (R15, R82, R85). -/
def removalKind : Presence → NoticeKind
  | .empty => .collected
  | .occupied => .collectIncomplete

def removalReport : Presence → ClaimEnd
  | .empty => .retrieved
  | .occupied => .collectIncomplete

def removalDetail : Presence → Detail
  | .empty => .cleared
  | .occupied => .collectIncomplete

theorem removalEnds_customer {x : Holding} (who : x.claimant = some .customer) (p : Presence) :
    s.removalEnds c x p = (s.removalLeft c p).postBoth .console .operations (s.noteCode (removalKind p) c) := by
  cases p
  all_goals simp [State.removalEnds, State.removalDone, State.removalIncomplete, who, State.removalLeft, removalKind]

theorem removalEnds_carrier {x : Holding} (who : x.claimant = some .carrier) (p : Presence) :
    s.removalEnds c x p = (s.removalLeft c p).reportClaim c (removalReport p) := by
  cases p
  all_goals simp [State.removalEnds, State.removalDone, State.removalIncomplete, who, State.removalLeft, removalReport]

theorem removalEnds_service {x : Holding} (who : x.claimant = some .service) (p : Presence) :
    s.removalEnds c x p = (s.removalLeft c p).serviceDone s c (removalDetail p) := by
  cases p
  all_goals simp [State.removalEnds, State.removalDone, State.removalIncomplete, who, State.removalLeft, removalDetail]

/-- A closure that completes a removal (R15, R23). -/
theorem closure_emptying {x : Holding} {k : OpeningKind} (st : s.custodyState c = .emptying)
    (hx : s.holding c = some x) (hk : k = .custody ∨ (k = .service ∧ x.claimant = some .service)) (p : Presence) :
    s.custodyClosure c p k = s.removalEnds c x p := by
  unfold State.custodyClosure
  rw [st, hx]
  refine (if_pos hk).trans ?_
  cases p <;> rfl

/-! ### Inspections (R16) -/

/-- A closure that is an inspection, with the finding told after one of kind SERVICE. -/
def State.found (s : State) (c : Comp) (k : OpeningKind) (u : State) (d : Detail) : State :=
  if k = .service then u.post .operations ((s.noteCode .serviceDone c).withDetail d) else u

theorem found_entry (k : OpeningKind) (u : State) (d : Detail) (e : Comp) : (s.found c k u d).entry e = u.entry e := by
  unfold State.found
  split
  · rfl
  · rfl

theorem found_ports_congr {u v : State} (h : u.ports = v.ports) (k : OpeningKind) (d : Detail) :
    (s.found c k u d).ports = (s.found c k v d).ports := by
  unfold State.found
  split
  · exact post_ports_congr h ..
  · exact h

theorem inspection_found {k : OpeningKind} (hk : k ≠ .custody) (p : Presence) :
    s.custodyInspection c p (k != .forced) = s.found c k (s.inspect c p).1 (s.inspect c p).2 := by
  cases k with
  | custody => exact absurd rfl hk
  | service => rfl
  | forced => rfl

/-- The closures that complete a deposit or a removal (R15, R23). -/
def State.completes (s : State) (c : Comp) (k : OpeningKind) : Prop :=
  ∃ x, s.holding c = some x ∧ ((s.custodyState c = .loading ∧ k = .custody) ∨
    (s.custodyState c = .emptying ∧ (k = .custody ∨ (k = .service ∧ x.claimant = some .service))))

/-- Every other closure of a fitted compartment is an inspection (R15, R16). -/
theorem closure_inspects {k : OpeningKind} (nf : s.custodyState c ≠ .notFitted) (h : ¬ s.completes c k) (p : Presence) :
    s.custodyClosure c p k = s.custodyInspection c p (k != .forced) := by
  unfold State.custodyClosure
  split
  · exact absurd (by assumption) nf
  · rename_i x st hx
    cases k with
    | custody => exact absurd ⟨x, hx, .inl ⟨st, rfl⟩⟩ h
    | service => cases p <;> rfl
    | forced => cases p <;> rfl
  · rename_i x st hx
    exact if_neg fun hk => h ⟨x, hx, .inr ⟨st, hk⟩⟩
  · rfl

theorem closure_notFitted (st : s.custodyState c = .notFitted) (p : Presence) (k : OpeningKind) :
    s.custodyClosure c p k = s := by
  unfold State.custodyClosure
  rw [st]

theorem missing_entry_other (d : Comp) (hd : d ≠ c) : (s.missing c).entry d = s.entry d := by
  unfold State.missing
  dsimp only
  split
  · exact enterReview_entry_other _ _ _ _ hd
  · exact addCause_entry_other _ _ _ hd

theorem foreignObject_entry_other (d : Comp) (hd : d ≠ c) : (s.foreignObject c).entry d = s.entry d :=
  outOfService_entry_other _ _ _ _ hd

theorem inspect_entry_other (p : Presence) (d : Comp) (hd : d ≠ c) : (s.inspect c p).1.entry d = s.entry d := by
  unfold State.inspect
  split
  · exact foreignObject_entry_other d hd
  · split
    · exact foreignObject_entry_other d hd
    · rfl
  · split
    · rfl
    · exact missing_entry_other d hd
  · exact missing_entry_other d hd
  · exact missing_entry_other d hd
  · exact missing_entry_other d hd
  · exact missing_entry_other d hd
  · rfl
  · rfl

theorem custodyInspection_entry (p : Presence) (b : Bool) (d : Comp) :
    (s.custodyInspection c p b).entry d = (s.inspect c p).1.entry d := by
  unfold State.custodyInspection
  dsimp only
  split
  · rfl
  · rfl

theorem closure_entry_other (p : Presence) (k : OpeningKind) (d : Comp) (hd : d ≠ c) :
    (s.custodyClosure c p k).entry d = s.entry d := by
  by_cases nf : s.custodyState c = .notFitted
  · rw [closure_notFitted nf]
  · by_cases h : s.completes c k
    · obtain ⟨x, hx, ⟨st, rfl⟩ | ⟨st, hk⟩⟩ := h
      · obtain ⟨occupied, empty⟩ := closure_loading st hx
        cases p with
        | occupied =>
          rw [occupied, depositDone_entry]
          exact deposited_entry_other d hd
        | empty =>
          rw [empty, depositEmpty_entry]
          exact removeHolding_entry_other _ _ _ _ _ hd
      · rw [closure_emptying st hx hk, removalEnds_entry]
        exact removalLeft_entry_other p d hd
    · rw [closure_inspects nf h, custodyInspection_entry]
      exact inspect_entry_other p d hd

end Sys2Proof.Machine
end

section
/-! SUPPORT. The rows of closures, inspections and forced openings. -/

namespace Sys2Proof.Machine

variable {s t : State} {c : Comp}

/-! ### Closures (R15) -/

theorem closureRows : Claims.ClosureRows := by
  intro s c x hx t toConsole toBoth cleared
  refine ⟨fun st => ?_, fun st => ?_, fun p k d hd => closure_entry_other p k d hd⟩
  · have occupied : t .occupied = s.depositDone c x := (closure_loading st hx).1
    have empty : t .empty = s.depositEmpty c x := (closure_loading st hx).2
    refine ⟨fun k hk => ?_, ?_, fun n ho => ?_, fun ho => ?_⟩
    · have rest : s.depositRest c = if k.kind = .returnDrop then .returnHeld else .held := by
        unfold State.depositRest
        rw [hk]
      rw [occupied, depositDone_entry, deposited_entry hx, rest]
      cases k.kind <;> rfl
    · rw [empty, depositEmpty_entry]
      exact removeHolding_entry_same _ _ _ _ _ hx
    · obtain ⟨deposited, emptyClose, occupiedPorts, emptyPorts⟩ := deposit_slot (s := s) (c := c) ho
      rw [occupied, empty]
      refine ⟨deposited, emptyClose, fun p => ?_⟩
      cases p with
      | occupied => exact (congrArg State.ports occupied).trans occupiedPorts
      | empty => exact (congrArg State.ports empty).trans emptyPorts
    · obtain ⟨deposited, emptyClose, occupiedEngine, emptyEngine⟩ := deposit_console (s := s) (c := c) ho
      rw [occupied, empty]
      refine ⟨deposited, emptyClose, fun p => ?_⟩
      cases p with
      | occupied => exact (congrArg State.engine occupied).trans occupiedEngine
      | empty => exact (congrArg State.engine empty).trans emptyEngine
  · have closes : ∀ p, t p = s.removalEnds c x p := fun p => closure_emptying st hx (.inl rfl) p
    have engine : ∀ p, (s.removalLeft c p).engine = s.engine := fun p => (removalLeft_frame p).1
    have ports : ∀ p, (s.removalLeft c p).ports = s.ports := fun p => (removalLeft_frame p).2
    refine ⟨?_, fun r hr => ?_, fun who => ?_, fun who => ?_, fun who => ?_⟩
    · rw [closes, removalEnds_entry]
      exact removeHolding_entry_same _ _ _ _ _ hx
    · rw [closes, removalEnds_entry]
      exact removalLeft_occupied_entry hx hr
    · simp only [closes, removalEnds_customer who]
      exact ⟨postBoth_ports_congr (ports _) .., postBoth_ports_congr (ports _) ..,
        fun p => by simp [engine]⟩
    · simp only [closes, removalEnds_carrier who]
      exact ⟨reportClaim_engine_congr (engine _) .., reportClaim_engine_congr (engine _) .., ports⟩
    · refine ⟨?_, ?_, fun p => ?_, fun p => (closure_emptying st hx (.inr ⟨rfl, who⟩) p).trans (closes p).symm⟩
      all_goals rw [closes, removalEnds_service who]
      · exact post_ports_congr (ports _) ..
      · exact post_ports_congr (ports _) ..
      · exact engine p

theorem otherClosures : Claims.OtherClosures := by
  refine fun s c p => ⟨fun nl ne => ?_, fun st k => closure_notFitted st p k⟩
  by_cases nf : s.custodyState c = .notFitted
  · rw [closure_notFitted nf, closure_notFitted nf]
  · have other : ∀ k, ¬ s.completes c k := by
      rintro k ⟨x, -, ⟨st, -⟩ | ⟨st, -⟩⟩
      · exact nl st
      · exact ne st
    rw [closure_inspects nf (other _), closure_inspects nf (other _)]
    rfl

/-! ### Inspections (R16) -/

theorem inspect_foreign (h : s.custodyState c = .free ∨ (s.custodyState c = .outOfService ∧ s.holding c = none)) :
    s.inspect c .occupied = (s.foreignObject c, .foreignObject) ∧ s.inspect c .empty = (s, .empty) := by
  unfold State.inspect
  rcases h with st | ⟨st, hx⟩
  · rw [st]
    exact ⟨rfl, rfl⟩
  · rw [st, hx]
    exact ⟨rfl, rfl⟩

theorem inspect_missing {x : Holding} (hx : s.holding c = some x)
    (st : (s.custodyState c).isRest = true ∨ s.custodyState c = .review ∨ s.custodyState c = .outOfService) :
    s.inspect c .empty = (s.missing c, .missing) ∧ s.inspect c .occupied = (s, .occupied) := by
  rw [isRest_iff] at st
  unfold State.inspect
  rw [hx]
  rcases st with (st | st | st) | st | st <;> rw [st] <;> exact ⟨rfl, rfl⟩

/-- A reservation, a claim and a parcel on its way are left by an inspection (R16). -/
theorem inspect_moving (st : s.custodyState c = .reserved ∨ s.custodyState c = .loading ∨
    s.custodyState c = .releasing ∨ s.custodyState c = .emptying) :
    s.inspect c .occupied = (s, .occupied) ∧ s.inspect c .empty = (s, .empty) := by
  unfold State.inspect
  rcases st with st | st | st | st <;> rw [st] <;> exact ⟨rfl, rfl⟩

theorem missing_rest (st : (s.custodyState c).isRest = true) :
    s.missing c = (s.post .operations (s.noteCode .missing c)).enterReview c .missing := if_pos st

theorem missing_kept (st : s.custodyState c = .review ∨ s.custodyState c = .outOfService) :
    s.missing c = (s.post .operations (s.noteCode .missing c)).addCause c .missing := by
  refine if_neg ?_
  rcases st with st | st <;> rw [st] <;> decide

/-- A closure of kind SERVICE or FORCED that completes nothing. -/
theorem closure_found {k : OpeningKind} (hk : k ≠ .custody) (nf : s.custodyState c ≠ .notFitted)
    (h : s.custodyState c = .emptying → k = .forced ∨ ∀ x, s.holding c = some x → x.claimant ≠ some .service)
    (p : Presence) : s.custodyClosure c p k = s.found c k (s.inspect c p).1 (s.inspect c p).2 := by
  refine (closure_inspects nf ?_ p).trans (inspection_found hk p)
  rintro ⟨x, hx, ⟨-, kind⟩ | ⟨st, kind | ⟨kind, who⟩⟩⟩
  · exact hk kind
  · exact hk kind
  · rcases h st with forced | unclaimed
    · rw [kind] at forced
      cases forced
    · exact unclaimed x hx who

theorem inspectionRows : Claims.InspectionRows := by
  intro s c k hk t found foreign missing
  have still : ∀ p, s.custodyState c ≠ .notFitted → s.custodyState c ≠ .emptying →
      t p = s.found c k (s.inspect c p).1 (s.inspect c p).2 :=
    fun p nf ne => closure_found hk nf (fun st => absurd st ne) p
  refine ⟨fun st => ?_, fun x hx => ⟨fun st => ?_, fun st => ?_, fun st => ?_⟩, fun st => ?_⟩
  · obtain ⟨occupied, empty⟩ := inspect_foreign st
    have nf : s.custodyState c ≠ .notFitted := by rcases st with st | ⟨st, -⟩ <;> simp [st]
    have ne : s.custodyState c ≠ .emptying := by rcases st with st | ⟨st, -⟩ <;> simp [st]
    rw [still _ nf ne, still _ nf ne, occupied, empty]
    refine ⟨(found_entry ..).trans (outOfService_entry_same ..), ?_, rfl⟩
    refine found_ports_congr ?_ ..
    exact post_ports_congr (outOfService_ports ..) ..
  · have nf : s.custodyState c ≠ .notFitted := fun e => by simp [e, CustodyState.isRest] at st
    have ne : s.custodyState c ≠ .emptying := fun e => by simp [e, CustodyState.isRest] at st
    rw [still _ nf ne, (inspect_missing hx (.inl st)).1, missing_rest st]
    refine ⟨(found_entry ..).trans (enterReview_entry_same _ _ _ _ hx), ?_⟩
    exact found_ports_congr (enterReview_ports missing c .missing) ..
  · have nf : s.custodyState c ≠ .notFitted := by rcases st with st | st <;> simp [st]
    have ne : s.custodyState c ≠ .emptying := by rcases st with st | st <;> simp [st]
    rw [still _ nf ne, (inspect_missing hx (.inr st)).1, missing_kept st]
    exact ⟨(found_entry ..).trans (addCause_entry_same _ _ _ hx), found_ports_congr
      (show (missing.addCause c .missing).ports = missing.ports from rfl) ..⟩
  · have nf : s.custodyState c ≠ .notFitted := by
      rcases st with st | st | st
      · exact fun e => by simp [e, CustodyState.isRest] at st
      all_goals simp [st]
    have ne : s.custodyState c ≠ .emptying := by
      rcases st with st | st | st
      · exact fun e => by simp [e, CustodyState.isRest] at st
      all_goals simp [st]
    rw [still _ nf ne, (inspect_missing hx st).2]
    rfl
  · have moving : s.custodyState c = .reserved ∨ s.custodyState c = .loading ∨ s.custodyState c = .releasing ∨
        s.custodyState c = .emptying := st.imp_right (Or.imp_right (Or.imp_right And.left))
    have nf : s.custodyState c ≠ .notFitted := by rcases moving with st | st | st | st <;> simp [st]
    have closes : ∀ p, t p = s.found c k (s.inspect c p).1 (s.inspect c p).2 := by
      refine closure_found hk nf fun e => ?_
      rcases st with st | st | st | ⟨-, other⟩
      · simp [st] at e
      · simp [st] at e
      · simp [st] at e
      · exact other
    obtain ⟨occupied, empty⟩ := inspect_moving moving
    rw [closes, closes, occupied, empty]
    exact ⟨rfl, rfl⟩

/-! ### Forced openings (R17) -/

theorem noteForced_frame (b : Bool) : (s.noteForced c b).custody = s.custody ∧ (s.noteForced c b).seq = s.seq ∧
    (s.noteForced c b).engine = s.engine ∧ (s.noteForced c b).clock = s.clock := ⟨rfl, rfl, rfl, rfl⟩

theorem noteForced_ports : (s.noteForced c false).ports = (s.post .operations (s.noteCode .forced c)).ports ∧
    (s.noteForced c true).ports = (s.post .operations ((s.noteCode .forced c).withDetail .forced)).ports := ⟨rfl, rfl⟩

/-- A withdrawal takes the queued entry alone (R148). -/
theorem withdraw_queue : (s.withdraw c).seq.queue =
      (if s.withdrawalFinds c = .removed then s.seq.queue.filter fun e => e.comp != c else s.seq.queue) ∧
    (s.withdraw c).seq.pendingService = s.seq.pendingService := by
  unfold State.withdraw
  cases s.withdrawalFinds c with
  | inFlight => exact ⟨rfl, rfl⟩
  | none => exact ⟨rfl, rfl⟩
  | removed =>
    dsimp only
    rw [if_pos rfl]
    unfold State.disarmIfLast State.disarm State.setColumn State.tellScanner
    split
    · split
      · exact ⟨rfl, rfl⟩
      · split
        · exact ⟨rfl, rfl⟩
        · exact ⟨rfl, rfl⟩
    all_goals exact ⟨rfl, rfl⟩

theorem withdraw_queue_congr (h : t.seq = s.seq) : (t.withdraw c).seq.queue = (s.withdraw c).seq.queue := by
  have finds : t.withdrawalFinds c = s.withdrawalFinds c := by
    simp only [State.withdrawalFinds, State.entryOf, h]
  rw [withdraw_queue.1, withdraw_queue.1, finds, h]

/-- The state in which a forced RELEASING holding enters REVIEW (R17). -/
def State.forcedWithdrawn (s : State) (c : Comp) : State :=
  ((s.noteForced c false).withdraw c).setPending
    (((s.noteForced c false).withdraw c).seq.pendingService.filter (· != c))

theorem forcedWithdrawn_frame : (s.forcedWithdrawn c).custody = s.custody ∧ (s.forcedWithdrawn c).engine = s.engine ∧
    (s.forcedWithdrawn c).clock = s.clock ∧ (s.forcedWithdrawn c).ports = (s.noteForced c false).ports ∧
    (s.forcedWithdrawn c).seq.queue = (s.withdraw c).seq.queue ∧
    (s.forcedWithdrawn c).seq.pendingService = s.seq.pendingService.filter (· != c) := by
  obtain ⟨clock, custody, -, -, -, engine, ports⟩ := withdraw_frame (s.noteForced c false) c
  refine ⟨custody, engine, clock, ports, withdraw_queue_congr (t := s.noteForced c false) rfl, ?_⟩
  show ((s.noteForced c false).withdraw c).seq.pendingService.filter (· != c) = _
  rw [withdraw_queue.2]
  rfl

/-- The REVIEW that a forced RELEASING holding enters. -/
def State.forcedReview (s : State) (c : Comp) : State := (s.forcedWithdrawn c).enterReview c .forced

theorem forcedReview_entry {x : Holding} (hx : s.holding c = some x) : (s.forcedReview c).entry c =
    { s.entry c with state := .review, holding := some { x.addCause .forced with claimant := none } } := by
  have same : (s.forcedWithdrawn c).entry c = s.entry c := by
    rw [State.entry, forcedWithdrawn_frame.1]
    rfl
  have held : (s.forcedWithdrawn c).holding c = some x := (congrArg CompartmentEntry.holding same).trans hx
  rw [State.forcedReview, enterReview_entry_same _ _ _ _ held, same]

theorem forcedReview_ports : (s.forcedReview c).ports = ((s.post .operations (s.noteCode .forced c)).post .operations
    ((s.noteCode .review c).withDetail .forced)).ports := by
  obtain ⟨custody, -, clock, ports, -, -⟩ := forcedWithdrawn_frame (s := s) (c := c)
  have note : (s.forcedWithdrawn c).noteCode .review c = s.noteCode .review c :=
    noteCode_congr _ _ clock (by rw [custody]) (by simp only [State.holding, State.entry, custody])
  refine (enterReview_ports (s.forcedWithdrawn c) c .forced).trans ?_
  rw [note]
  exact post_ports_congr (ports.trans noteForced_ports.1) ..

theorem forcedReview_frame : (s.forcedReview c).engine = s.engine ∧
    (s.forcedReview c).seq.queue = (s.withdraw c).seq.queue ∧
    (s.forcedReview c).seq.pendingService = s.seq.pendingService.filter (· != c) := by
  obtain ⟨-, engine, -, -, queue, pending⟩ := forcedWithdrawn_frame (s := s) (c := c)
  obtain ⟨-, seq, -, engineKept⟩ := enterReview_frame (s.forcedWithdrawn c) c .forced
  exact ⟨engineKept.trans engine, (congrArg Sequencer.queue seq).trans queue,
    (congrArg Sequencer.pendingService seq).trans pending⟩

theorem forcedReview_entry_other (d : Comp) (hd : d ≠ c) : (s.forcedReview c).entry d = s.entry d := by
  refine (enterReview_entry_other _ _ _ _ hd).trans ?_
  rw [State.entry, forcedWithdrawn_frame.1]
  rfl

theorem forcedReleasing_eq (x : Holding) : s.forcedReleasing c x = match x.claimant with
    | some .customer => (s.forcedReview c).post .console ((s.noteFull .notOpened c).withDetail .forced)
    | some .carrier => (s.forcedReview c).reportClaim c .forced
    | some .service => (s.forcedReview c).post .operations ((s.noteFull .notOpened c).withDetail .forced)
    | none => s.forcedReview c := by
  unfold State.forcedReleasing State.forcedReview State.forcedWithdrawn
  rcases x.claimant with _ | who
  · rfl
  · cases who <;> rfl

theorem forcedReleasing_entry (x : Holding) (d : Comp) :
    (s.forcedReleasing c x).entry d = (s.forcedReview c).entry d := by
  rw [forcedReleasing_eq]
  generalize s.forcedReview c = u
  rcases x.claimant with _ | who
  · rfl
  · cases who <;> rfl

theorem forcedReleasing_seq (x : Holding) : (s.forcedReleasing c x).seq = (s.forcedReview c).seq := by
  rw [forcedReleasing_eq]
  generalize s.forcedReview c = u
  rcases x.claimant with _ | who
  · rfl
  · cases who <;> rfl

/-- The state that a forced RESERVED holding leaves before its origin is told (R17). -/
def State.forcedDropped (s : State) (c : Comp) : State :=
  ((s.noteForced c true).withdraw c).removeHolding c .outOfService (some .forced)

theorem forcedReserved_eq (x : Holding) : s.forcedReserved c x = match x.origin with
    | .slot n => (s.forcedDropped c).reportDrop n c .forced none
    | .console => (s.forcedDropped c).post .console ((s.noteFull .returnDone c).withDetail .forced) := by
  unfold State.forcedReserved State.forcedDropped
  cases x.origin <;> rfl

theorem withdraw_entry (d : Comp) : (s.withdraw c).entry d = s.entry d := by
  rw [State.entry, (withdraw_frame s c).2.1]
  rfl

theorem forcedDropped_frame : (s.forcedDropped c).engine = s.engine ∧
    (s.forcedDropped c).ports = (s.noteForced c true).ports ∧
    (s.forcedDropped c).seq.queue = (s.withdraw c).seq.queue := by
  obtain ⟨-, -, -, -, -, engine, ports⟩ := withdraw_frame (s.noteForced c true) c
  obtain ⟨-, seq, -, removedEngine, removedPorts⟩ :=
    removeHolding_frame ((s.noteForced c true).withdraw c) c .outOfService (some .forced)
  exact ⟨removedEngine.trans engine, removedPorts.trans ports,
    (congrArg Sequencer.queue seq).trans (withdraw_queue_congr (t := s.noteForced c true) rfl)⟩

theorem forcedDropped_entry {x : Holding} (hx : s.holding c = some x) : (s.forcedDropped c).entry c =
    { s.entry c with state := .outOfService, cause := some .forced, holding := none } := by
  have same : ((s.noteForced c true).withdraw c).entry c = s.entry c := withdraw_entry c
  have held : ((s.noteForced c true).withdraw c).holding c = some x := (congrArg CompartmentEntry.holding same).trans hx
  rw [State.forcedDropped, removeHolding_entry_same _ _ _ _ _ held, same]

theorem forcedReserved_entry (x : Holding) (d : Comp) :
    (s.forcedReserved c x).entry d = (s.forcedDropped c).entry d := by
  rw [forcedReserved_eq]
  cases x.origin <;> rfl

theorem forcedReserved_seq (x : Holding) : (s.forcedReserved c x).seq = (s.forcedDropped c).seq := by
  rw [forcedReserved_eq]
  cases x.origin <;> rfl

theorem forced_free (st : s.custodyState c = .free) :
    s.custodyForced c = (s.noteForced c true).outOfService c .forced := by
  unfold State.custodyForced
  rw [st]

theorem forced_rest (st : (s.custodyState c).isRest = true) :
    s.custodyForced c = (s.noteForced c false).enterReview c .forced := by
  unfold State.custodyForced
  rcases (isRest_iff _).mp st with st | st | st <;> rw [st]

theorem forced_kept (st : s.custodyState c = .review ∨ s.custodyState c = .outOfService) :
    s.custodyForced c = (s.noteForced c false).addCause c .forced := by
  unfold State.custodyForced
  rcases st with st | st <;> rw [st]

theorem forced_reserved {x : Holding} (st : s.custodyState c = .reserved) (hx : s.holding c = some x) :
    s.custodyForced c = s.forcedReserved c x := by
  unfold State.custodyForced
  rw [st, hx]

theorem forced_releasing {x : Holding} (st : s.custodyState c = .releasing) (hx : s.holding c = some x) :
    s.custodyForced c = s.forcedReleasing c x := by
  unfold State.custodyForced
  rw [st, hx]

theorem forced_notFitted (st : s.custodyState c = .notFitted) : s.custodyForced c = s := by
  unfold State.custodyForced
  rw [st]

theorem forced_entry_other (d : Comp) (hd : d ≠ c) : (s.custodyForced c).entry d = s.entry d := by
  unfold State.custodyForced
  split
  case h_1 => rfl
  case h_2 => exact outOfService_entry_other _ _ _ _ hd
  case h_3 | h_4 | h_5 => exact enterReview_entry_other _ _ _ _ hd
  case h_6 | h_7 => exact addCause_entry_other _ _ _ hd
  case h_8 =>
    rw [forcedReserved_entry]
    exact (removeHolding_entry_other _ _ _ _ _ hd).trans (withdraw_entry d)
  case h_9 =>
    rw [forcedReleasing_entry]
    exact forcedReview_entry_other d hd
  all_goals rfl

theorem CompartmentEntry.empty_eq {e : CompartmentEntry} (h : e.holding = none) : { e with holding := none } = e := by
  cases e
  cases h
  rfl

theorem forcedRows : Claims.ForcedRows := by
  intro s c t plain outOf reviewed notOpened
  refine ⟨fun st => ?_, fun x hx => ⟨fun st => ?_, fun st => ?_, fun st => ?_, fun st => ?_, fun st => ?_⟩,
    fun st hx => ?_, forced_notFitted, forced_entry_other⟩
  · rw [show t = _ from forced_free st]
    exact ⟨outOfService_entry_same .., outOfService_ports ..⟩
  · rcases st with st | st
    · rw [show t = _ from forced_rest st]
      exact enterReview_entry_same _ _ _ _ hx
    · rw [show t = _ from forced_releasing st hx, forcedReleasing_entry]
      exact forcedReview_entry hx
  · rw [show t = _ from forced_rest st]
    exact enterReview_ports plain c .forced
  · rw [show t = _ from forced_kept st]
    exact ⟨addCause_entry_same _ _ _ hx, rfl⟩
  · obtain ⟨engine, ports, queue⟩ := forcedDropped_frame (s := s) (c := c)
    have forced : t = s.forcedReserved c x := forced_reserved st hx
    refine ⟨?_, ?_, fun n ho => ?_, fun ho => ?_⟩
    · rw [forced, forcedReserved_entry]
      exact forcedDropped_entry hx
    · rw [forced, forcedReserved_seq]
      exact queue
    · rw [forced, forcedReserved_eq, ho]
      exact ⟨ports, reportDrop_engine_congr engine ..⟩
    · rw [forced, forcedReserved_eq, ho]
      exact post_ports_congr ports ..
  · obtain ⟨engine, queue, pending⟩ := forcedReview_frame (s := s) (c := c)
    have forced : t = s.forcedReleasing c x := forced_releasing st hx
    have seq : t.seq = (s.forcedReview c).seq := (congrArg State.seq forced).trans (forcedReleasing_seq x)
    refine ⟨(congrArg Sequencer.queue seq).trans queue, (congrArg Sequencer.pendingService seq).trans pending,
      fun who => ?_, fun who => ?_, fun who => ?_⟩
    all_goals rw [forced, forcedReleasing_eq, who]
    · exact post_ports_congr forcedReview_ports ..
    · exact ⟨(reportClaim_ports c .forced).trans forcedReview_ports, reportClaim_engine_congr engine ..⟩
    · exact post_ports_congr forcedReview_ports ..
  · rw [show t = _ from forced_kept (.inr st)]
    refine ⟨(updHolding_entry_same ..).trans ?_, rfl⟩
    have empty : (s.noteForced c false).holding c = none := hx
    rw [empty]
    exact CompartmentEntry.empty_eq hx

theorem noticesNameTheConsignment : Claims.NoticesNameTheConsignment := fun _ _ _ _ _ => ⟨rfl, rfl, rfl⟩

/-- Settles O58, from the rows of closures, of inspections and of forced openings. -/
theorem closuresAndForcedOpenings : Obligations.ClosuresAndForcedOpenings :=
  ⟨closureRows, inspectionRows, otherClosures, forcedRows, noticesNameTheConsignment⟩

end Sys2Proof.Machine
end

section
/-! SUPPORT. The custody tick and the overstay scan. -/

namespace Sys2Proof.Machine

variable {s t : State} {c : Comp}

/-! ### The custody tick (R25, R189) -/

theorem custodyTicks_below (h : s.clock.minute < maxWord) :
    s.custodyTicks = if s.power.running then
      ((({ s with clock := { minute := s.clock.minute + 1, subMinute := 0 } } : State).begin).overstayScan).complete
      else { s with clock := { minute := s.clock.minute + 1, subMinute := 0 } } := if_pos h

theorem custodyTickCountsAMinute : Claims.CustodyTickCountsAMinute := by
  refine fun s quiet => ⟨fun below => ?_, fun top => ?_⟩
  · intro s1
    have settled : s1.Settled := quiet
    refine ⟨fun running => ?_, fun stopped => ?_⟩
    · have ticks : s.custodyTicks = (s1.overstayScan).complete := by
        rw [custodyTicks_below below, if_pos running, begin_of_settled (s := s1) settled]
      exact congrArg Host.Outcome.next ticks
    · have ticks : s.custodyTicks = s1 := by
        rw [custodyTicks_below below, if_neg (Bool.eq_false_iff.mp stopped)]
      exact congrArg Host.Outcome.next ticks
  · have ticks : s.custodyTicks = { s with clock := { s.clock with subMinute := 0 } } :=
      if_neg (by rw [top]; decide)
    exact congrArg Host.Outcome.next ticks

/-! ### The overstay scan (R25) -/

/-- A holding that the overstay scan moves (R25). -/
def State.overstays (s : State) (x : Holding) : Prop :=
  ∃ td, x.rest = some .held ∧ x.depositMinute = some td ∧ (s.tariff.classes.get x.tariffClass).l ≠ 0 ∧
    (s.tariff.classes.get x.tariffClass).l < s.clock.minute - td

/-- The state after a holding's rest state has become OVERSTAYED. -/
def State.overstayed (s : State) (c : Comp) : State := s.updHolding c fun x => { x with rest := some .overstayed }

theorem scanOne_overstays {x : Holding} (hx : s.holding c = some x) (h : s.overstays x) :
    s.scanOne c = if s.custodyState c = .held then
      ((s.overstayed c).setCustody c .overstayed).postBoth .courier .operations
        ((s.overstayed c).noteCode .overstayed c)
      else s.overstayed c := by
  obtain ⟨td, rest, minute, limited, exceeded⟩ := h
  unfold State.scanOne
  rw [hx]
  dsimp only
  rw [rest, minute]
  exact if_pos ⟨limited, exceeded⟩

theorem scanOne_left {x : Holding} {td : Nat} (hx : s.holding c = some x) (minute : x.depositMinute = some td)
    (h : x.rest ≠ some .held ∨ (s.tariff.classes.get x.tariffClass).l = 0 ∨
      s.clock.minute - td ≤ (s.tariff.classes.get x.tariffClass).l) : s.scanOne c = s := by
  unfold State.scanOne
  rw [hx]
  dsimp only
  rw [minute]
  split
  · rename_i rest found
    cases found
    refine if_neg ?_
    rintro ⟨limited, exceeded⟩
    rcases h with h | h | h
    · exact h rest
    · exact limited h
    · omega
  · rfl

theorem overstayed_entry {x : Holding} (hx : s.holding c = some x) :
    (s.overstayed c).entry c = { s.entry c with holding := some { x with rest := some .overstayed } } := by
  rw [State.overstayed, updHolding_entry_same, hx]
  rfl

theorem scanOne_entry_other (d : Comp) (hd : d ≠ c) : (s.scanOne c).entry d = s.entry d := by
  have moved : (s.overstayed c).entry d = s.entry d := updHolding_entry_other _ _ _ _ hd
  unfold State.scanOne
  split
  · rfl
  · split
    · dsimp only
      split
      · split
        · rw [postBoth_entry]
          exact (setCustody_entry_other _ _ _ _ hd).trans moved
        · exact moved
      · rfl
    · rfl

theorem overstayScanMovesHeld : Claims.OverstayScanMovesHeld := by
  intro s c x td hx minute limit
  refine ⟨fun rest limited exceeded => ?_, scanOne_left hx minute⟩
  rw [State.holding, State.custodyState, scanOne_overstays hx ⟨td, rest, minute, limited, exceeded⟩]
  by_cases held : s.custodyState c = .held
  · rw [if_pos held, if_pos held, postBoth_entry, setCustody_entry_same, overstayed_entry hx]
    exact ⟨rfl, rfl⟩
  · rw [if_neg held, if_neg held, overstayed_entry hx]
    exact ⟨rfl, rfl⟩

theorem overstayed_noteCode : (s.overstayed c).noteCode .overstayed c = s.noteCode .overstayed c := by
  refine noteCode_congr _ _ rfl rfl ?_
  cases hx : s.holding c with
  | none => simp [State.overstayed, State.holding] at hx ⊢; simp [hx]
  | some x =>
    rw [State.holding, overstayed_entry hx]
    rfl

theorem overstaysAreTold : Claims.OverstaysAreTold := by
  refine ⟨fun _ => rfl, List.pairwise_lt_finRange 144, List.mem_finRange, fun s c => ⟨scanOne_entry_other,
    fun x td hx rest minute => ?_⟩⟩
  intro limit n limited exceeded
  have moved := scanOne_overstays hx ⟨td, rest, minute, limited, exceeded⟩
  refine ⟨fun held => ?_, fun other => ?_⟩
  · rw [moved, if_pos held, overstayed_noteCode]
    exact postBoth_ports_congr (setCustody_ports ..) ..
  · rw [moved, if_neg other]
    rfl

/-- Settles O57, from the minute that a tick counts and the scan of one compartment. -/
theorem ticksAndOverstays : Obligations.TicksAndOverstays :=
  ⟨custodyTickCountsAMinute, overstayScanMovesHeld, overstaysAreTold⟩

end Sys2Proof.Machine
end

section
/-! SUPPORT. Release requests, failed releases, departures, paid returns and the pending service set. -/

namespace Sys2Proof.Machine

variable {s t : State} {c : Comp}

/-! ### Release requests (R146) -/

theorem requestAnswer_duplicate (h : s.hasEntry c = true) : s.requestAnswer c = .duplicate := if_pos h

theorem requestAnswer_qfull (h : s.hasEntry c = false) (full : 16 ≤ s.seq.queue.length) : s.requestAnswer c = .qfull :=
  (if_neg (Bool.eq_false_iff.mp h)).trans (if_pos full)

theorem requestAnswer_room (h : s.hasEntry c = false) (room : s.seq.queue.length < 16) : s.requestAnswer c = .taken :=
  (if_neg (Bool.eq_false_iff.mp h)).trans (if_neg (Nat.not_le.mpr room))

theorem requestAnswer_refused (h : s.hasEntry c = true ∨ 16 ≤ s.seq.queue.length) :
    s.requestAnswer c = .duplicate ∨ s.requestAnswer c = .qfull := by
  cases present : s.hasEntry c with
  | true => exact .inl (requestAnswer_duplicate present)
  | false => exact .inr (requestAnswer_qfull present (h.resolve_left (Bool.eq_false_iff.mp present)))

theorem request_refused {e : Entry} (h : s.requestAnswer e.comp = .duplicate ∨ s.requestAnswer e.comp = .qfull) :
    s.request e = s := by
  unfold State.request
  rcases h with h | h <;> rw [h]

theorem request_taken {e : Entry} (h : s.requestAnswer e.comp = .taken) : s.request e =
    if e.cls = .custody ∧ s.column e.comp.column = .disabled then s.failEntry e .columnDown else s.join e := by
  unfold State.request
  rw [h]

theorem releaseRequestRows : Claims.ReleaseRequestRows := by
  intro s e
  refine ⟨fun h => ?_, fun h full => ?_, fun h room => ?_⟩
  · have answer := requestAnswer_duplicate h
    exact ⟨answer, request_refused (.inl answer)⟩
  · have answer := requestAnswer_qfull h full
    exact ⟨answer, request_refused (.inr answer)⟩
  · have answer := requestAnswer_room h room
    refine ⟨answer, fun cls down => (request_taken answer).trans (if_pos ⟨cls, down⟩), fun other =>
      (request_taken answer).trans (if_neg ?_)⟩
    rintro ⟨cls, down⟩
    rcases other with other | other
    · exact other cls
    · exact other down

/-! ### Failed releases (R18, R80, R82, R85) -/

theorem failed_kept {f : Failure}
    (st : s.custodyState c = .free ∨ (s.custodyState c).isRest = true ∨ s.custodyState c = .review) :
    s.custodyFailed c f = if f = .lockFault then s.outOfService c .lockFault else s := by
  rw [isRest_iff] at st
  unfold State.custodyFailed
  rcases st with st | (st | st | st) | st <;> rw [st] <;> cases f <;> rfl

theorem failed_left {f : Failure} (st : s.custodyState c = .notFitted ∨ s.custodyState c = .loading ∨
    s.custodyState c = .emptying ∨ s.custodyState c = .outOfService) : s.custodyFailed c f = s := by
  unfold State.custodyFailed
  rcases st with st | st | st | st <;> rw [st]

theorem failed_reserved {f : Failure} {x : Holding} (st : s.custodyState c = .reserved) (hx : s.holding c = some x) :
    s.custodyFailed c f = s.failReserved c f x := by
  unfold State.custodyFailed
  rw [st, hx]

theorem failed_releasing {f : Failure} {x : Holding} (st : s.custodyState c = .releasing) (hx : s.holding c = some x) :
    s.custodyFailed c f = s.failReleasing c f x := by
  unfold State.custodyFailed
  rw [st, hx]

/-- A RESERVED holding that is dropped at a failure, before its origin is told. -/
def State.failedDrop (s : State) (c : Comp) : Failure → State
  | .lockFault => s.removeHolding c .outOfService (some .lockFault)
  | .columnDown => s.removeHolding c .free none

theorem failReserved_eq (f : Failure) (x : Holding) :
    s.failReserved c f x = (s.failedDrop c f).reportOrigin x.origin c f.status none := by
  cases f <;> rfl

theorem failedDrop_frame (f : Failure) :
    (s.failedDrop c f).engine = s.engine ∧ (s.failedDrop c f).ports = s.ports := by
  cases f
  · exact ⟨removeHolding_engine .., removeHolding_ports ..⟩
  · exact ⟨removeHolding_engine .., removeHolding_ports ..⟩

theorem failedDrop_entry_other (f : Failure) (d : Comp) (hd : d ≠ c) : (s.failedDrop c f).entry d = s.entry d := by
  cases f
  · exact removeHolding_entry_other _ _ _ _ _ hd
  · exact removeHolding_entry_other _ _ _ _ _ hd

/-- A RELEASING holding at a failure, before the end of its claim is reported. -/
def State.failedClaim (s : State) (c : Comp) : Failure → State
  | .lockFault => (s.updHolding c fun x => { x with claimant := none }).outOfService c .lockFault
  | .columnDown => s.toRest c

theorem failReleasing_carrier {x : Holding} (f : Failure) (who : x.claimant = some .carrier) :
    s.failReleasing c f x = (s.failedClaim c f).reportClaim c f.claimEnd := by
  unfold State.failReleasing
  rw [who]
  cases f <;> rfl

theorem failReleasing_other {x : Holding} (f : Failure) (who : x.claimant ≠ some .carrier) :
    s.failReleasing c f x = s.failedClaim c f := by
  unfold State.failReleasing State.failedClaim
  rcases hw : x.claimant with _ | w
  · cases f <;> rfl
  · cases w with
    | carrier => exact absurd hw who
    | customer => cases f <;> rfl
    | service => cases f <;> rfl

theorem failedClaim_frame (f : Failure) :
    (s.failedClaim c f).engine = s.engine ∧ (s.failedClaim c f).ports = s.ports := by
  cases f with
  | lockFault => exact ⟨outOfService_engine .., outOfService_ports ..⟩
  | columnDown => exact ⟨toRest_engine c, toRest_ports c⟩

theorem failedClaim_entry_other (f : Failure) (d : Comp) (hd : d ≠ c) : (s.failedClaim c f).entry d = s.entry d := by
  cases f with
  | lockFault => exact (outOfService_entry_other _ _ _ _ hd).trans (updHolding_entry_other _ _ _ _ hd)
  | columnDown => exact toRest_entry_other _ _ _ hd

theorem failReleasing_entry (f : Failure) (x : Holding) (d : Comp) :
    (s.failReleasing c f x).entry d = (s.failedClaim c f).entry d := by
  by_cases who : x.claimant = some .carrier
  · rw [failReleasing_carrier f who]
    exact reportClaim_entry ..
  · rw [failReleasing_other f who]

theorem failReleasing_ports (f : Failure) (x : Holding) : (s.failReleasing c f x).ports = s.ports := by
  by_cases who : x.claimant = some .carrier
  · rw [failReleasing_carrier f who]
    exact (failedClaim_frame f).2
  · rw [failReleasing_other f who]
    exact (failedClaim_frame f).2

theorem failed_entry_other (f : Failure) (d : Comp) (hd : d ≠ c) : (s.custodyFailed c f).entry d = s.entry d := by
  unfold State.custodyFailed
  split
  case h_1 =>
    rw [failReserved_eq, reportOrigin_entry]
    exact failedDrop_entry_other f d hd
  case h_2 =>
    rw [failReleasing_entry]
    exact failedClaim_entry_other f d hd
  case h_3 | h_4 | h_5 | h_6 | h_7 =>
    cases f
    · exact outOfService_entry_other _ _ _ _ hd
    · rfl
  all_goals rfl

theorem failed_ports (f : Failure) : (s.custodyFailed c f).ports = s.ports := by
  unfold State.custodyFailed
  split
  case h_1 =>
    rw [failReserved_eq, reportOrigin_ports]
    exact (failedDrop_frame f).2
  case h_2 => exact failReleasing_ports ..
  case h_3 | h_4 | h_5 | h_6 | h_7 =>
    cases f
    · exact outOfService_ports ..
    · rfl
  all_goals rfl

/-- What a failure reports to the engine (R80, R82, R85). -/
theorem failed_engine {x : Holding} (hx : s.holding c = some x) (f : Failure) :
    (s.custodyState c = .reserved →
      (∀ n, x.origin = .slot n → (s.custodyFailed c f).engine = (s.reportDrop n c f.status none).engine) ∧
      (x.origin = .console → (s.custodyFailed c f).engine = s.engine)) ∧
    (s.custodyState c = .releasing →
      (x.claimant = some .carrier → (s.custodyFailed c f).engine = (s.reportClaim c f.claimEnd).engine) ∧
      (x.claimant ≠ some .carrier → (s.custodyFailed c f).engine = s.engine)) := by
  refine ⟨fun st => ?_, fun st => ⟨fun who => ?_, fun who => ?_⟩⟩
  · rw [failed_reserved st hx, failReserved_eq]
    refine ⟨fun n ho => ?_, fun ho => ?_⟩
    all_goals rw [ho]
    · exact reportDrop_engine_congr (failedDrop_frame f).1 ..
    · exact (failedDrop_frame f).1
  · rw [failed_releasing st hx, failReleasing_carrier f who]
    exact reportClaim_engine_congr (failedClaim_frame f).1 ..
  · rw [failed_releasing st hx, failReleasing_other f who]
    exact (failedClaim_frame f).1

theorem failedReleaseRows : Claims.FailedReleaseRows := by
  refine ⟨fun s c => ⟨fun st => ?_, fun st f => failed_left (.inl st), fun st => ?_,
    fun x st hx => ⟨?_, fun r hr => ?_⟩, fun x st hx => ⟨?_, ?_⟩, fun st f => failed_left (.inr st)⟩,
    fun s c x hx => ?_⟩
  · rw [failed_kept (.inl st), failed_kept (.inl st)]
    exact ⟨outOfService_entry_same .., rfl⟩
  · rw [failed_kept (.inr st), failed_kept (.inr st)]
    exact ⟨outOfService_entry_same .., rfl⟩
  · rw [failed_releasing st hx, failReleasing_entry]
    refine (outOfService_entry_same ..).trans ?_
    rw [updHolding_entry_same, hx]
    rfl
  · rw [failed_releasing st hx, failReleasing_entry]
    exact toRest_entry_same _ _ _ _ hx hr
  · rw [failed_reserved st hx, failReserved_eq, reportOrigin_entry]
    exact removeHolding_entry_same _ _ _ _ _ hx
  · rw [failed_reserved st hx, failReserved_eq, reportOrigin_entry]
    exact removeHolding_entry_same _ _ _ _ _ hx
  · simp only [List.forall_mem_cons, List.not_mem_nil, false_implies, implies_true, and_true]
    exact ⟨⟨failed_ports _, failed_entry_other _, failed_engine hx .lockFault⟩,
      ⟨failed_ports _, failed_entry_other _, failed_engine hx .columnDown⟩⟩

/-! ### Reports of failures (R159, R160) -/

theorem failEntry_eq (e : Entry) (f : Failure) : s.failEntry e f =
    ((s.custodyFailed e.comp f).postBoth e.origin .operations
      { (s.noteFull .releaseFailed e.comp).withDetail f.detail with
        qualifier := some e.purpose.detail }).departed := rfl

/-- The consignment that a notice of a compartment names, by its kind (R42, R47). -/
theorem form_of_record {x : Holding} {k : Consignment} (hx : s.holding c = some x) (hk : s.record x.record = some k) :
    (k.kind = .delivery → s.form c = k.code.map ConsForm.code ∧ s.paidTotal c = 0) ∧
    (k.kind = .returnDrop → s.form c = some (.record x.record) ∧ s.paidTotal c = k.paidO + k.paidK) := by
  have consignment : s.consignment c = some k := by simp [State.consignment, hx, hk]
  refine ⟨fun kind => ?_, fun kind => ?_⟩
  · simp [State.form, State.paidTotal, hx, hk, kind, consignment]
  · simp [State.form, State.paidTotal, hx, hk, kind, consignment]

theorem form_none (h : s.holding c = none) : s.form c = none ∧ s.paidTotal c = 0 := by
  have consignment : s.consignment c = none := by simp [State.consignment, h]
  simp [State.form, State.paidTotal, h, consignment]

theorem failuresAreReported : Claims.FailuresAreReported := by
  refine ⟨fun s e f => ?_, fun s c => ⟨form_none, fun x k hx hk => form_of_record hx hk⟩, fun s col => rfl⟩
  intro t failure purpose n
  have noted : { (s.noteFull .releaseFailed e.comp).withDetail f.detail with
      qualifier := some e.purpose.detail } = n := by
    have word : f.detail = failure := by cases f <;> rfl
    have serves : e.purpose.detail = purpose := by
      unfold purpose
      cases e.purpose <;> rfl
    rw [word, serves]
    rfl
  rw [failEntry_eq, noted]
  exact ⟨fun ho => by rw [State.postBoth, if_pos ho, ho], fun ho => by rw [State.postBoth, if_neg ho]⟩

end Sys2Proof.Machine
end

section
/-! SUPPORT. Departures, the paid return list and the pending service set. -/

namespace Sys2Proof.Machine

variable {s t : State} {c : Comp}

/-! ### Departures (R147) -/

/-- A departure is contested where two of the three would ask (log 8). -/
theorem contested_iff : s.contested = true ↔
    (s.wants .engine = true ∧ s.wants .paid = true) ∨ (s.wants .engine = true ∧ s.wants .service = true) ∨
      (s.wants .paid = true ∧ s.wants .service = true) := by
  have counted : ∀ e p v : Bool, 2 ≤ ([e, p, v].filter id).length ↔
      (e = true ∧ p = true) ∨ (e = true ∧ v = true) ∨ (p = true ∧ v = true) := by decide
  have asked : ([Asker.engine, .paid, .service].filter s.wants).length =
      ([s.wants .engine, s.wants .paid, s.wants .service].filter id).length := by
    rw [← List.length_map (f := s.wants) (as := [Asker.engine, .paid, .service].filter s.wants)]
    exact congrArg List.length (List.filter_map (f := s.wants) (p := id) (l := [Asker.engine, .paid, .service])).symm
  rw [State.contested, decide_eq_true_eq, asked, counted]

theorem wants_engine : s.wants .engine = true ↔
    s.feedable ≠ none ∨ (s.engine.state = .running ∧ (s.slot s.engine.pointer).owner = .engine) := by
  simp [State.wants, State.engineOwns, Option.isSome_iff_ne_none]

theorem wants_paid : s.wants .paid = true ↔ s.paidReturns ≠ [] := by
  simp [State.wants]

theorem wants_service : s.wants .service = true ↔ s.seq.svcKey = true ∧ s.seq.pendingService ≠ [] := by
  simp [State.wants]

theorem tellDeparture_contested (h : s.contested = true) : s.tellDeparture =
    { s with signals := s.signals ++ (askOrders (Config.askOrder s.asks)).flatMap Asker.signals, asks := s.asks + 1 } :=
  if_pos h

theorem tellDeparture_alone (h : ¬ s.contested = true) : s.tellDeparture =
    { s with signals := s.signals ++ [.feed, .look, .offerPaid, .movePending] } := if_neg h

/-- The six orders are the orders of the three parties. -/
theorem askOrders_perm (k : Fin 6) :
    ((askOrders k).map Asker.signals).Perm [[.feed, .look], [.offerPaid], [.movePending]] := by
  decide +revert

theorem withdraw_removed {e : Entry} (he : s.entryOf c = some e) (queued : e.inFlight = false) :
    s.withdraw c = ((s.dropEntry c).departed).disarmIfLast c.column := by
  simp [State.withdraw, State.withdrawalFinds, he, queued]

theorem withdraw_left (h : ∀ e, s.entryOf c = some e → e.inFlight = true) : s.withdraw c = s := by
  unfold State.withdraw State.withdrawalFinds
  cases he : s.entryOf c with
  | none => rfl
  | some e => simp [h e he]

theorem disarmIfLast_armed {col : Column} {run : Nat} (h : s.column col = .armed run) (last : s.targeted col = false) :
    s.disarmIfLast col = s.setColumn col (.recovering (msUnits 50)) := by
  unfold State.disarmIfLast
  rw [h, last]
  rfl

theorem disarmIfLast_else {col : Column} (h : (∀ run, s.column col ≠ .armed run) ∨ s.targeted col = true) :
    s.disarmIfLast col = s := by
  unfold State.disarmIfLast
  split
  · rename_i run armed
    exact if_pos (h.resolve_left fun other => other run armed)
  all_goals rfl

theorem departuresAreTold : Claims.DeparturesAreTold := by
  refine ⟨fun s => ?_, fun s c => ?_⟩
  · intro engine paid service contested
    have asked : s.contested = true ↔ contested := by
      rw [contested_iff, wants_engine, wants_paid, wants_service]
    refine ⟨rfl, rfl, rfl, rfl, rfl, rfl, fun h => tellDeparture_alone fun hc => h (asked.mp hc), fun h => ?_⟩
    exact ⟨(askOrders (Config.askOrder s.asks)).map Asker.signals, askOrders_perm _,
      (tellDeparture_contested (asked.mpr h)).trans (by rw [List.flatMap_def])⟩
  · intro u
    refine ⟨fun e he queued => ⟨fun run armed last => ?_, fun other => ?_⟩, withdraw_left⟩
    · exact (withdraw_removed he queued).trans (disarmIfLast_armed (s := u) armed last)
    · exact (withdraw_removed he queued).trans (disarmIfLast_else (s := u) other)

/-! ### The paid return list (R45, R46, R141) -/

theorem waitingReturn_iff (n : RecordNo) : s.waitingReturn n = some c ↔ ∃ k rest, s.record n = some k ∧
    k.kind = .returnDrop ∧ k.pieces = c :: rest ∧ s.custodyState c = .reserved := by
  unfold State.waitingReturn
  cases hk : s.record n with
  | none => simp
  | some k =>
    cases kind : k.kind with
    | delivery => simp [kind]
    | returnDrop =>
      cases pieces : k.pieces with
      | nil => simp [kind, pieces]
      | cons d rest =>
        simp only [kind, pieces, List.head?_cons, Option.filter_eq_some_iff, Option.some.injEq, beq_iff_eq]
        constructor
        · rintro ⟨rfl, st⟩
          exact ⟨k, rest, rfl, kind, pieces, st⟩
        · rintro ⟨k', rest', rfl, -, split, st⟩
          rw [pieces] at split
          cases split
          exact ⟨rfl, st⟩

theorem releasePaidReturn_taken (n : RecordNo) (h : s.requestAnswer c = .taken) :
    s.releasePaidReturn n c = s.request (returnEntry c) := by
  simp [State.releasePaidReturn, h]

theorem releasePaidReturn_listed (n : RecordNo) (h : s.requestAnswer c = .duplicate ∨ s.requestAnswer c = .qfull) :
    s.releasePaidReturn n c = { s with paidReturns := s.paidReturns ++ [n] } := by
  rcases h with h | h <;> simp [State.releasePaidReturn, h]

theorem paidReleases_some {n : RecordNo} (h : s.waitingReturn n = some c) :
    s.paidReleases n = s.releasePaidReturn n c := by
  simp [State.paidReleases, h]

theorem offerPaid_taken {n : RecordNo} {rest : List RecordNo} (list : s.paidReturns = n :: rest)
    (waits : s.waitingReturn n = some c) (h : s.requestAnswer c = .taken) :
    s.offerPaid = ({ s with paidReturns := rest } : State).request (returnEntry c) := by
  simp [State.offerPaid, list, waits, h]

theorem offerPaid_refused {n : RecordNo} {rest : List RecordNo} (list : s.paidReturns = n :: rest)
    (waits : s.waitingReturn n = some c) (h : s.requestAnswer c = .duplicate ∨ s.requestAnswer c = .qfull) :
    s.offerPaid = s := by
  rcases h with h | h <;> simp [State.offerPaid, list, waits, h]

theorem paidReturnList : Claims.PaidReturnList := by
  intro s
  refine ⟨fun n c waits => ⟨fun clear room => ?_, fun full => ?_⟩, fun n alone => ?_, fun n c => waitingReturn_iff n,
    fun empty => ?_, fun n rest c list waits => ⟨fun clear room => ?_, fun full => ?_⟩⟩
  · exact (paidReleases_some waits).trans (releasePaidReturn_taken n (requestAnswer_room clear room))
  · exact (paidReleases_some waits).trans (releasePaidReturn_listed n (requestAnswer_refused full))
  · simp [State.paidReleases, alone]
  · simp [State.offerPaid, empty]
  · exact offerPaid_taken list waits (requestAnswer_room clear room)
  · exact offerPaid_refused list waits (requestAnswer_refused full)

/-! ### The pending service set (R163) -/

theorem pendingWaits_iff : s.pendingWaits c = true ↔ s.hasEntry c = true ∨ s.custodyState c = .reserved ∨
    s.custodyState c = .loading ∨ ((s.custodyState c = .releasing ∨ s.custodyState c = .emptying) ∧
      ∃ x, s.holding c = some x ∧ x.claimant ≠ some .service) := by
  unfold State.pendingWaits
  cases s.hasEntry c with
  | true => simp
  | false => cases st : s.custodyState c <;> cases s.holding c <;> simp

theorem movePass_full (rest : List Comp) (full : 16 ≤ s.seq.queue.length) : State.movePass (c :: rest) s = s :=
  if_pos full

theorem movePass_down (rest : List Comp) (room : s.seq.queue.length < 16) (down : s.column c.column = .disabled) :
    State.movePass (c :: rest) s = State.movePass rest
      ((s.setPending (s.seq.pendingService.filter (· != c))).failEntry (serviceEntry c) .columnDown) :=
  (if_neg (Nat.not_le.mpr room)).trans (if_pos down)

theorem movePass_waits (rest : List Comp) (room : s.seq.queue.length < 16) (up : s.column c.column ≠ .disabled)
    (waits : s.pendingWaits c = true) : State.movePass (c :: rest) s = State.movePass rest s :=
  (if_neg (Nat.not_le.mpr room)).trans ((if_neg up).trans (if_pos waits))

theorem movePass_moves (rest : List Comp) (room : s.seq.queue.length < 16) (up : s.column c.column ≠ .disabled)
    (moves : ¬ s.pendingWaits c = true) : State.movePass (c :: rest) s = State.movePass rest
      ((s.setPending (s.seq.pendingService.filter (· != c))).join (serviceEntry c)) := by
  have clear : s.hasEntry c = false := Bool.eq_false_iff.mpr fun h => moves (pendingWaits_iff.mpr (.inl h))
  have service : (serviceEntry c).cls ≠ .custody := by simp [serviceEntry, Entry.fresh]
  have answer : (s.setPending (s.seq.pendingService.filter (· != c))).requestAnswer c = .taken :=
    requestAnswer_room clear room
  have taken : (s.setPending (s.seq.pendingService.filter (· != c))).request (serviceEntry c) =
      (s.setPending (s.seq.pendingService.filter (· != c))).join (serviceEntry c) :=
    (request_taken (e := serviceEntry c) answer).trans (if_neg fun h => service h.1)
  rw [← taken]
  exact (if_neg (Nat.not_le.mpr room)).trans ((if_neg up).trans (if_neg moves))

theorem pendingServiceMoves : Claims.PendingServiceMoves := by
  refine ⟨fun s => ⟨fun on => if_pos on, fun off => if_neg (Bool.eq_false_iff.mp off), rfl⟩, fun s c rest => ?_,
    fun s c x => ?_⟩
  · intro left e keeps
    exact ⟨movePass_full rest, fun room => ⟨movePass_down rest room, fun up =>
      ⟨fun h => movePass_waits rest room up (pendingWaits_iff.mpr h),
        fun h => movePass_moves rest room up fun w => h (pendingWaits_iff.mp w)⟩⟩⟩
  · unfold State.setEntry
    simp only [List.contains_iff_mem]
    split
    · rfl
    · rfl

/-- Settles O51, from the answers to release requests, the rows of failures, and who is told of a departure. -/
theorem releaseRequests : Obligations.ReleaseRequests :=
  ⟨releaseRequestRows, failedReleaseRows, failuresAreReported, departuresAreTold, paidReturnList, pendingServiceMoves⟩

end Sys2Proof.Machine
end

section
/-! SUPPORT. The operations requests on releases: Test Pulse, Column Restore, Service Release, Withdraw Service and the
service key. -/

namespace Sys2Proof.Machine

variable {s t : State} {hd : Head} {c : Comp}

/-! ### What the checks read -/

theorem columnUp_iff : s.columnUp c = true ↔ s.column c.column ≠ .disabled := bne_iff_ne

theorem columnUp_false (h : s.column c.column = .disabled) : s.columnUp c = false := bne_eq_false_iff_eq.mpr h

theorem noRelease_true (entry : s.hasEntry c = false) (pending : s.pendingFor c = false) : s.noRelease c = true := by
  simp [State.noRelease, entry, pending]

theorem noRelease_false (h : s.hasEntry c = true ∨ s.pendingFor c = true) : s.noRelease c = false := by
  rcases h with h | h <;> simp [State.noRelease, h]

theorem queueRoom_true (h : s.seq.queue.length < 16) : s.queueRoom = true := decide_eq_true h

theorem queueRoom_false (h : 16 ≤ s.seq.queue.length) : s.queueRoom = false := decide_eq_false (Nat.not_lt.mpr h)

/-- A request of class SERVICE or TEST for a compartment without an entry joins the queue that has room (R146). -/
theorem request_joins {e : Entry} (cls : e.cls ≠ .custody) (clear : s.hasEntry e.comp = false)
    (room : s.seq.queue.length < 16) : s.request e = s.join e :=
  (request_taken (requestAnswer_room clear room)).trans (if_neg fun h => cls h.1)

/-! ### Test Pulse (R165) -/

/-- A Test Pulse past the common checks. -/
theorem guarded_testPulse (hi : s.InService) (c : Comp) : s.guarded (s.withComp c.val s.testPulse) = s.testPulse c :=
  guarded_withComp hi c _

theorem testPulse_fitted (fitted : s.custodyState c ≠ .notFitted) (empty : s.holding c = none) : s.testPulse c =
    s.check (s.columnUp c) .outOfService (s.check (s.noRelease c) .duplicate
      (s.check s.queueRoom .qfull (s.request (testEntry c), accepted []))) :=
  (check_passes _ _ (bne_iff_ne.mpr fitted)).trans (check_passes _ _ (Option.isNone_iff_eq_none.mpr empty))

theorem testPulse_free (fitted : s.custodyState c ≠ .notFitted) (empty : s.holding c = none)
    (up : s.column c.column ≠ .disabled) (entry : s.hasEntry c = false) (pending : s.pendingFor c = false) :
    s.testPulse c = s.check s.queueRoom .qfull (s.request (testEntry c), accepted []) :=
  (testPulse_fitted fitted empty).trans
    ((check_passes _ _ (columnUp_iff.mpr up)).trans (check_passes _ _ (noRelease_true entry pending)))

theorem testEntry_cls : (testEntry c).cls ≠ .custody := by simp [testEntry, Entry.fresh]

theorem testPulseChecksAndQueues : Claims.TestPulseChecksAndQueues := by
  intro h c s frame service
  have body := guarded_testPulse (s := s.frameTaken h.port) service c
  have refused : ∀ r, (s.frameTaken h.port).testPulse c = (s.frameTaken h.port).refuses r →
      exec (.testPulse h c.val) s = .next (s.refusedWith h 0x4E#8 r []) :=
    fun r hr => congrArg _ (serveOps_refuses frame (body.trans hr))
  refine ⟨fun n hn => congrArg _ (serveOps_refuses frame
      (guarded_withComp_above (s := s.frameTaken h.port) service hn _)),
    fun st => refused _ (check_fails _ _ (bne_eq_false_iff_eq.mpr st)), fun fitted => ⟨fun holds => refused _ ?_,
      fun empty => ⟨fun down => refused _ ?_, fun up => ⟨fun waits => refused _ ?_, fun entry pending =>
        ⟨fun full => refused _ ?_, fun room => ?_⟩⟩⟩⟩⟩
  · exact (check_passes _ _ (bne_iff_ne.mpr fitted)).trans
      (check_fails _ _ (Option.isNone_eq_false_iff.mpr (Option.isSome_iff_ne_none.mpr holds)))
  · exact (testPulse_fitted (s := s.frameTaken h.port) fitted empty).trans (check_fails _ _ (columnUp_false down))
  · exact (testPulse_fitted (s := s.frameTaken h.port) fitted empty).trans
      ((check_passes _ _ (columnUp_iff.mpr up)).trans (check_fails _ _ (noRelease_false waits)))
  · exact (testPulse_free (s := s.frameTaken h.port) fitted empty up entry pending).trans
      (check_fails _ _ (queueRoom_false full))
  · have queued : (s.frameTaken h.port).testPulse c = ((s.frameTaken h.port).join (testEntry c), accepted []) := by
      rw [testPulse_free (s := s.frameTaken h.port) fitted empty up entry pending,
        check_passes _ _ (queueRoom_true (s := s.frameTaken h.port) room),
        request_joins (s := s.frameTaken h.port) testEntry_cls entry room]
    exact congrArg _ (serve_completes frame rfl (body.trans queued))

/-! ### Column Restore (R161) -/

theorem columnRestore_val (col : Column) : s.columnRestore col.val = s.columnRestoreOn col := by
  simp [State.columnRestore]

theorem columnRestore_above {n : Nat} (h : 8 < n) : s.columnRestore n = s.refuses .format := by
  have none : columnOf n = none := dif_neg (by omega)
  simp [State.columnRestore, none]

theorem columnRestoreOn_none {col : Column} (down : s.column col = .disabled) (fresh : s.hasRestore col = false)
    (h : s.restoreComp col = none) : s.columnRestoreOn col = s.refuses .unknown := by
  refine (check_passes _ _ (beq_iff_eq.mpr down)).trans ((check_passes _ _ (congrArg not fresh)).trans ?_)
  rw [h]

theorem columnRestoreOn_some {col : Column} (down : s.column col = .disabled) (fresh : s.hasRestore col = false)
    (h : s.restoreComp col = some c) : s.columnRestoreOn col =
      s.check s.queueRoom .qfull (s.request { testEntry c with restore := true }, accepted [.u8 c.val]) := by
  refine (check_passes _ _ (beq_iff_eq.mpr down)).trans ((check_passes _ _ (congrArg not fresh)).trans ?_)
  rw [h]

theorem columnRestoreChecksAndQueues : Claims.ColumnRestoreChecksAndQueues := by
  intro h col s frame service
  have body : (s.frameTaken h.port).guarded ((s.frameTaken h.port).columnRestore col.val) =
      (s.frameTaken h.port).columnRestoreOn col :=
    (guarded_passes (s := s.frameTaken h.port) service).trans (columnRestore_val col)
  have refused : ∀ r, (s.frameTaken h.port).columnRestoreOn col = (s.frameTaken h.port).refuses r →
      exec (.columnRestore h col.val) s = .next (s.refusedWith h 0x4F#8 r []) :=
    fun r hr => congrArg _ (serveOps_refuses frame (body.trans hr))
  refine ⟨fun n hn => congrArg _ (serveOps_refuses frame ((guarded_passes (s := s.frameTaken h.port) service).trans
      (columnRestore_above hn))), fun up => refused _ (check_fails _ _ (beq_eq_false_iff_ne.mpr up)),
    fun down => ⟨fun again => refused _ ?_, fun fresh => ⟨fun none => refused _ ?_, fun c hc =>
      ⟨fun full => refused _ ?_, fun room entry => ?_⟩⟩⟩⟩
  · exact (check_passes _ _ (beq_iff_eq.mpr down)).trans (check_fails _ _ (congrArg not again))
  · exact columnRestoreOn_none (s := s.frameTaken h.port) down fresh none
  · exact (columnRestoreOn_some (s := s.frameTaken h.port) down fresh hc).trans
      (check_fails _ _ (queueRoom_false full))
  · have queued : (s.frameTaken h.port).columnRestoreOn col =
        ((s.frameTaken h.port).join { testEntry c with restore := true }, accepted [.u8 c.val]) := by
      rw [columnRestoreOn_some (s := s.frameTaken h.port) down fresh hc,
        check_passes _ _ (queueRoom_true (s := s.frameTaken h.port) room),
        request_joins (s := s.frameTaken h.port) (e := { testEntry c with restore := true })
          (testEntry_cls (c := c)) entry room]
    exact congrArg _ (serve_completes frame rfl (body.trans queued))

/-! ### Service Release (R23, R162) -/

theorem guarded_serviceRelease (hi : s.InService) (c : Comp) (b : Bool) :
    s.guarded (s.serviceReleaseOf c.val (some b)) = s.serviceRelease b c :=
  guarded_withComp hi c _

/-- A Service Release past the checks on the compartment and its column. -/
theorem serviceRelease_refused {b : Bool} {r : Reason} (fitted : s.custodyState c ≠ .notFitted)
    (up : s.column c.column ≠ .disabled) (h : s.releaseRefusal c b = some r) :
    s.serviceRelease b c = s.refuses r := by
  refine (check_passes _ _ (bne_iff_ne.mpr fitted)).trans ((check_passes _ _ (columnUp_iff.mpr up)).trans ?_)
  rw [h]

theorem serviceRelease_admitted {b : Bool} (fitted : s.custodyState c ≠ .notFitted)
    (up : s.column c.column ≠ .disabled) (h : s.releaseRefusal c b = none) :
    s.serviceRelease b c = s.check (s.noRelease c) .duplicate (s.serviceTaken c b) := by
  refine (check_passes _ _ (bne_iff_ne.mpr fitted)).trans ((check_passes _ _ (columnUp_iff.mpr up)).trans ?_)
  rw [h]

theorem serviceQueues_iff :
    s.serviceQueues = true ↔ s.seq.svcKey = true ∧ s.seq.pendingService = [] ∧ s.seq.queue.length < 16 := by
  have room : s.queueFree = 16 - s.seq.queue.length := rfl
  simp only [State.serviceQueues, Bool.and_eq_true, List.isEmpty_iff, decide_eq_true_eq, room, and_assoc,
    Nat.sub_pos_iff_lt]

theorem clearanceClaim_seq (b : Bool) : (s.clearanceClaim c b).seq = s.seq := by
  unfold State.clearanceClaim State.claim
  split
  · exact setCustody_seq ..
  · rfl

theorem serviceTaken_queued (b : Bool) (h : s.serviceQueues = true) (clear : s.hasEntry c = false) :
    s.serviceTaken c b = ((s.clearanceClaim c b).join (serviceEntry c), accepted [.u8 0]) := by
  obtain ⟨-, -, room⟩ := serviceQueues_iff.mp h
  have seq := clearanceClaim_seq (s := s) (c := c) b
  have entry : (s.clearanceClaim c b).hasEntry c = false := by rw [State.hasEntry, seq]; exact clear
  have free : (s.clearanceClaim c b).seq.queue.length < 16 := by rw [seq]; exact room
  refine (if_pos h).trans ?_
  rw [request_joins (e := serviceEntry c) (by simp [serviceEntry, Entry.fresh]) entry free]

theorem serviceTaken_pending (b : Bool) (h : ¬ s.serviceQueues = true) (few : s.seq.pendingService.length < 8) :
    s.serviceTaken c b =
      ((s.clearanceClaim c b).setPending (s.seq.pendingService ++ [c]), accepted [.u8 1]) := by
  refine (if_neg h).trans ((if_pos few).trans ?_)
  dsimp only
  rw [clearanceClaim_seq]

theorem serviceTaken_full (b : Bool) (h : ¬ s.serviceQueues = true) (many : 8 ≤ s.seq.pendingService.length) :
    s.serviceTaken c b = s.refuses .qfull := (if_neg h).trans (if_neg (Nat.not_lt.mpr many))

theorem releaseRefusal_clearance_iff : s.releaseRefusal c true = none ↔ (s.custodyState c).isRest = true := by
  refine ⟨releaseRefusal_rest, fun rest => ?_⟩
  unfold State.releaseRefusal
  rcases (isRest_iff _).mp rest with st | st | st <;> rw [st] <;> rfl

theorem serviceReleaseQueuesOrWaits : Claims.ServiceReleaseQueuesOrWaits := by
  intro h c b s frame service fitted up admitted entry pending s0 s1
  have body : s0.guarded (s0.serviceReleaseOf c.val (some b)) = s0.serviceTaken c b :=
    (guarded_serviceRelease (s := s0) service c b).trans ((serviceRelease_admitted (s := s0) fitted up admitted).trans
      (check_passes _ _ (noRelease_true entry pending)))
  refine ⟨fun key empty room => ?_, fun waits => ?_, releaseRefusal_clearance_iff⟩
  · exact congrArg _ (serve_completes frame rfl (body.trans
      (serviceTaken_queued (s := s0) b (serviceQueues_iff.mpr ⟨key, empty, room⟩) entry)))
  · have later : ¬ s0.serviceQueues = true := by
      intro queues
      obtain ⟨key, empty, room⟩ := serviceQueues_iff.mp queues
      rcases waits with off | some | full
      · exact Bool.eq_false_iff.mp off key
      · exact some empty
      · exact Nat.not_lt.mpr full room
    refine ⟨fun few => ?_, fun many => ?_⟩
    · exact congrArg _ (serve_completes frame rfl (body.trans (serviceTaken_pending (s := s0) b later few)))
    · exact congrArg _ (serveOps_refuses frame (body.trans (serviceTaken_full (s := s0) b later many)))

theorem serviceReleaseRefuses : Claims.ServiceReleaseRefuses := by
  intro h s frame service run refused
  refine ⟨fun n => congrArg _ (serveOps_refuses frame (guarded_passes (s := s.frameTaken h.port) service)),
    fun n b hn => congrArg _ (serveOps_refuses frame (guarded_withComp_above (s := s.frameTaken h.port) service hn _)),
    fun c b => ?_⟩
  have answers : ∀ b r, (s.frameTaken h.port).serviceRelease b c = (s.frameTaken h.port).refuses r →
      run c.val (some b) = refused r := fun b r hr => congrArg _ (serveOps_refuses frame
    ((guarded_serviceRelease (s := s.frameTaken h.port) service c b).trans hr))
  refine ⟨fun st => answers _ _ (check_fails _ _ (bne_eq_false_iff_eq.mpr st)), fun fitted down => answers _ _
    ((check_passes _ _ (bne_iff_ne.mpr fitted)).trans (check_fails _ _ (columnUp_false down))), fun up => ?_⟩
  have custody : ∀ b r, s.custodyState c ≠ .notFitted → s.releaseRefusal c b = some r →
      run c.val (some b) = refused r :=
    fun b r fitted hr => answers _ _ (serviceRelease_refused (s := s.frameTaken h.port) fitted up hr)
  refine ⟨fun st => custody _ _ ?_ ?_, fun st => custody _ _ ?_ ?_, fun st => custody _ _ ?_ ?_,
    fun st => custody _ _ ?_ ?_, fun st holds => custody _ _ ?_ ?_, fun st => ?_⟩
  · rcases st with st | st <;> simp [st]
  · rcases st with st | st <;> cases b <;> simp [State.releaseRefusal, st, serviceRefusal, clearanceRefusal]
  · rcases st with st | st <;> simp [st]
  · rcases st with st | st <;> cases b <;> simp [State.releaseRefusal, st, serviceRefusal, clearanceRefusal]
  · rcases st with st | ⟨st, -⟩ <;> simp [st]
  · rcases st with st | ⟨st, empty⟩
    · simp [State.releaseRefusal, st, clearanceRefusal]
    · simp [State.releaseRefusal, st, clearanceRefusal, empty]
  · simp [st]
  · simp [State.releaseRefusal, st, clearanceRefusal]
  · simp [st]
  · simp [State.releaseRefusal, st, clearanceRefusal, Option.isSome_iff_ne_none.mpr holds]
  · have admitted : s.releaseRefusal c b = none := by
      rw [isRest_iff] at st
      rcases st with (st | st | st) | ⟨rfl, st | st | st⟩
      all_goals simp [State.releaseRefusal, st, serviceRefusal, clearanceRefusal]
    have fitted : s.custodyState c ≠ .notFitted := by
      rw [isRest_iff] at st
      rcases st with (st | st | st) | ⟨-, st | st | st⟩
      all_goals simp [st]
    exact ⟨admitted, fun waits => answers _ _ ((serviceRelease_admitted (s := s.frameTaken h.port) fitted up
      admitted).trans (check_fails _ _ (noRelease_false waits)))⟩

/-! ### Withdraw Service (R19, R164) -/

theorem pendingWithdrawn_claimed (st : s.custodyState c = .releasing)
    (who : (s.holding c).any (fun x => x.claimant == some .service) = true) :
    s.pendingWithdrawn c = (s.setPending (s.seq.pendingService.filter (· != c))).toRest c :=
  if_pos ((Bool.and_eq_true _ _).mpr ⟨beq_iff_eq.mpr st, who⟩)

theorem pendingWithdrawn_other (h : s.custodyState c ≠ .releasing ∨
    (s.holding c).any (fun x => x.claimant == some .service) = false) :
    s.pendingWithdrawn c = s.setPending (s.seq.pendingService.filter (· != c)) := by
  refine if_neg fun both => ?_
  obtain ⟨st, who⟩ := (Bool.and_eq_true _ _).mp both
  rcases h with h | h
  · exact h (beq_iff_eq.mp st)
  · exact Bool.eq_false_iff.mp h who

theorem withdrawServiceByPlace : Claims.WithdrawServiceByPlace := by
  intro h c s frame service
  have body : (s.frameTaken h.port).withComp c.val (s.frameTaken h.port).withdrawService =
      if s.pendingFor c then ((s.frameTaken h.port).pendingWithdrawn c, done [])
      else if s.hasService c then (s.frameTaken h.port).refuses .occupied
      else (s.frameTaken h.port).refuses .unknown :=
    (withComp_val c _).trans (guarded_passes (s := s.frameTaken h.port) service)
  refine ⟨fun waits => ?_, fun clear present => ?_, fun clear absent => ?_, fun n hn => ?_⟩
  · intro s1
    have settled : s1.Settled := frame.1
    refine ⟨fun st who => ?_, fun other => ?_⟩
    · have withdrawn := pendingWithdrawn_claimed (s := s.frameTaken h.port) st who
      exact congrArg _ (serve_completes frame rfl (body.trans ((if_pos waits).trans (by rw [withdrawn]; rfl))))
    · have withdrawn := pendingWithdrawn_other (s := s.frameTaken h.port) other
      exact congrArg _ (serve_answers frame rfl (body.trans ((if_pos waits).trans (by rw [withdrawn]; rfl))) settled)
  · exact congrArg _ (serveOps_refuses frame
      (body.trans ((if_neg (Bool.eq_false_iff.mp clear)).trans (if_pos present))))
  · exact congrArg _ (serveOps_refuses frame
      (body.trans ((if_neg (Bool.eq_false_iff.mp clear)).trans (if_neg (Bool.eq_false_iff.mp absent)))))
  · exact congrArg _ (serveOps_refuses frame (withComp_above hn _))

/-! ### The service key (R163) -/

theorem serviceKeyMovesPendingEntries : Claims.ServiceKeyMovesPendingEntries := by
  refine fun s running => ⟨fun off => ?_, fun on => ?_, exec_event_quiet rfl running rfl running.1⟩
  · exact exec_event rfl running (if_neg (Bool.eq_false_iff.mp off))
  · exact exec_event_quiet rfl running (if_pos on) running.1

/-- Settles O50, from the checks of the requests on releases in their order. -/
theorem releasesByOperations : Obligations.ReleasesByOperations :=
  ⟨testPulseChecksAndQueues, columnRestoreChecksAndQueues, serviceReleaseQueuesOrWaits, serviceReleaseRefuses,
    withdrawServiceByPlace, serviceKeyMovesPendingEntries⟩

end Sys2Proof.Machine
end

section
/-! SUPPORT. The checks of a code, and the end of the lockout. -/

namespace Sys2Proof.Machine

variable {s : State} {hd : Head} {n : Nat} {text : Text} (f : State → RecordNo → Consignment → State × Answer)

/-! ### The checks of a code (R32 to R35) -/

theorem withCode_format (h : parseCode text = none) : s.withCode text f = s.refuses .format := by
  simp [State.withCode, h]

theorem withCode_locked {left : Nat} (h : parseCode text = some n) (locked : s.limiter.lockout = some left) :
    s.withCode text f = (s, refuseWith .locked [.u16 (secondsUp left)]) := by
  simp [State.withCode, h, locked]

theorem withCode_unknown (h : parseCode text = some n) (unlocked : s.limiter.lockout = none)
    (unused : s.findCode n = none) : s.withCode text f = (s.wrongAttempt, refuse .unknown) := by
  simp [State.withCode, h, unlocked, State.codeRecord, unused]

/-- A wrong attempt on an unlocked limiter (R34). -/
theorem wrongAttempt_unlocked (unlocked : s.limiter.lockout = none) :
    s.wrongAttempt = { s with limiter := {
      count := s.limiter.count + 1
      lockout := if 5 ≤ s.limiter.count + 1 then some (secUnits 300) else none } } := by
  simp [State.wrongAttempt, unlocked]

/-- A request with a code, of a console in service. -/
def State.serveCode (s : State) (hd : Head) (code : Byte) (text : Text)
    (f : State → RecordNo → Consignment → State × Answer) : State :=
  s.serve hd code (only .console) 8 fun t => t.guarded (t.withCode text f)

/-- A request whose code's checks refuse it (R32). -/
theorem serveCode_refuses {t : State} {code : Byte} {r : Reason} {fields : List Field}
    (frame : s.FramePasses hd .console 8) (service : s.InService) (settled : t.Settled)
    (refused : (s.frameTaken hd.port).withCode text f = (t.frameTaken hd.port, refuseWith r fields)) :
    s.serveCode hd code text f = t.refusedWith hd code r fields :=
  serve_refuses frame rfl settled ((guarded_passes (s := s.frameTaken hd.port) service).trans refused)

theorem codeChecks : Claims.CodeChecks := by
  intro hd text s frame service p hp
  have quiet : s.Settled := frame.1
  obtain ⟨f, served⟩ : ∃ f, exec p.1 s = .next (s.serveCode hd p.2 text f) := by
    simp only [List.mem_cons, List.not_mem_nil, or_false] at hp
    rcases hp with rfl | rfl | rfl
    · exact ⟨State.lookupKnown, rfl⟩
    · exact ⟨State.quoteKnown, rfl⟩
    · exact ⟨State.collectKnown, rfl⟩
  rw [served]
  refine ⟨fun h => ?_, fun n left h locked => ?_, fun n h unlocked unused => ?_⟩
  · exact congrArg _ (serveCode_refuses f frame service quiet (withCode_format f h))
  · exact congrArg _ (serveCode_refuses f frame service quiet (withCode_locked f h locked))
  · refine congrArg _ (serveCode_refuses f frame service quiet ?_)
    rw [withCode_unknown (s := s.frameTaken hd.port) f h unlocked unused]
    exact congrArg (·, refuse .unknown) (wrongAttempt_unlocked (s := s.frameTaken hd.port) unlocked)

/-! ### The end of the lockout (R35) -/

theorem lockoutEndUnlocks : Claims.LockoutEndUnlocks := by
  refine fun s running => ⟨fun locked => ?_, fun unlocked => ?_⟩
  · obtain ⟨left, locked⟩ := Option.ne_none_iff_exists'.mp locked
    exact exec_event_quiet rfl running (by simp [State.lockoutEnds, locked]) running.1
  · exact exec_event_quiet rfl running (by simp [State.lockoutEnds, unlocked]) running.1

/-- Settles O44, from the checks of a code in their order and the end of the lockout timer. -/
theorem codesAndTheLimiter : Obligations.CodesAndTheLimiter :=
  ⟨codeChecks, lockoutEndUnlocks⟩

end Sys2Proof.Machine
end

section
/-! SUPPORT. `Inner` for the changes that requests and events make: what holds of each outcome of a block's checks, and
the operations of every command that changes none of the parts which only commands of their own change. -/

namespace Sys2Proof.Machine

/-! ### What the checks of a block end in -/

section
variable {P : State → Prop} {t : State} {b : State × Answer}

theorem check_keeps (h : P t) (ok : Bool) (r : Reason) (hb : ok = true → P b.1) : P (t.check ok r b).1 := by
  unfold State.check
  split
  · rename_i pass
    exact hb pass
  · exact h

theorem unlessRestoring_keeps (h : P t) (hb : P b.1) : P (t.unlessRestoring b).1 := by
  unfold State.unlessRestoring
  split
  · exact h
  · exact hb

theorem guarded_keeps (h : P t) (hb : P b.1) : P (t.guarded b).1 := by
  refine unlessRestoring_keeps h ?_
  unfold State.unlessUncommissioned
  split
  · exact hb
  · exact h

theorem withComp_keeps {body : Comp → State × Answer} (h : P t) (n : Nat) (hb : ∀ c, P (body c).1) :
    P (t.withComp n body).1 := by
  unfold State.withComp
  split
  · exact h
  · exact hb _

theorem withSlot_keeps {body : RingSlot → State × Answer} (h : P t) (n : Nat) (hb : ∀ i, P (body i).1) :
    P (t.withSlot n body).1 := by
  unfold State.withSlot
  split
  · exact h
  · exact hb _

theorem withCarrier_keeps {body : Fin 8 → State × Answer} (h : P t) (n : Nat) (hb : ∀ i, P (body i).1) :
    P (t.withCarrier n body).1 := by
  unfold State.withCarrier
  split
  · exact h
  · exact hb _

theorem withCharge_keeps {body : ChargeSlot → ChargeRecord → State × Answer} (h : P t) (slot gen : Nat)
    (hb : ∀ i r, P (body i r).1) : P (t.withCharge slot gen body).1 := by
  unfold State.withCharge
  split
  · exact h
  · split
    · exact h
    · exact hb _ _

theorem withCode_keeps {body : State → RecordNo → Consignment → State × Answer} (h : P t) (code : Text)
    (wrong : P t.wrongAttempt) (known : ∀ n k, P (body t.knownAttempt n k).1) : P (t.withCode code body).1 := by
  unfold State.withCode
  split
  · exact h
  · split
    · exact h
    · split
      · exact wrong
      · exact known _ _

/-- Resolve Review (R27). -/
theorem resolve_keeps {act : Comp → State} (h : P t) (ok : Bool) (n : Nat) (ha : ∀ c, P (act c)) :
    P (t.resolve ok n act).1 := by
  refine guarded_keeps h (check_keeps h _ _ fun _ => withComp_keeps h _ fun c => ?_)
  split
  · exact h
  · split
    case h_1 => exact ha c
    all_goals exact h

/-- The end of a pulse acts on an entry of the queue (R157 to R159). -/
theorem pulseEnds_keeps (h : P t) (col : Column) (admits : EntryClass → Bool) (act : State → Entry → State)
    (ha : ∀ e ∈ t.seq.queue, P (act t e)) : P (t.pulseEnds col admits act) := by
  unfold State.pulseEnds
  split
  · exact h
  · rename_i e found
    split
    · refine ha e ?_
      unfold State.pulsingEntry State.flyingOn at found
      split at found
      · exact List.mem_of_find?_eq_some found
      · cases found
    · exact h

end

variable {s t : State}

/-! ### Charges -/

theorem Inner.voidCharge (i : ChargeSlot) (k : EndCause) (h : Inner s t) : Inner s (t.voidCharge i k).1 := by
  unfold State.voidCharge
  dsimp only
  split
  · exact (h.endCharge ..).dropReserved _
  · exact h.endCharge ..

theorem Inner.voidAll : ∀ (l : List ChargeSlot) (t : State), Inner s t → Inner s (State.voidAll l t).1
  | [], _, h => h
  | i :: l, t, h => by
    unfold State.voidAll
    split
    · exact Inner.voidAll l _ (h.voidCharge ..)
    · exact Inner.voidAll l _ h

theorem Inner.dropForCharge (r : ChargeRecord) (d : Detail) (h : Inner s t) :
    Inner s (t.dropForCharge r d) := by
  unfold State.dropForCharge
  split
  · exact (h.dropReserved _).post ..
  · exact h

theorem Inner.expireCharge (i : ChargeSlot) (h : Inner s t) : Inner s (t.expireCharge i) := by
  unfold State.expireCharge
  split
  · exact ((h.endCharge ..).postBoth ..).dropForCharge ..
  · exact h

/-! ### The console -/

theorem Inner.resetRole (r : Option Role) (h : Inner s t) : Inner s (t.resetRole r).1 := by
  unfold State.resetRole
  split
  · exact Inner.voidAll _ _ h
  · exact h.engineStop
  all_goals exact h

theorem Inner.quoteOpens (n : RecordNo) (k : Consignment) (ev : Evaluation) (h : Inner s t) :
    Inner s (t.quoteOpens n k ev).1 := by
  unfold State.quoteOpens
  dsimp only
  split
  · exact h
  · exact (h.voidOpen ..).openIn ..

theorem Inner.voidNamed (i : ChargeSlot) (r : ChargeRecord) (h : Inner s t) : Inner s (t.voidNamed i r).1 := by
  unfold State.voidNamed
  split
  · exact h.voidCharge ..
  all_goals exact h

theorem Inner.releaseNamed (i : ChargeSlot) (r : ChargeRecord) (h : Inner s t) :
    Inner s (t.releaseNamed i r).1 := by
  unfold State.releaseNamed
  split
  · exact h.freeSlot _
  · exact h

theorem Inner.collectClaims (n : RecordNo) (k : Consignment) (h : Inner s t) : Inner s (t.collectClaims n k).1 := by
  unfold State.collectClaims
  split
  · exact h
  · refine check_keeps h _ _ fun _ => check_keeps h _ _ fun _ => ?_
    have claimed := Inner.foldl (fun u c => u.claim c .customer) (fun _ _ hu => hu.claim ..) k.pieces t h
    exact Inner.foldl _ (fun _ _ hu => hu.requestFresh ..) _ _ (claimed.voidOpen ..)

theorem Inner.returnMatched (i : Fin 8) (z : SizeClass) (ref : Option Text) (h : Inner s t) :
    Inner s (t.returnMatched i z ref).1 := by
  refine check_keeps h _ _ fun _ => check_keeps h _ _ fun _ => check_keeps h _ _ fun _ => ?_
  split
  · refine check_keeps h _ _ fun _ => ?_
    unfold State.returnAccepted
    dsimp only
    split
    · exact (h.commitReturn ..).requestFresh ..
    · split
      · exact h
      · exact (h.commitReturn ..).openIn ..
  all_goals exact h

theorem Inner.returnBegin (id : Nat) (z : Option SizeClass) (ref : Text) (h : Inner s t) :
    Inner s (t.returnBegin id z ref).1 := by
  unfold State.returnBegin
  split
  · exact h
  · refine check_keeps h _ _ fun _ => ?_
    split
    · exact h.returnMatched ..
    all_goals exact h

theorem Inner.returnCancelOf (k : Consignment) (h : Inner s t) : Inner s (t.returnCancelOf k).1 := by
  unfold State.returnCancelOf
  split
  · exact h
  · exact check_keeps h _ _ fun _ => check_keeps h _ _ fun _ => check_keeps h _ _ fun _ =>
      ((h.withdraw _).voidOpen ..).dropReserved _

theorem Inner.returnCancel (n : Nat) (h : Inner s t) : Inner s (t.returnCancel n).1 := by
  unfold State.returnCancel
  split
  · exact h
  · split
    · exact h
    · split
      · exact h
      · exact h.returnCancelOf _

/-! ### The courier and the payment module -/

theorem Inner.slotWrite (i : RingSlot) (f : SlotFields) (h : Inner s t) : Inner s (t.slotWrite i f).1 := by
  unfold State.slotWrite
  split
  · exact h
  · exact check_keeps h _ _ fun _ => h.putSlot ..

theorem Inner.handOver (i : RingSlot) (n : Nat) (h : Inner s t) : Inner s (t.handOver i n).1 :=
  check_keeps h _ _ fun _ => check_keeps h _ _ fun _ =>
    (Inner.foldl State.handSlot (fun _ _ hu => hu.putSlot ..) _ _ h).emit _

theorem Inner.engineStart (i : RingSlot) (h : Inner s t) : Inner s (t.engineStart i).1 :=
  guarded_keeps h (check_keeps h _ _ fun _ => ((h.setPointer i).setEngine _).emit _)

theorem Inner.engineResume (h : Inner s t) : Inner s t.engineResume.1 := by
  refine unlessRestoring_keeps h ?_
  split
  · exact (h.setEngine _).emit _
  all_goals exact h

theorem Inner.fetchNamed (i : ChargeSlot) (r : ChargeRecord) (h : Inner s t) : Inner s (t.fetchNamed i r).1 := by
  unfold State.fetchNamed
  split
  · exact h.putCharge ..
  all_goals exact h

theorem Inner.fetchCharge (ref : Option (Nat × Nat)) (h : Inner s t) : Inner s (t.fetchCharge ref).1 := by
  refine unlessRestoring_keeps h ?_
  split
  · exact withCharge_keeps h _ _ fun _ _ => h.fetchNamed ..
  · split
    · exact h.fetchNamed ..
    · exact h

theorem Inner.paidReleases (n : RecordNo) (h : Inner s t) : Inner s (t.paidReleases n) := by
  unfold State.paidReleases
  split
  · exact h.releasePaidReturn ..
  · exact h

theorem Inner.settleCharge (i : ChargeSlot) (r : ChargeRecord) (h : Inner s t) :
    Inner s (t.settleCharge i r).1 := by
  unfold State.settleCharge
  refine Inner.post _ _ ?_
  split
  · exact ((h.endCharge ..).updRecord ..).paidReleases _
  · exact h.endCharge ..

theorem Inner.declineCharge (i : ChargeSlot) (r : ChargeRecord) (k : EndCause) (b : Bool) (h : Inner s t) :
    Inner s (t.declineCharge i r k b).1 := ((h.endCharge ..).post ..).dropForCharge ..

theorem Inner.lateResult (i : ChargeSlot) (r : ChargeRecord) (o : CardOutcome) (x y : Nat) (h : Inner s t) :
    Inner s (t.lateResult i r o x y).1 := by
  unfold State.lateResult
  dsimp only
  exact h.postBoth ..

theorem Inner.resultFor (o : CardOutcome) (x y : Nat) (i : ChargeSlot) (r : ChargeRecord) (h : Inner s t) :
    Inner s (t.resultFor o x y i r).1 := by
  unfold State.resultFor
  split
  · split
    · split
      · exact h.settleCharge ..
      · exact h.declineCharge ..
    · exact h.declineCharge ..
  case h_2 | h_3 | h_4 => exact h
  all_goals exact h.lateResult ..

theorem Inner.paymentResult (slot gen : Nat) (o : Option CardOutcome) (x y : Nat) (h : Inner s t) :
    Inner s (t.paymentResult slot gen o x y).1 := by
  unfold State.paymentResult
  split
  · split
    · exact h
    · split
      · exact h
      · exact h.resultFor ..
  · exact h

/-! ### Operations on custody -/

theorem Inner.setCompartment (n : Nat) (f : Option Bool) (z : Option SizeClass) (u : Option UseClass)
    (h : Inner s t) : Inner s (t.setCompartment n f z u).1 := by
  refine unlessRestoring_keeps h ?_
  split
  · refine check_keeps h _ _ fun _ => ?_
    unfold State.fitComp
    dsimp only
    split
    · exact h.setEntry ..
    · exact (h.setEntry ..).setDoor ..
  · exact h

theorem Inner.withholdReview (c : Comp) (h : Inner s t) : Inner s (t.withholdReview c).1 := by
  unfold State.withholdReview
  split
  · exact h
  · split
    case h_1 | h_2 | h_3 => exact h.enterReview ..
    case h_4 => exact h.addCause ..
    all_goals exact h

theorem Inner.withholdOos (c : Comp) (h : Inner s t) : Inner s (t.withholdOos c).1 := by
  unfold State.withholdOos
  split
  case h_1 | h_2 | h_3 | h_4 | h_5 => exact h.outOfService ..
  all_goals exact h

theorem Inner.restore (c : Comp) (h : Inner s t) : Inner s (t.restore c) := (h.updHolding ..).toRest c

theorem Inner.waive (c : Comp) (h : Inner s t) : Inner s (t.waive c) := by
  unfold State.waive
  split
  · exact (h.updRecord ..).restore c
  · exact h.restore c

theorem Inner.returnToService (c : Comp) (h : Inner s t) : Inner s (t.returnToService c).1 := by
  refine check_keeps h _ _ fun _ => check_keeps h _ _ fun _ => check_keeps h _ _ fun _ => ?_
  unfold State.returned
  split
  · exact h.setEntry ..
  · exact (h.restore c).putEntry ..

theorem Inner.restMoves (c : Comp) (sel : BitVec 16) (v : AmendFields) (h : Inner s t) :
    Inner s (t.restMoves c sel v) := by
  unfold State.restMoves
  split
  · exact h.setCustody ..
  · exact h.setCustody ..
  · exact h

theorem Inner.amendHolding (sel : BitVec 16) (v : AmendFields) (c : Comp) (h : Inner s t) :
    Inner s (t.amendHolding sel v c).1 := by
  unfold State.amendHolding
  split
  · exact h
  · exact check_keeps h _ _ fun _ => ((h.updHolding ..).updRecord ..).restMoves ..

/-! ### Operations on releases -/

theorem Inner.clearanceClaim (c : Comp) (b : Bool) (h : Inner s t) : Inner s (t.clearanceClaim c b) := by
  unfold State.clearanceClaim
  split
  · exact h.claim ..
  · exact h

theorem Inner.serviceTaken (c : Comp) (b : Bool) (h : Inner s t) : Inner s (t.serviceTaken c b).1 := by
  unfold State.serviceTaken
  split
  · exact (h.clearanceClaim c b).requestFresh ..
  · split
    · exact (h.clearanceClaim c b).setPending _
    · exact h

theorem Inner.serviceRelease (b : Bool) (c : Comp) (h : Inner s t) : Inner s (t.serviceRelease b c).1 := by
  refine check_keeps h _ _ fun _ => check_keeps h _ _ fun _ => ?_
  split
  · exact h
  · exact check_keeps h _ _ fun _ => h.serviceTaken c b

theorem Inner.serviceReleaseOf (n : Nat) (b : Option Bool) (h : Inner s t) : Inner s (t.serviceReleaseOf n b).1 := by
  unfold State.serviceReleaseOf
  split
  · exact h
  · exact withComp_keeps h _ fun c => h.serviceRelease _ c

theorem Inner.pendingWithdrawn (c : Comp) (h : Inner s t) : Inner s (t.pendingWithdrawn c) := by
  unfold State.pendingWithdrawn
  dsimp only
  split
  · exact (h.setPending _).toRest c
  · exact h.setPending _

theorem Inner.withdrawService (c : Comp) (h : Inner s t) : Inner s (t.withdrawService c).1 := by
  refine guarded_keeps h ?_
  split
  · exact h.pendingWithdrawn c
  · split
    · exact h
    · exact h

theorem Inner.testPulse (c : Comp) (h : Inner s t) : Inner s (t.testPulse c).1 :=
  check_keeps h _ _ fun _ => check_keeps h _ _ fun _ => check_keeps h _ _ fun _ => check_keeps h _ _ fun _ =>
    check_keeps h _ _ fun _ => h.requestFresh ..

theorem Inner.columnRestore (n : Nat) (h : Inner s t) : Inner s (t.columnRestore n).1 := by
  unfold State.columnRestore
  split
  · exact h
  · refine check_keeps h _ _ fun _ => check_keeps h _ _ fun _ => ?_
    split
    · exact h
    · exact check_keeps h _ _ fun _ => h.request _ rfl

/-! ### Reads -/

theorem Inner.readTariff (n : Nat) (h : Inner s t) : Inner s (t.readTariff n).1 := by
  unfold State.readTariff
  split
  · exact h
  · dsimp only
    split
    · exact h
    · exact h

theorem Inner.readConsignment (n : Nat) (h : Inner s t) : Inner s (t.readConsignment n).1 := by
  unfold State.readConsignment
  split
  · exact h
  · split
    · exact h
    · exact h

theorem Inner.readCharge (n : Nat) (h : Inner s t) : Inner s (t.readCharge n).1 := by
  unfold State.readCharge
  split
  · exact h
  · exact h

theorem Inner.readPickup (ok : Bool) (n : Nat) (h : Inner s t) : Inner s (t.readPickup ok n).1 := by
  refine check_keeps h _ _ fun _ => ?_
  split
  · exact h
  · exact h

/-! ### The sequencer's events -/

theorem Inner.armingEnds (col : Column) (h : Inner s t) : Inner s (t.armingEnds col) := by
  unfold State.armingEnds
  split
  · split
    · exact h.pulseStarts ..
    · exact h
  all_goals exact h

theorem Inner.shortEnd (e : Entry) (h : Inner s t) : Inner s (t.shortEnd e) := by
  unfold State.shortEnd
  split
  case h_3 => exact h.testPulseEnd ..
  all_goals exact h.pulseShortEnd e

theorem Inner.runWindowEnds (col : Column) (h : Inner s t) : Inner s (t.runWindowEnds col) := by
  unfold State.runWindowEnds
  split
  · exact h.disarm _
  · exact h.putColumn ..
  all_goals exact h

theorem Inner.recoveringEnds (col : Column) (h : Inner s t) : Inner s (t.recoveringEnds col) := by
  unfold State.recoveringEnds
  split
  · exact h.setColumn ..
  all_goals exact h

end Sys2Proof.Machine
end

section
/-! SUPPORT. What each command leaves alone of the parts that only commands of their own change: the parts are named,
each command has the list of those it may change, and every command keeps the others. The frames of the clock, the power
marks, the settings of operations and the limiter are read from that list. -/

namespace Sys2Proof.Machine

/-! ### The parts, and what it is to keep them -/

/-- A part of the state that only commands of its own change; the marks are those of the power domains but RESTORING. -/
inductive Part
  | clock | marks | restoring | tariffs | masks | sticky | carriers | timing | key | limiter

/-- Every part. -/
def Part.all : List Part :=
  [.clock, .marks, .restoring, .tariffs, .masks, .sticky, .carriers, .timing, .key, .limiter]

theorem Part.mem_all (p : Part) : p ∈ Part.all := by cases p <;> simp [Part.all]

/-- Every part outside the list is as it was, a carrier entry but for its live count (R50). A field that a proof leaves
out is of a part that the change does not write. -/
structure Keeps (l : List Part) (s t : State) : Prop where
  clock : .clock ∉ l → t.clock = s.clock := by exact fun _ => rfl
  marks : .marks ∉ l → { t.power with restoring := s.power.restoring } = s.power := by exact fun _ => rfl
  restoring : .restoring ∉ l → t.power.restoring = s.power.restoring := by exact fun _ => rfl
  tariffs : .tariffs ∉ l → t.tariff.classes = s.tariff.classes ∧ t.tariff.bank = s.tariff.bank := by
    exact fun _ => ⟨rfl, rfl⟩
  masks : .masks ∉ l → t.tariff.masks = s.tariff.masks := by exact fun _ => rfl
  sticky : .sticky ∉ l → t.tariff.sticky = s.tariff.sticky := by exact fun _ => rfl
  carriers : .carriers ∉ l → ∀ i, CarrierKept (s.carriers.get i) (t.carriers.get i) := by
    exact fun _ _ => CarrierKept.refl _
  timing : .timing ∉ l → t.seq.budget = s.seq.budget ∧ t.seq.pulseLength = s.seq.pulseLength ∧
      t.scanner.openWindow = s.scanner.openWindow ∧ t.scanner.ajarTime = s.scanner.ajarTime := by
    exact fun _ => ⟨rfl, rfl, rfl, rfl⟩
  key : .key ∉ l → t.seq.svcKey = s.seq.svcKey := by exact fun _ => rfl
  limiter : .limiter ∉ l → t.limiter = s.limiter := by exact fun _ => rfl

variable {l : List Part} {s t u : State}

theorem Keeps.refl (s : State) : Keeps l s s := {}

theorem Keeps.trans (a : Keeps l s t) (b : Keeps l t u) : Keeps l s u where
  clock out := (b.clock out).trans (a.clock out)
  marks out := by
    rw [← a.marks out]
    exact congrArg (fun k : Power => { k with restoring := s.power.restoring }) (b.marks out)
  restoring out := (b.restoring out).trans (a.restoring out)
  tariffs out := ⟨(b.tariffs out).1.trans (a.tariffs out).1, (b.tariffs out).2.trans (a.tariffs out).2⟩
  masks out := (b.masks out).trans (a.masks out)
  sticky out := (b.sticky out).trans (a.sticky out)
  carriers out i := (a.carriers out i).trans (b.carriers out i)
  timing out := by
    obtain ⟨budget, pulse, window, ajar⟩ := a.timing out
    obtain ⟨budget', pulse', window', ajar'⟩ := b.timing out
    exact ⟨budget'.trans budget, pulse'.trans pulse, window'.trans window, ajar'.trans ajar⟩
  key out := (b.key out).trans (a.key out)
  limiter out := (b.limiter out).trans (a.limiter out)

/-- What a consequence inside a step can do keeps every part. -/
theorem Keeps.of_inner (h : Inner s t) : Keeps l s t where
  clock _ := h.clock
  marks _ := by rw [h.power]
  restoring _ := by rw [h.power]
  tariffs _ := by simp [h.tariff]
  masks _ := by rw [h.tariff]
  sticky _ := by rw [h.tariff]
  carriers _ := h.carriers
  timing _ := ⟨h.budget, h.pulse, h.window, h.ajar⟩
  key _ := h.key
  limiter _ := h.limiter

theorem Keeps.inner (h : Keeps l s t) (hi : Inner t u) : Keeps l s u := h.trans (.of_inner hi)

theorem Keeps.complete (h : Keeps l s t) : Keeps l s t.complete := h.inner (Inner.refl t).complete

/-- No part lies on a port. -/
theorem Keeps.onPort (h : Keeps l s t) (q : Fin 4) (f : PortUnit → PortUnit) : Keeps l s (t.onPort q f) :=
  h.trans {}

/-- Where every part may change. -/
theorem Keeps.of_all : Keeps Part.all s t := by
  constructor <;> exact fun out => absurd (Part.mem_all _) out

/-! ### Frames and events -/

/-- A frame keeps what its block's change keeps (R202 to R204). -/
theorem Keeps.serveLate {hd : Head} {code : Byte} {carried : Role → Bool} {n : Nat} {late : State → List Field}
    {body : State → State × Answer} (hb : ∀ u, Keeps l u (body u).1) :
    Keeps l s (s.serveLate hd code carried n late body) := by
  have taken : Keeps l s (s.begin.frameTaken hd.port) := Keeps.onPort {} ..
  unfold State.serveLate
  dsimp only
  split
  · exact .refl s
  · split
    · exact taken.onPort ..
    · split
      · exact taken.onPort ..
      · split
        · exact taken.onPort ..
        · exact (taken.trans (hb _)).complete.trans {}

theorem Keeps.serveLate_inner {hd : Head} {code : Byte} {carried : Role → Bool} {n : Nat}
    {late : State → List Field} {body : State → State × Answer} (hb : ∀ {v u : State}, Inner v u → Inner v (body u).1) :
    Keeps l s (s.serveLate hd code carried n late body) := serveLate fun u => .of_inner (hb (.refl u))

/-- An event keeps what its change keeps. -/
theorem Keeps.event {f : State → State} (hf : ∀ u, Keeps l u (f u)) : Keeps l s (s.event f) := by
  unfold State.event
  split
  · exact (Keeps.trans {} (hf s.begin)).complete
  · exact .refl s

theorem Keeps.event_inner {f : State → State} (hf : ∀ {v u : State}, Inner v u → Inner v (f u)) :
    Keeps l s (s.event f) := event fun u => .of_inner (hf (.refl u))

/-- A Port Reset changes ports, charges and the engine (R207). -/
theorem Keeps.portReset (hd : Head) (x : Sense) : Keeps l s (s.portReset hd x) := by
  have taken : Keeps l s (s.begin.frameTaken hd.port) := Keeps.onPort {} ..
  unfold State.portReset
  dsimp only
  split
  · exact .refl s
  · split
    · exact taken.onPort ..
    · split
      · exact taken.onPort ..
      · have ready := (taken.inner ((Inner.refl _).latch x)).onPort hd.port PortUnit.reset
        exact (ready.inner ((Inner.refl _).resetRole _)).complete.onPort ..

theorem Keeps.discardFrame (p : Fin 4) : Keeps l s (s.discardFrame p) := by
  unfold State.discardFrame
  split
  · exact Keeps.onPort {} ..
  · exact .refl s

theorem Keeps.readNotice (p : Fin 4) : Keeps l s (s.readNotice p).1 := by
  unfold State.readNotice
  split
  · exact {}
  · exact {}

/-! ### Changes of the limiter and of the sticky set -/

theorem Keeps.withCode {body : State → RecordNo → Consignment → State × Answer} (hl : .limiter ∈ l)
    (code : Text) (hb : ∀ u n k, Keeps l u (body u n k).1) : Keeps l s (s.withCode code body).1 :=
  have attempted (x : Limiter) : Keeps l s { s with limiter := x } := { limiter := absurd hl }
  withCode_keeps (.refl s) code (attempted _) fun n k => (attempted _).trans (hb _ n k)

theorem Keeps.lockoutEnds (hl : .limiter ∈ l) : Keeps l s s.lockoutEnds := by
  unfold State.lockoutEnds
  split
  · exact { limiter := absurd hl }
  · exact .refl s

theorem Keeps.addSticky (hl : .sticky ∈ l) (raised : CondSet) : Keeps l s (s.addSticky raised) :=
  { sticky := absurd hl }

theorem Keeps.clearConditions (hl : .sticky ∈ l) (set : Byte) : Keeps l s (s.clearConditions set).1 := by
  unfold State.clearConditions
  split
  · exact .refl s
  · exact { sticky := absurd hl }

theorem Keeps.quoteKnown (hl : .sticky ∈ l) (n : RecordNo) (k : Consignment) : Keeps l s (s.quoteKnown n k).1 := by
  have evaluated : Keeps l s (s.addSticky (s.evaluate k).raised) := .addSticky hl _
  refine check_keeps (.refl s) _ _ fun _ => check_keeps (.refl s) _ _ fun _ => ?_
  dsimp only
  split
  · exact evaluated.inner ((Inner.refl _).feeCondition ..)
  · exact check_keeps evaluated _ _ fun _ => evaluated.inner ((Inner.refl _).quoteOpens ..)

theorem Keeps.collectKnown (hl : .sticky ∈ l) (n : RecordNo) (k : Consignment) :
    Keeps l s (s.collectKnown n k).1 := by
  have evaluated : Keeps l s (s.addSticky (s.evaluate k).raised) := .addSticky hl _
  refine check_keeps (.refl s) _ _ fun _ => check_keeps (.refl s) _ _ fun _ => ?_
  dsimp only
  split
  · exact evaluated.inner ((Inner.refl _).feeCondition ..)
  · split
    · exact evaluated
    · exact evaluated.inner ((Inner.refl _).collectClaims ..)

/-! ### Changes of settings -/

theorem Keeps.setCarrier (hl : .carriers ∈ l) (sel : BitVec 16) (v : CarrierFields) (i : Fin 8) :
    Keeps l s (s.setCarrier sel v i).1 :=
  check_keeps (.refl s) _ _ fun _ => check_keeps (.refl s) _ _ fun _ => check_keeps (.refl s) _ _ fun _ =>
    { carriers := absurd hl }

theorem Keeps.setTariff (hl : .tariffs ∈ l) (n : Nat) (sel : BitVec 16) (v : ClassValues) (b : BankValues) :
    Keeps l s (s.setTariff n sel v b).1 := by
  unfold State.setTariff
  split
  · exact check_keeps (.refl s) _ _ fun _ => { tariffs := absurd hl }
  · split
    · exact check_keeps (.refl s) _ _ fun _ => check_keeps (.refl s) _ _ fun _ => { tariffs := absurd hl }
    · exact .refl s

theorem Keeps.setMasks (hl : .masks ∈ l) (set : Byte) : Keeps l s (s.setMasks set).1 := by
  unfold State.setMasks
  split
  · exact .refl s
  · exact { masks := absurd hl }

theorem Keeps.setTiming (hl : .timing ∈ l) (sel : BitVec 16) (v : TimingFields) : Keeps l s (s.setTiming sel v).1 :=
  check_keeps (.refl s) _ _ fun _ => check_keeps (.refl s) _ _ fun _ => { timing := absurd hl }

theorem Keeps.keyOn (hl : .key ∈ l) : Keeps l s s.keyOn := by
  unfold State.keyOn
  split
  · exact .refl s
  · exact { key := absurd hl }

/-! ### Power, the clock and the sweep -/

/-- The parts that a stop of the mains domain sets to their values after a start (R190). -/
def stopParts : List Part := [.marks, .restoring, .timing, .key, .limiter]

/-- A stop of the mains domain, with a change of its marks (R190, R191). -/
theorem Keeps.tryStop (k : Power) : Keeps stopParts s { s with power := k }.tryStop := by
  unfold State.tryStop
  split
  · exact {
      marks := absurd (by simp [stopParts]), restoring := absurd (by simp [stopParts])
      timing := absurd (by simp [stopParts]), key := absurd (by simp [stopParts])
      limiter := absurd (by simp [stopParts]) }
  · exact { marks := absurd (by simp [stopParts]), restoring := absurd (by simp [stopParts]) }

theorem Keeps.custodyTicks (hl : .clock ∈ l) : Keeps l s s.custodyTicks := by
  have ticked (k : Clock) : Keeps l s { s with clock := k } := { clock := absurd hl }
  unfold State.custodyTicks
  dsimp only
  split
  · split
    · exact ((ticked _).inner (Inner.refl _).begin.overstayScan).complete
    · exact ticked _
  · exact ticked _

/-- Only the end of the second sweep ends RESTORING (R197). -/
theorem Keeps.sweepComplete (hl : .restoring ∈ l) : Keeps l s s.sweepComplete := by
  unfold State.sweepComplete
  split
  · exact .of_inner ((Inner.refl s).reconcile.setPhase _)
  · exact { restoring := absurd hl }
  · exact .refl s

theorem Keeps.sweepStep (hl : .restoring ∈ l) : Keeps l s s.sweepStep := by
  have advanced : Keeps l s s.takeColumn.advanceSweep := .of_inner (Inner.refl s).takeColumn.advanceSweep
  unfold State.sweepStep
  dsimp only
  split
  · exact .refl s
  · split
    · exact advanced
    · exact advanced.trans (.sweepComplete hl)

/-! ### Every command -/

/-- The parts that a command may change. -/
def changedParts : Instr → List Part
  | .lookup _ _ | .quote _ _ | .collect _ _ => [.limiter, .sticky]
  | .setCarrier _ _ _ _ => [.carriers]
  | .setTariff _ _ _ _ _ => [.tariffs]
  | .setMasks _ _ => [.masks]
  | .clearConditions _ _ => [.sticky]
  | .setTiming _ _ _ => [.timing]
  | .svcKeyOn | .svcKeyOff => [.key]
  | .pfailAssert | .retentionLoss => [.marks]
  | .mainsFall | .resetAssert => stopParts
  | .pfailNegate _ | .mainsReturn _ | .resetRelease _ => Part.all
  | .custodyTick => [.clock]
  | .lockoutEnd => [.limiter]
  | .sweepColumnStep _ => [.restoring]
  | _ => []

/-- Every command keeps the parts that are not its own. -/
theorem exec_keeps (c : Instr) (s : State) : ∃ t, exec c s = .next t ∧ Keeps (changedParts c) s t := by
  cases c with
  | readNotice hd => exact ⟨_, rfl, .serveLate fun _ => .readNotice _⟩
  | portReset hd x => exact ⟨_, rfl, .portReset hd x⟩
  | lookup hd code =>
    exact ⟨_, rfl, .serveLate fun u => guarded_keeps (.refl u) (.withCode (.head _) _ fun _ _ _ =>
      .addSticky (by simp) _)⟩
  | quote hd code =>
    exact ⟨_, rfl, .serveLate fun u => guarded_keeps (.refl u) (.withCode (.head _) _ fun _ _ _ =>
      .quoteKnown (by simp) ..)⟩
  | collect hd code =>
    exact ⟨_, rfl, .serveLate fun u => guarded_keeps (.refl u) (.withCode (.head _) _ fun _ _ _ =>
      .collectKnown (by simp) ..)⟩
  | voidQuote hd i g =>
    exact ⟨_, rfl, .serveLate_inner fun hu => guarded_keeps hu (withCharge_keeps hu _ _ fun _ _ => hu.voidNamed ..)⟩
  | returnBegin hd n z ref => exact ⟨_, rfl, .serveLate_inner fun hu => guarded_keeps hu (hu.returnBegin ..)⟩
  | returnCancel hd n x =>
    exact ⟨_, rfl, .serveLate_inner fun hu => guarded_keeps (hu.latch x) ((hu.latch x).returnCancel n)⟩
  | releaseCharge hd i g =>
    exact ⟨_, rfl, .serveLate_inner fun hu => withCharge_keeps hu _ _ fun _ _ => hu.releaseNamed ..⟩
  | slotWrite hd i f => exact ⟨_, rfl, .serveLate_inner fun hu => withSlot_keeps hu _ fun _ => hu.slotWrite ..⟩
  | slotRead hd i => exact ⟨_, rfl, .serveLate_inner fun hu => withSlot_keeps hu _ fun _ => hu⟩
  | handOver hd i n => exact ⟨_, rfl, .serveLate_inner fun hu => withSlot_keeps hu _ fun _ => hu.handOver ..⟩
  | start hd i => exact ⟨_, rfl, .serveLate_inner fun hu => withSlot_keeps hu _ fun _ => hu.engineStart _⟩
  | resume hd => exact ⟨_, rfl, .serveLate_inner fun hu => hu.engineResume⟩
  | stop hd x => exact ⟨_, rfl, .serveLate_inner fun hu => (hu.latch x).engineStop⟩
  | fetchCharge hd ref => exact ⟨_, rfl, .serveLate_inner fun hu => hu.fetchCharge ref⟩
  | paymentResult hd i g o x y => exact ⟨_, rfl, .serveLate_inner fun hu => hu.paymentResult ..⟩
  | setCompartment hd n f z v => exact ⟨_, rfl, .serveLate_inner fun hu => hu.setCompartment ..⟩
  | withholdToReview hd ok n =>
    exact ⟨_, rfl, .serveLate_inner fun hu => guarded_keeps hu (check_keeps hu _ _ fun _ =>
      withComp_keeps hu _ fun _ => hu.withholdReview _)⟩
  | withholdToOutOfService hd ok n =>
    exact ⟨_, rfl, .serveLate_inner fun hu => guarded_keeps hu (check_keeps hu _ _ fun _ =>
      withComp_keeps hu _ fun _ => hu.withholdOos _)⟩
  | resolveReviewRestore hd ok n =>
    exact ⟨_, rfl, .serveLate_inner fun hu => resolve_keeps hu _ _ fun _ => hu.restore _⟩
  | resolveReviewWaive hd ok n =>
    exact ⟨_, rfl, .serveLate_inner fun hu => resolve_keeps hu _ _ fun _ => hu.waive _⟩
  | resolveReviewRetire hd ok n =>
    exact ⟨_, rfl, .serveLate_inner fun hu => resolve_keeps hu _ _ fun _ => hu.removeHolding ..⟩
  | resolveReviewWithdraw hd ok n =>
    exact ⟨_, rfl, .serveLate_inner fun hu => resolve_keeps hu _ _ fun _ => hu.outOfService ..⟩
  | returnToService hd n =>
    exact ⟨_, rfl, .serveLate_inner fun hu => guarded_keeps hu (withComp_keeps hu _ fun _ => hu.returnToService _)⟩
  | amendHolding hd n sel v =>
    exact ⟨_, rfl, .serveLate_inner fun hu => guarded_keeps hu (withComp_keeps hu _ fun _ => hu.amendHolding ..)⟩
  | setCarrier hd i sel v =>
    exact ⟨_, rfl, .serveLate fun u => withCarrier_keeps (.refl u) _ fun _ => .setCarrier (.head _) ..⟩
  | readCarrier hd i => exact ⟨_, rfl, .serveLate_inner fun hu => withCarrier_keeps hu _ fun _ => hu⟩
  | setTariff hd n sel v b => exact ⟨_, rfl, .serveLate fun u => .setTariff (.head _) ..⟩
  | readTariff hd n => exact ⟨_, rfl, .serveLate_inner fun hu => hu.readTariff n⟩
  | setMasks hd x => exact ⟨_, rfl, .serveLate fun u => .setMasks (.head _) x⟩
  | clearConditions hd x => exact ⟨_, rfl, .serveLate fun u => .clearConditions (.head _) x⟩
  | readConditions hd => exact ⟨_, rfl, .serveLate_inner fun hu => hu⟩
  | serviceRelease hd n b =>
    exact ⟨_, rfl, .serveLate_inner fun hu => guarded_keeps hu (hu.serviceReleaseOf ..)⟩
  | withdrawService hd n =>
    exact ⟨_, rfl, .serveLate_inner fun hu => withComp_keeps hu _ fun _ => hu.withdrawService _⟩
  | testPulse hd n =>
    exact ⟨_, rfl, .serveLate_inner fun hu => guarded_keeps hu (withComp_keeps hu _ fun _ => hu.testPulse _)⟩
  | columnRestore hd n => exact ⟨_, rfl, .serveLate_inner fun hu => guarded_keeps hu (hu.columnRestore n)⟩
  | setTiming hd sel v => exact ⟨_, rfl, .serveLate fun u => .setTiming (.head _) ..⟩
  | readCompartment hd n => exact ⟨_, rfl, .serveLate_inner fun hu => withComp_keeps hu _ fun _ => hu⟩
  | readConsignment hd n => exact ⟨_, rfl, .serveLate_inner fun hu => hu.readConsignment n⟩
  | readCharge hd i => exact ⟨_, rfl, .serveLate_inner fun hu => hu.readCharge i⟩
  | readQueueQueue hd ok => exact ⟨_, rfl, .serveLate_inner fun hu => check_keeps hu _ _ fun _ => hu⟩
  | readQueueEngine hd ok => exact ⟨_, rfl, .serveLate_inner fun hu => check_keeps hu _ _ fun _ => hu⟩
  | readQueuePickup hd ok i => exact ⟨_, rfl, .serveLate_inner fun hu => hu.readPickup ok i⟩
  | readQueueLists hd ok => exact ⟨_, rfl, .serveLate_inner fun hu => check_keeps hu _ _ fun _ => hu⟩
  | readClock hd => exact ⟨_, rfl, .serveLate_inner fun hu => hu⟩
  | unknownRequestCode hd code => exact ⟨_, rfl, .serveLate_inner fun hu => hu⟩
  | frameDiscarded p => exact ⟨_, rfl, .discardFrame p⟩
  | frameGapTimeout p => exact ⟨_, rfl, .discardFrame p⟩
  | responseSent p =>
    refine ⟨_, rfl, ?_⟩
    split
    · exact Keeps.onPort {} ..
    · exact .refl s
  | armingEnd col => exact ⟨_, rfl, .event_inner fun hu => hu.armingEnds col⟩
  | pulseGood col x =>
    exact ⟨_, rfl, .event_inner fun hu => pulseEnds_keeps (hu.latch x) _ _ _ fun e _ => (hu.latch x).pulseGoodEnd e⟩
  | pulseOpenCoil col x =>
    exact ⟨_, rfl, .event_inner fun hu => pulseEnds_keeps (hu.latch x) _ _ _ fun e he =>
      (hu.latch x).pulseOpenEnd e he⟩
  | pulseShort col x =>
    exact ⟨_, rfl, .event_inner fun hu => pulseEnds_keeps (hu.latch x) _ _ _ fun e _ => (hu.latch x).shortEnd e⟩
  | testPulseEnd col o x =>
    exact ⟨_, rfl, .event_inner fun hu => pulseEnds_keeps (hu.latch x) _ _ _ fun e _ =>
      (hu.latch x).testPulseEnd e o⟩
  | runWindowEnd col x => exact ⟨_, rfl, .event_inner fun hu => (hu.latch x).runWindowEnds col⟩
  | recoveringEnd col => exact ⟨_, rfl, .event_inner fun hu => hu.recoveringEnds col⟩
  | svcKeyOn => exact ⟨_, rfl, .event fun u => .keyOn (.head _)⟩
  | svcKeyOff => exact ⟨_, rfl, .event fun u => { key := absurd (.head _) }⟩
  | pfailAssert => exact ⟨_, rfl, { marks := absurd (.head _) }⟩
  | retentionLoss => exact ⟨_, rfl, { marks := absurd (.head _) }⟩
  | mainsFall => exact ⟨_, rfl, .tryStop _⟩
  | resetAssert => exact ⟨_, rfl, .tryStop _⟩
  | pfailNegate x => exact ⟨_, rfl, .of_all⟩
  | mainsReturn x => exact ⟨_, rfl, .of_all⟩
  | resetRelease x => exact ⟨_, rfl, .of_all⟩
  | custodyTick => exact ⟨_, rfl, .custodyTicks (.head _)⟩
  | chargeExpiry i => exact ⟨_, rfl, .event_inner fun hu => hu.expireCharge i⟩
  | lockoutEnd => exact ⟨_, rfl, .event fun u => .lockoutEnds (.head _)⟩
  | sweepStart => exact ⟨_, rfl, .event_inner fun hu => hu.sweepBegin⟩
  | sweepColumnStep x =>
    exact ⟨_, rfl, .event fun u => (Keeps.of_inner ((Inner.refl u).latch x)).trans (.sweepStep (.head _))⟩
  | openWindowEnd c => exact ⟨_, rfl, .event_inner fun hu => hu.windowEnds c⟩
  | ajarTimerEnd c => exact ⟨_, rfl, .event_inner fun hu => hu.ajarEnds c⟩

/-- What a command leads to keeps the parts that are not the command's own. -/
theorem keeps_of_exec {c : Instr} (h : exec c s = .next t) : Keeps (changedParts c) s t := by
  obtain ⟨u, hu, kept⟩ := exec_keeps c s
  cases h.symm.trans hu
  exact kept

/-! ### The frames -/

theorem clockFrame : Claims.ClockFrame := by
  intro c s t ⟨negate, mains, reset⟩ tick h
  refine (keeps_of_exec h).clock ?_
  unfold changedParts
  split <;> simp_all [stopParts]

theorem powerFrame : Claims.PowerFrame := by
  intro c s t ⟨⟨_, mains, reset⟩, fall, assert⟩ negate pfail retention h
  have marks : { t.power with restoring := s.power.restoring } = s.power := by
    refine (keeps_of_exec h).marks ?_
    unfold changedParts
    split <;> simp_all
  refine ⟨fun sweep => ?_, marks⟩
  have restoring : t.power.restoring = s.power.restoring := by
    refine (keeps_of_exec h).restoring ?_
    unfold changedParts
    split <;> simp_all
  rw [← marks, ← restoring]

theorem tariffFrame : Claims.TariffFrame := by
  intro c s t ⟨negate, mains, reset⟩ h
  refine ⟨fun tariff => (keeps_of_exec h).tariffs ?_, fun masks => (keeps_of_exec h).masks ?_,
    fun clear lookup quote collect => (keeps_of_exec h).sticky ?_⟩
  · unfold changedParts
    split
    case h_5 => exact (tariff _ _ _ _ _ rfl).elim
    all_goals simp_all [stopParts]
  · unfold changedParts
    split <;> simp_all [stopParts]
  · unfold changedParts
    split <;> simp_all [stopParts]

theorem carrierFrame : Claims.CarrierFrame := by
  intro c s t ⟨negate, mains, reset⟩ set h
  refine (keeps_of_exec h).carriers ?_
  unfold changedParts
  split
  case h_4 => exact (set _ _ _ _ rfl).elim
  all_goals simp_all [stopParts]

theorem timingFrame : Claims.TimingFrame := by
  intro c s t ⟨⟨negate, mains, reset⟩, fall, assert⟩ h
  refine ⟨fun set => (keeps_of_exec h).timing ?_, fun on off => (keeps_of_exec h).key ?_⟩
  all_goals
    unfold changedParts
    split <;> simp_all

theorem limiterFrame : Claims.LimiterFrame := by
  intro c s t ⟨⟨negate, mains, reset⟩, fall, assert⟩ ends lookup quote collect h
  refine (keeps_of_exec h).limiter ?_
  unfold changedParts
  split <;> simp_all

/-- Settles O37, from the parts that each command may change. -/
theorem clockPowerAndSettingsFrame : Obligations.ClockPowerAndSettingsFrame :=
  ⟨clockFrame, powerFrame, tariffFrame, carrierFrame, timingFrame, limiterFrame⟩

end Sys2Proof.Machine
end

section
/-! SUPPORT. The values after a first start (R198). -/

namespace Sys2Proof.Machine

/-- An entry of a table whose entries are all the same. -/
theorem replicate_get {α : Type} {n : Nat} (x : α) (i : Fin n) : (Vector.replicate n x).get i = x :=
  Vector.getElem_replicate ..

/-- The backup domain after a first start (R49, R63, R71, R92, R93, R116, R198). -/
theorem reset_backupDomain : (∀ c : Comp, State.reset.entry c = CompartmentEntry.cold) ∧
    (∀ i : Fin 8, State.reset.carriers.get i = CarrierEntry.cold) ∧
    (∀ i : Fin 4, State.reset.tariff.classes.get i = ⟨0, 0, 0, 0, 0, 0, 0⟩) ∧
    (∀ i : ChargeSlot, State.reset.charges.gens.get i = 0) :=
  ⟨replicate_get _, replicate_get _, replicate_get _, replicate_get _⟩

/-- The columns, the doors and the scanner's marks after a start (R149, R171, R172). -/
theorem reset_columnsAndDoors :
    (∀ c : Column, State.reset.column c = .idle ∧ State.reset.scanner.owed.get c = false) ∧
    (∀ c : Comp, State.reset.door c = none ∧ State.reset.scanner.baseline.get c = none) :=
  ⟨fun c => ⟨replicate_get _ c, replicate_get _ c⟩, fun c => ⟨replicate_get _ c, replicate_get _ c⟩⟩

/-- After a first start BACKUP_LOST waits at the operations port, and nothing at another (R198, R205). -/
theorem reset_port (p : Fin 4) : (State.reset.port p).busy = false ∧ (State.reset.port p).overflow = false ∧
    ((State.reset.port p).role = some .operations → (State.reset.port p).queue = [Notice.backupLost]) ∧
    ((State.reset.port p).role ≠ some .operations → (State.reset.port p).queue = []) := by
  fin_cases p <;> decide

/-- Settles O10, table by table: every table is filled with one blank entry, and everything else is as the first start
writes it. -/
theorem resetValues : Obligations.ResetValues := by
  obtain ⟨entries, carriers, classes, gens⟩ := reset_backupDomain
  obtain ⟨columns, doors⟩ := reset_columnsAndDoors
  exact ⟨entries, reset_record, rfl, carriers, rfl, rfl, rfl, rfl, rfl, rfl, classes, rfl, rfl, rfl,
    fun i => ⟨gens i, congrArg ChargeRecord.state (reset_charge i)⟩, rfl, rfl, rfl, rfl, rfl, rfl, rfl, columns, doors,
    rfl, rfl, rfl, rfl, rfl, rfl, rfl, rfl, rfl, rfl, reset_port, rfl⟩

end Sys2Proof.Machine
end

section
/-! SUPPORT. Set Tariff and Set Carrier: what each writes, and what each refuses. -/

namespace Sys2Proof.Machine

variable {s t : State} {hd : Head} {code : Byte} {len : Nat} {body : State → State × Answer}

/-- An operations request that changes settings and nothing with consequences. -/
theorem serveOps_writes {fields : List Field} (hp : s.FramePasses hd .operations len) (ht : t.Settled)
    (hb : body (s.frameTaken hd.port) = (t.frameTaken hd.port, done fields)) :
    s.serveOps hd code len body = t.answeredDone hd code fields :=
  serve_done hp rfl ht hb

/-! ### Set Tariff (R92 to R94) -/

/-- A check of a selected field (R208). -/
theorem selected_iff (b p : Bool) : (!b || p) = true ↔ (b = true → p = true) := by
  cases b <;> simp

theorem setTariff_class (i : Fin 4) (sel : BitVec 16) (v : ClassValues) (b : BankValues) :
    s.setTariff i.val sel v b = s.setClass i sel v := by
  simp [State.setTariff]

theorem setTariff_bank (sel : BitVec 16) (v : ClassValues) (b : BankValues) :
    s.setTariff 4 sel v b = s.setBank sel b := rfl

theorem setTariff_above {n : Nat} (h : 4 < n) (sel : BitVec 16) (v : ClassValues) (b : BankValues) :
    s.setTariff n sel v b = s.refuses .format := by
  have none : classOf n = none := dif_neg (by omega)
  have other : n ≠ 4 := by omega
  simp [State.setTariff, none, other]

theorem setTariffWritesTheClass : Claims.SetTariffWritesTheClass := by
  intro h i sel v b s frame old new
  refine ⟨fun named => congrArg _ (serveOps_writes
    (t := { s with tariff := { s.tariff with classes := put s.tariff.classes i new } }) frame frame.1 ?_),
    fun other => congrArg _ (serveOps_refuses frame ?_),
    fun n above => congrArg _ (serveOps_refuses frame (setTariff_above above sel v b))⟩
  · exact (setTariff_class i sel v b).trans (check_passes _ _ ((selectsOnly_iff sel 7).mpr named))
  · refine (setTariff_class i sel v b).trans (check_fails _ _ ?_)
    exact Bool.eq_false_iff.mpr fun only => Nat.not_lt.mpr other ((selectsOnly_iff sel 7).mp only)

theorem setTariffWritesTheBank : Claims.SetTariffWritesTheBank := by
  intro h sel v b s frame old new
  refine ⟨fun named mode => congrArg _ (serveOps_writes
    (t := { s with tariff := { s.tariff with bank := new } }) frame frame.1 ?_),
    fun bad => congrArg _ (serveOps_refuses frame ?_)⟩
  · refine (check_passes _ _ ((selectsOnly_iff sel 10).mpr named)).trans (check_passes _ _ ?_)
    rw [selected_iff, Option.isSome_iff_ne_none]
    exact mode
  · by_cases named : sel.toNat < 1024
    · obtain ⟨rounds, none⟩ := bad.resolve_left (Nat.not_le.mpr named)
      refine (check_passes _ _ ((selectsOnly_iff sel 10).mpr named)).trans (check_fails _ _ ?_)
      rw [rounds, none]
      rfl
    · exact check_fails _ _ (Bool.eq_false_iff.mpr fun only => named ((selectsOnly_iff sel 10).mp only))

/-! ### Set Carrier (R51, R52) -/

theorem rightsOf_isSome_iff (b : Byte) : (rightsOf b).isSome = true ↔ b.toNat < 16 := by
  unfold rightsOf
  split <;> rename_i h <;> simpa using h

theorem sizesOf_isSome_iff (b : Byte) : (sizesOf b).isSome = true ↔ b.toNat < 16 := by
  unfold sizesOf
  split <;> rename_i h <;> simpa using h

/-- The checks of the form of a Set Carrier (R51, R208). -/
theorem carrierFormatOk_iff (sel : BitVec 16) (v : CarrierFields) : carrierFormatOk sel v = true ↔
    sel.toNat < 128 ∧ (sel.getLsbD 1 = true → v.enabled ≠ none) ∧ (sel.getLsbD 2 = true → v.rights.toNat < 16) ∧
      (sel.getLsbD 3 = true → v.sizes.toNat < 16) ∧ (sel.getLsbD 4 = true → v.tariffClass < 4) ∧
      (sel.getLsbD 5 = true → v.mode ≠ none) := by
  have enabled : v.enabled.isSome = true ↔ v.enabled ≠ none := Option.isSome_iff_ne_none
  have mode : v.mode.isSome = true ↔ v.mode ≠ none := Option.isSome_iff_ne_none
  simp only [carrierFormatOk, Bool.and_eq_true, selectsOnly_iff, selected_iff, rightsOf_isSome_iff, sizesOf_isSome_iff,
    classOf_isSome_iff, enabled, mode, and_assoc]
  rfl

/-- Another enabled entry holds the ID (R52). -/
theorem duplicates_iff (i : Fin 8) (e : CarrierEntry) : s.duplicates i e = true ↔
    e.enabled = true ∧ ∃ j, j ≠ i ∧ (s.carriers.get j).enabled = true ∧ (s.carriers.get j).id = e.id := by
  simp [State.duplicates, and_assoc]

/-- A Set Carrier whose form is good (R51, R52). -/
theorem setCarrier_formed {i : Fin 8} {sel : BitVec 16} {v : CarrierFields} (formed : carrierFormatOk sel v = true) :
    s.setCarrier sel v i =
      let old := s.carriers.get i
      let new := old.written sel v
      s.check (!(new.id != old.id && decide (0 < old.live))) .occupied
        (s.check (!(s.duplicates i new)) .duplicate (s.putCarrier i new, done new.fields)) :=
  check_passes _ _ formed

theorem setCarrierWritesTheEntry : Claims.SetCarrierWritesTheEntry := by
  intro h i sel v s frame old new malformed second
  have body : (s.frameTaken h.port).withCarrier i.val ((s.frameTaken h.port).setCarrier sel v) =
      (s.frameTaken h.port).setCarrier sel v i := withCarrier_val ..
  have formed : ¬ malformed → carrierFormatOk sel v = true := by
    intro good
    rw [carrierFormatOk_iff]
    simp only [malformed, not_or, not_and, not_le] at good
    exact good
  refine ⟨fun bad => congrArg _ (serveOps_refuses frame (body.trans (check_fails _ _ ?_))),
    fun n above => congrArg _ (serveOps_refuses frame (withCarrier_above above _)),
    fun good moved inUse => congrArg _ (serveOps_refuses frame
      (body.trans ((setCarrier_formed (formed good)).trans (check_fails _ _ ?_)))),
    fun good free => ?_, rfl⟩
  · refine Bool.eq_false_iff.mpr fun ok => ?_
    obtain ⟨named, enabled, rights, sizes, cls, mode⟩ := (carrierFormatOk_iff sel v).mp ok
    rcases bad with b | ⟨on, b⟩ | ⟨on, b⟩ | ⟨on, b⟩ | ⟨on, b⟩ | ⟨on, b⟩
    · exact Nat.not_lt.mpr b named
    · exact enabled on b
    · exact Nat.not_lt.mpr b (rights on)
    · exact Nat.not_lt.mpr b (sizes on)
    · exact Nat.not_lt.mpr b (cls on)
    · exact mode on b
  · have kept : (new.id != old.id && decide (0 < old.live)) = true := by simpa using ⟨moved, inUse⟩
    exact congrArg (!·) kept
  · have may : (!(new.id != old.id && decide (0 < old.live))) = true := by
      rcases free with same | unused
      · simp [same]
      · simp [unused]
    have checked := body.trans ((setCarrier_formed (formed good)).trans (check_passes _ _ may))
    refine ⟨fun twice => congrArg _ (serveOps_refuses frame (checked.trans (check_fails _ _ ?_))),
      fun once => congrArg _ (serveOps_writes (t := s.putCarrier i new) frame frame.1
        (checked.trans (check_passes _ _ ?_)))⟩
    · exact congrArg (!·) ((duplicates_iff (s := s) i new).mpr twice)
    · exact congrArg (!·) (Bool.eq_false_iff.mpr fun twice => once ((duplicates_iff (s := s) i new).mp twice))

/-- Settles O43, from the form that each request asks for and what it writes. -/
theorem tariffAndCarrierSettings : Obligations.TariffAndCarrierSettings :=
  ⟨setTariffWritesTheClass, setTariffWritesTheBank, setCarrierWritesTheEntry⟩

end Sys2Proof.Machine
end

section
/-! SUPPORT. The match of a carrier ID and the allocator's choice for one piece. -/

namespace Sys2Proof.Machine

variable {s : State}

/-! ### The lowest number that satisfies a test -/

theorem find?_finRange_iff {n : Nat} {p : Fin n → Bool} {i : Fin n} :
    (List.finRange n).find? p = some i ↔ p i = true ∧ ∀ j, j < i → p j = false := by
  rw [List.find?_eq_some_iff_getElem]
  constructor
  · rintro ⟨hi, m, hm, found, before⟩
    refine ⟨hi, fun j hj => ?_⟩
    have place : i.val = m := by simp [← found]
    simpa using before j.val (place ▸ hj)
  · rintro ⟨hi, before⟩
    refine ⟨hi, i.val, by simp, by simp, fun j hj => ?_⟩
    simpa using before ⟨j, hj.trans i.isLt⟩ hj

theorem firstIndex_some_iff {α : Type} {n : Nat} {v : Vector α n} {p : α → Bool} {i : Fin n} :
    firstIndex v p = some i ↔ p (v.get i) = true ∧ ∀ j, j < i → p (v.get j) = false :=
  find?_finRange_iff

theorem firstIndex_none_iff {α : Type} {n : Nat} {v : Vector α n} {p : α → Bool} :
    firstIndex v p = none ↔ ∀ i, p (v.get i) = false := by
  simp [firstIndex]

/-! ### The match of a carrier ID (R54) -/

/-- A carrier's enabled entry holds the ID. -/
def State.EnabledWith (s : State) (id : Nat) (i : Fin 8) : Prop :=
  (s.carriers.get i).enabled = true ∧ (s.carriers.get i).id = id

/-- What a match can find, and where it finds it. -/
theorem matchCarrier_cases (s : State) (id : Nat) :
    (∃ i, s.matchCarrier id = .found i ∧ s.EnabledWith id i ∧ ∀ j, j < i → ¬ s.EnabledWith id j) ∨
    (s.matchCarrier id = .notPermitted ∧ (∀ i, ¬ s.EnabledWith id i) ∧ ∃ i, (s.carriers.get i).id = id) ∨
    (s.matchCarrier id = .unknown ∧ ∀ i, (s.carriers.get i).id ≠ id) := by
  have enabled : ∀ e : CarrierEntry, (e.enabled && e.id == id) = true ↔ e.enabled = true ∧ e.id = id := by simp
  have disabled : ∀ e : CarrierEntry, (e.enabled && e.id == id) = false ↔ ¬ (e.enabled = true ∧ e.id = id) :=
    fun e => by rw [← enabled, Bool.not_eq_true]
  unfold State.matchCarrier
  split
  · rename_i i found
    obtain ⟨hi, before⟩ := firstIndex_some_iff.mp found
    exact .inl ⟨i, rfl, (enabled _).mp hi, fun j hj => (disabled _).mp (before j hj)⟩
  · rename_i none
    have alone : ∀ i, ¬ s.EnabledWith id i := fun i => (disabled _).mp (firstIndex_none_iff.mp none i)
    split
    · rename_i held
      obtain ⟨i, found⟩ := Option.isSome_iff_exists.mp held
      exact .inr (.inl ⟨rfl, alone, i, beq_iff_eq.mp (firstIndex_some_iff.mp found).1⟩)
    · rename_i absent
      rw [Bool.not_eq_true, Option.isSome_eq_false_iff, Option.isNone_iff_eq_none] at absent
      exact .inr (.inr ⟨rfl, fun i => beq_eq_false_iff_ne.mp (firstIndex_none_iff.mp absent i)⟩)

theorem carrierMatchRows : Claims.CarrierMatchRows := by
  intro s id holds
  rcases matchCarrier_cases s id with ⟨i, found, hi, before⟩ | ⟨found, alone, j, hj⟩ | ⟨found, absent⟩
  · rw [found]
    refine ⟨fun k => ⟨?_, fun ⟨hk, first⟩ => ?_⟩, ?_, ?_⟩
    · rintro ⟨rfl⟩
      exact ⟨hi, before⟩
    · rcases lt_trichotomy i k with lt | rfl | lt
      · exact (first i lt hi).elim
      · rfl
      · exact (before k lt hk).elim
    · exact iff_of_false (by simp) fun ⟨no, _⟩ => no i hi
    · exact iff_of_false (by simp) fun no => no i hi.2
  · rw [found]
    exact ⟨fun k => iff_of_false (by simp) fun ⟨hk, _⟩ => alone k hk, iff_of_true rfl ⟨alone, j, hj⟩,
      iff_of_false (by simp) fun no => no j hj⟩
  · rw [found]
    exact ⟨fun k => iff_of_false (by simp) fun ⟨hk, _⟩ => absent k hk.2,
      iff_of_false (by simp) fun ⟨_, j, hj⟩ => absent j hj, iff_of_true rfl absent⟩

/-! ### The choice for one piece (R57, R58) -/

/-- The classes tried for a piece are those not below its own, the smaller first (R58). -/
theorem mem_upwards (z y : SizeClass) : y ∈ SizeClass.upwards z ↔ z.ctorIdx ≤ y.ctorIdx := by
  cases z <;> cases y <;> decide

theorem upwards_ascending (z : SizeClass) : (SizeClass.upwards z).Pairwise fun x y => x.ctorIdx < y.ctorIdx := by
  cases z <;> decide

/-- A compartment of a class that one piece can take (R57, R60). -/
def State.takes (s : State) (k : ConsKind) (taken : List Comp) (z : SizeClass) (c : Comp) : Bool :=
  (s.entry c).size == z && s.eligibleFor k c && !(taken.contains c)

theorem takes_iff (k : ConsKind) (taken : List Comp) (z : SizeClass) (c : Comp) :
    s.takes k taken z c = true ↔ (s.entry c).size = z ∧ s.eligibleFor k c = true ∧ c ∉ taken := by
  simp [State.takes, and_assoc]

/-- The piece takes the lowest-numbered compartment of the smallest class that has one (R58). -/
theorem placeOne_eq (k : ConsKind) (z : SizeClass) (taken : List Comp) :
    s.placeOne k z taken = (SizeClass.upwards z).findSome? fun y => Comp.all.find? (s.takes k taken y) := rfl

theorem placeOne_some {k : ConsKind} {z : SizeClass} {taken : List Comp} {c : Comp}
    (h : s.placeOne k z taken = some c) : ∃ y smaller larger, SizeClass.upwards z = smaller ++ y :: larger ∧
      (s.takes k taken y c = true ∧ ∀ d, d < c → s.takes k taken y d = false) ∧
      ∀ x ∈ smaller, ∀ d, s.takes k taken x d = false := by
  rw [placeOne_eq, List.findSome?_eq_some_iff] at h
  obtain ⟨smaller, y, larger, split, found, none⟩ := h
  refine ⟨y, smaller, larger, split, find?_finRange_iff.mp found, fun x hx d => ?_⟩
  simpa using List.find?_eq_none.mp (none x hx) d (List.mem_finRange d)

theorem placeOne_none {k : ConsKind} {z : SizeClass} {taken : List Comp} (h : s.placeOne k z taken = none) :
    ∀ y ∈ SizeClass.upwards z, ∀ d, s.takes k taken y d = false := by
  rw [placeOne_eq, List.findSome?_eq_none_iff] at h
  intro y hy d
  simpa using List.find?_eq_none.mp (h y hy) d (List.mem_finRange d)

theorem eligibleFor_iff (k : ConsKind) (c : Comp) : s.eligibleFor k c = true ↔
    s.custodyState c = .free ∧ useAdmits (s.entry c).use k = true ∧ s.column c.column ≠ .disabled ∧
      s.door c = some .shut ∧ s.hasEntry c = false ∧ s.pendingFor c = false := by
  simp [State.eligibleFor, and_assoc]

theorem allocatorPlacesOnePiece : Claims.AllocatorPlacesOnePiece := by
  intro s k z taken fits
  have taking : ∀ d, fits d → s.takes k taken (s.entry d).size d = true :=
    fun d ⟨eligible, new, _⟩ => (takes_iff ..).mpr ⟨rfl, eligible, new⟩
  refine ⟨fun c h => ?_, fun h d hd => ?_, eligibleFor_iff k⟩
  · obtain ⟨y, smaller, larger, split, ⟨takes, first⟩, none⟩ := placeOne_some h
    obtain ⟨rfl, eligible, new⟩ := (takes_iff ..).mp takes
    refine ⟨⟨eligible, new, (mem_upwards ..).mp (by simp [split])⟩, fun d hd => ?_⟩
    have tried : (s.entry d).size ∈ smaller ++ (s.entry c).size :: larger := split ▸ (mem_upwards ..).mpr hd.2.2
    have ascending := upwards_ascending z
    rw [split, List.pairwise_append] at ascending
    rcases List.mem_append.mp tried with before | rest
    · exact absurd (taking d hd) (by simp [none _ before d])
    · rcases List.mem_cons.mp rest with same | after
      · refine .inr ⟨by rw [same], not_lt.mp fun lower => ?_⟩
        exact absurd (taking d hd) (by simp [same, first d lower])
      · exact .inl (List.rel_of_pairwise_cons ascending.2.1 after)
  · exact absurd (taking d hd) (by simp [placeOne_none h _ ((mem_upwards ..).mpr hd.2.2) d])

end Sys2Proof.Machine
end

section
/-! SUPPORT. An evaluation: its pieces, lanes, dues and raised set. -/

namespace Sys2Proof.Machine

variable {s : State} {k : Consignment}

/-! ### Clamps and differences (R104, R108 to R110) -/

theorem saturate_eq (n : Nat) : saturate n = (min n 999999, decide (999999 < n)) := by
  unfold saturate maxAmount
  split
  · rename_i above
    rw [min_eq_right (by omega), decide_eq_true above]
  · rename_i within
    rw [min_eq_left (by omega), decide_eq_false within]

theorem lessPaid_eq (lane paid : Nat) : lessPaid lane paid = (lane - paid, decide (lane < paid)) := by
  unfold lessPaid
  split
  · rename_i covered
    rw [decide_eq_false (by omega)]
  · rename_i uncovered
    rw [Nat.sub_eq_zero_of_le (by omega), decide_eq_true (by omega)]

/-- Due O is computed from its lane: the consignment is not waived, and no paid-through minute covers the present one
(R108). -/
def Consignment.DuesRun (k : Consignment) (te : Nat) : Prop :=
  k.waived = false ∧ ∀ m, k.paidThrough = some m → m < te

theorem dueLaneO_runs {te : Nat} (h : k.DuesRun te) (lane : Nat) : dueLaneO k lane te = lessPaid lane k.paidO := by
  obtain ⟨charged, past⟩ := h
  unfold dueLaneO
  cases paid : k.paidThrough with
  | none => simp [charged]
  | some m => simp [charged, Nat.not_le.mpr (past m paid)]

theorem dueLaneO_waived (h : k.waived = true) (lane te : Nat) : dueLaneO k lane te = (0, false) := if_pos h

theorem dueLaneO_paid {m te : Nat} (paid : k.paidThrough = some m) (h : te ≤ m) (lane : Nat) :
    dueLaneO k lane te = (0, false) := by
  simp [dueLaneO, paid, h]

/-- Lane O is overpaid only where its due is computed from it (R108). -/
theorem dueLaneO_overpaid_iff (lane te : Nat) : (dueLaneO k lane te).2 = true ↔ k.DuesRun te ∧ lane < k.paidO := by
  by_cases runs : k.DuesRun te
  · simp [dueLaneO_runs runs, lessPaid_eq, runs]
  · have nothing : dueLaneO k lane te = (0, false) := by
      cases waived : k.waived with
      | true => exact dueLaneO_waived waived ..
      | false =>
        simp only [Consignment.DuesRun, waived, true_and, not_forall, Nat.not_lt] at runs
        obtain ⟨m, paid, covered⟩ := runs
        exact dueLaneO_paid paid covered _
    simp [nothing, runs]

/-! ### The fields of an evaluation (R97, R104, R107) -/

theorem evaluate_delivery (h : k.kind = .delivery) :
    (s.evaluate k).pieces = s.pieceResults k s.clock.minute ∧
    (s.evaluate k).laneO = min (((s.evaluate k).pieces.map fun p => p.fee).sum) 999999 ∧
    (s.evaluate k).laneK = k.cod := by
  simp [State.evaluate, h, saturate_eq]

theorem evaluate_return (h : k.kind = .returnDrop) :
    (s.evaluate k).pieces = [] ∧ (s.evaluate k).laneO = k.laneO ∧ (s.evaluate k).laneK = k.laneK := by
  simp [State.evaluate, h]

theorem evaluate_dueO : (s.evaluate k).dueO = (dueLaneO k (s.evaluate k).laneO s.clock.minute).1 := rfl

theorem evaluate_dueK : (s.evaluate k).dueK = (s.evaluate k).laneK - k.paidK :=
  congrArg Prod.fst (lessPaid_eq ..)

theorem evaluate_total : (s.evaluate k).total = min ((s.evaluate k).dueO + (s.evaluate k).dueK) 999999 :=
  congrArg Prod.fst (saturate_eq ..)

/-- The raised set: what the pieces raise, the two clamps and the two overpayments (R112 to R114). -/
theorem evaluate_raised : (s.evaluate k).raised =
    (((((s.evaluate k).pieces.map fun p => p.raised).foldl CondSet.union CondSet.none).union
      (CondSet.ofSat (decide (999999 < ((s.evaluate k).pieces.map fun p => p.fee).sum) ||
        decide (999999 < (s.evaluate k).dueO + (s.evaluate k).dueK)))).union
      (CondSet.ofOverpaid ((dueLaneO k (s.evaluate k).laneO s.clock.minute).2 ||
        decide ((s.evaluate k).laneK < k.paidK)))) := by
  cases h : k.kind <;> simp [State.evaluate, h, saturate_eq, lessPaid_eq]

/-! ### Sets of conditions (R114) -/

@[simp] theorem condAt_union (a b : CondSet) (q : Condition) : condAt (a.union b) q = (condAt a q || condAt b q) :=
  condAt_condZip ..

theorem condAt_unions (q : Condition) : ∀ (l : List CondSet) (a : CondSet),
    condAt (l.foldl CondSet.union a) q = true ↔ condAt a q = true ∨ ∃ b ∈ l, condAt b q = true
  | [], a => by simp
  | b :: l, a => by
    rw [List.foldl_cons, condAt_unions q l]
    simp [or_assoc]

@[simp] theorem condAt_none (q : Condition) : condAt CondSet.none q = false := by cases q <;> rfl

@[simp] theorem condAt_ofSat (b : Bool) (q : Condition) : condAt (CondSet.ofSat b) q = (decide (q = .sat) && b) := by
  cases q <;> rfl

@[simp] theorem condAt_ofOverpaid (b : Bool) (q : Condition) :
    condAt (CondSet.ofOverpaid b) q = (decide (q = .overpaid) && b) := by
  cases q <;> rfl

/-! ### The statements -/

theorem raisedByAnEvaluation : Claims.RaisedByAnEvaluation := by
  intro s k q ev
  have pieces : condAt ((ev.pieces.map fun p => p.raised).foldl CondSet.union CondSet.none) q = true ↔
      ∃ p ∈ ev.pieces, condAt p.raised q = true := by
    simp [condAt_unions]
  have overpaid := dueLaneO_overpaid_iff (k := k) ev.laneO s.clock.minute
  rw [show ev.raised = _ from evaluate_raised, condAt_union, condAt_union, Bool.or_eq_true, Bool.or_eq_true, pieces,
    condAt_ofSat, condAt_ofOverpaid, Bool.and_eq_true, Bool.and_eq_true, Bool.or_eq_true, Bool.or_eq_true, overpaid,
    decide_eq_true_iff, decide_eq_true_iff, decide_eq_true_iff, decide_eq_true_iff, decide_eq_true_iff, or_assoc,
    or_comm (a := _ ∧ _ < _), Consignment.DuesRun, and_assoc]

theorem lanesAndDues : Claims.LanesAndDues := by
  intro s k ev
  refine ⟨fun delivery => (evaluate_delivery delivery).2, fun drop => (evaluate_return drop).2, evaluate_dueK,
    evaluate_total, fun waived => ?_, fun m paid covered => ?_, fun charged past => ?_, fun more => ?_⟩
  · exact congrArg Prod.fst (dueLaneO_waived waived ..)
  · exact congrArg Prod.fst (dueLaneO_paid paid covered _)
  · exact congrArg Prod.fst ((dueLaneO_runs ⟨charged, past⟩ _).trans (lessPaid_eq ..))
  · exact (raisedByAnEvaluation s k .overpaid).mpr (.inr (.inr ⟨rfl, .inl more⟩))

theorem piecesAreEvaluated : Claims.PiecesAreEvaluated := by
  intro s k bank
  refine ⟨fun delivery => ?_, fun drop => (evaluate_return drop).1⟩
  rw [(evaluate_delivery delivery).1]
  unfold State.pieceResults
  congr 1
  funext c
  cases s.holding c with
  | none => rfl
  | some x =>
    cases hd : x.depositMinute with
    | none => simp [hd]
    | some td => cases hz : x.size <;> simp [hd, hz, sizeAt, bank]

/-- Settles O60, from what a match can find, the classes tried for a piece, and the fields of an evaluation. -/
theorem placementAndDues : Obligations.PlacementAndDues :=
  ⟨carrierMatchRows, allocatorPlacesOnePiece, lanesAndDues, piecesAreEvaluated, raisedByAnEvaluation⟩

end Sys2Proof.Machine
end

section
/-! SUPPORT. Reading a DROP group forward, and what a RUNNING engine does with a slot of its own. -/

namespace Sys2Proof.Machine

variable {s : State} {p : RingSlot}

/-- Below a bound that something fails under, there is a first failure. -/
theorem exists_first {P : Nat → Prop} {b : Nat} (h : ∃ n < b, ¬ P n) : ∃ n < b, ¬ P n ∧ ∀ m < n, P m := by
  classical
  obtain ⟨few, fails⟩ := Nat.find_spec h
  exact ⟨_, few, fails, fun m hm => not_not.mp fun later => Nat.find_min h hm ⟨hm.trans few, later⟩⟩

/-! ### Reading a group (R76) -/

theorem slotAfter_zero (p : RingSlot) : slotAfter p 0 = p := by
  ext
  simp only [slotAfter, Nat.add_zero]
  omega

theorem slotAfter_succ (p : RingSlot) (n : Nat) : slotAfter (slotAfter p n) 1 = slotAfter p (n + 1) := by
  ext
  simp only [slotAfter]
  omega

/-- The slot n places on is the engine's. -/
def State.OwnsAfter (s : State) (p : RingSlot) (n : Nat) : Prop := s.engineOwns (slotAfter p n) = true

/-- The slot n places on may follow another in a group: it is a DROP without FIRST. -/
def State.FollowsAfter (s : State) (p : RingSlot) (n : Nat) : Prop :=
  (s.slot (slotAfter p n)).desc.kind = .drop ∧ (s.slot (slotAfter p n)).desc.first = false

/-- The reading goes on past the slot n places on. -/
def State.PassesAfter (s : State) (p : RingSlot) (n : Nat) : Prop :=
  s.OwnsAfter p n ∧ (s.slot (slotAfter p n)).desc.last = false ∧ (0 < n → s.FollowsAfter p n)

/-- The reading goes on past the first n slots. -/
def State.ReadsThrough (s : State) (p : RingSlot) (n : Nat) : Prop := ∀ j, j < n → s.PassesAfter p j

theorem scanGroup_waits {left n : Nat} (h : ¬ s.OwnsAfter p n) :
    s.scanGroup (left + 1) (slotAfter p n) n = .incomplete (slotAfter p n) := by
  simp [State.scanGroup, Bool.eq_false_iff.mpr h]

/-- The test that breaks a group at its second or a later slot. -/
theorem breaks_iff (n : Nat) : (decide (0 < n) && ((s.slot (slotAfter p n)).desc.kind != .drop ||
    (s.slot (slotAfter p n)).desc.first)) = true ↔ 0 < n ∧ ¬ s.FollowsAfter p n := by
  simp [State.FollowsAfter, Classical.or_iff_not_imp_left]

theorem scanGroup_breaks {left n : Nat} (owned : s.OwnsAfter p n) (later : 0 < n) (h : ¬ s.FollowsAfter p n) :
    s.scanGroup (left + 1) (slotAfter p n) n = .bad n := by
  have owns : s.engineOwns (slotAfter p n) = true := owned
  unfold State.scanGroup
  dsimp only
  rw [owns, (breaks_iff n).mpr ⟨later, h⟩]
  rfl

/-- The reading of an owned slot that does not break the group. -/
theorem scanGroup_reads {left n : Nat} (owned : s.OwnsAfter p n) (follows : 0 < n → s.FollowsAfter p n) :
    s.scanGroup (left + 1) (slotAfter p n) n =
      if (s.slot (slotAfter p n)).desc.last then .good (n + 1) else s.scanGroup left (slotAfter p (n + 1)) (n + 1) := by
  have owns : s.engineOwns (slotAfter p n) = true := owned
  have whole := Bool.eq_false_iff.mpr fun h => ((breaks_iff n).mp h).2 (follows ((breaks_iff n).mp h).1)
  rw [State.scanGroup, owns, whole, slotAfter_succ]
  rfl

/-- Past n slots the reading stands at the slot n places on. -/
theorem scanGroup_through (left : Nat) : ∀ n, s.ReadsThrough p n →
    s.scanGroup (left + n) p 0 = s.scanGroup left (slotAfter p n) n
  | 0, _ => by rw [slotAfter_zero]; rfl
  | n + 1, through => by
    obtain ⟨owned, notLast, follows⟩ := through n (Nat.lt_succ_self n)
    rw [show left + (n + 1) = left + 1 + n by omega,
      scanGroup_through (left + 1) n fun j hj => through j (hj.trans (Nat.lt_succ_self n)),
      scanGroup_reads owned follows, notLast]
    rfl

/-- The reading at a slot that it reaches among its four. -/
theorem scanGroup_reaches {n : Nat} (few : n < 4) (through : s.ReadsThrough p n) :
    s.scanGroup 4 p 0 = s.scanGroup (3 - n + 1) (slotAfter p n) n := by
  rw [← scanGroup_through _ n through]
  congr 1
  omega

theorem scanGroup_incomplete {n : Nat} (few : n < 4) (through : s.ReadsThrough p n) (h : ¬ s.OwnsAfter p n) :
    s.scanGroup 4 p 0 = .incomplete (slotAfter p n) :=
  (scanGroup_reaches few through).trans (scanGroup_waits h)

theorem scanGroup_broken {n : Nat} (few : n < 4) (through : s.ReadsThrough p n) (owned : s.OwnsAfter p n)
    (later : 0 < n) (h : ¬ s.FollowsAfter p n) : s.scanGroup 4 p 0 = .bad n :=
  (scanGroup_reaches few through).trans (scanGroup_breaks owned later h)

theorem scanGroup_unended (through : s.ReadsThrough p 4) : s.scanGroup 4 p 0 = .bad 4 :=
  scanGroup_through 0 4 through

theorem scanGroup_ended {n : Nat} (few : n < 4) (through : s.ReadsThrough p n) (owned : s.OwnsAfter p n)
    (follows : 0 < n → s.FollowsAfter p n) (last : (s.slot (slotAfter p n)).desc.last = true) :
    s.scanGroup 4 p 0 = .good (n + 1) :=
  (scanGroup_reaches few through).trans ((scanGroup_reads owned follows).trans (if_pos last))

/-- Where the reading of a group ends, and with what. -/
theorem scanGroup_cases (s : State) (p : RingSlot) :
    (s.ReadsThrough p 4 ∧ s.scanGroup 4 p 0 = .bad 4) ∨ ∃ n, n < 4 ∧ s.ReadsThrough p n ∧
      ((¬ s.OwnsAfter p n ∧ s.scanGroup 4 p 0 = .incomplete (slotAfter p n)) ∨
       (0 < n ∧ s.OwnsAfter p n ∧ ¬ s.FollowsAfter p n ∧ s.scanGroup 4 p 0 = .bad n) ∨
       (s.OwnsAfter p n ∧ (0 < n → s.FollowsAfter p n) ∧ (s.slot (slotAfter p n)).desc.last = true ∧
         s.scanGroup 4 p 0 = .good (n + 1))) := by
  by_cases whole : s.ReadsThrough p 4
  · exact .inl ⟨whole, scanGroup_unended whole⟩
  obtain ⟨n, few, stopped, through⟩ := exists_first (P := s.PassesAfter p) (b := 4)
    (by simpa [State.ReadsThrough] using whole)
  refine .inr ⟨n, few, through, ?_⟩
  by_cases owned : s.OwnsAfter p n
  · by_cases follows : 0 < n → s.FollowsAfter p n
    · have last : (s.slot (slotAfter p n)).desc.last = true :=
        (Bool.not_eq_false _).mp fun more => stopped ⟨owned, more, follows⟩
      exact .inr (.inr ⟨owned, follows, last, scanGroup_ended few through owned follows last⟩)
    · obtain ⟨later, other⟩ := Classical.not_imp.mp follows
      exact .inr (.inl ⟨later, owned, other, scanGroup_broken few through owned later other⟩)
  · exact .inl ⟨owned, scanGroup_incomplete few through owned⟩

theorem groupIsReadForward : Claims.GroupIsReadForward := by
  intro s p d owned follows reads
  refine ⟨fun n => ⟨fun h => ?_, ?_⟩, fun i => ⟨fun h => ?_, ?_⟩, fun n => ⟨fun h => ?_, ?_⟩⟩
  · rcases scanGroup_cases s p with
      ⟨-, bad⟩ | ⟨m, few, through, ⟨-, waits⟩ | ⟨-, -, -, bad⟩ | ⟨own, joins, last, good⟩⟩
    · cases h.symm.trans bad
    · cases h.symm.trans waits
    · cases h.symm.trans bad
    · cases h.symm.trans good
      exact ⟨m, rfl, few, through, own, joins, last⟩
  · rintro ⟨m, rfl, few, through, own, joins, last⟩
    exact scanGroup_ended few through own joins last
  · rcases scanGroup_cases s p with ⟨-, bad⟩ | ⟨m, few, through, ⟨alien, waits⟩ | ⟨-, -, -, bad⟩ | ⟨-, -, -, good⟩⟩
    · cases h.symm.trans bad
    · cases h.symm.trans waits
      exact ⟨m, few, rfl, through, alien⟩
    · cases h.symm.trans bad
    · cases h.symm.trans good
  · rintro ⟨m, few, rfl, through, alien⟩
    exact scanGroup_incomplete few through alien
  · rcases scanGroup_cases s p with
      ⟨whole, bad⟩ | ⟨m, few, through, ⟨-, waits⟩ | ⟨later, own, other, bad⟩ | ⟨-, -, -, good⟩⟩
    · cases h.symm.trans bad
      exact ⟨whole, .inl rfl⟩
    · cases h.symm.trans waits
    · cases h.symm.trans bad
      exact ⟨through, .inr ⟨later, few, own, other⟩⟩
    · cases h.symm.trans good
  · rintro ⟨through, rfl | ⟨later, few, own, other⟩⟩
    · exact scanGroup_unended through
    · exact scanGroup_broken few through own later other

/-! ### Room (R75, R77, R78) -/

theorem windowRoom_iff (n : Nat) : s.windowRoom n = true ↔ s.engine.window.length + n ≤ 8 := decide_eq_true_iff

theorem releaseRoom_iff (n : Nat) : s.releaseRoom n = true ↔ s.engineHolds + n ≤ 12 ∧ s.seq.queue.length + n ≤ 16 := by
  rw [State.releaseRoom, Bool.and_eq_true, decide_eq_true_iff, decide_eq_true_iff]
  rfl

theorem mayStart_iff (n : Nat) : s.mayStart n = true ↔
    s.releaseRoom n = true ∧ (s.releaseRoom 1 = true → s.feedable = none) := by
  rw [State.mayStart, Bool.and_eq_true, Option.isNone_iff_eq_none, State.feedNow]
  split
  · rename_i room
    simp [room]
  · rename_i full
    simp [full]

/-! ### The look (R75 to R77) -/

theorem lookNow_owned (running : s.engine.state = .running) (own : s.engineOwns s.engine.pointer = true) :
    ((s.slot s.engine.pointer).desc.kind = .drop → s.lookNow = s.lookDrop) ∧
    ((s.slot s.engine.pointer).desc.kind = .recall →
      s.lookNow = if s.windowRoom 1 && s.mayStart 1 then s.startRecall else s) ∧
    ((s.slot s.engine.pointer).desc.kind = .pickup →
      s.lookNow = if s.windowRoom 1 then s.startPickup else s) := by
  refine ⟨fun kind => ?_, fun kind => ?_, fun kind => ?_⟩
  all_goals simp [State.lookNow, running, own, kind]

/-- A DROP without FIRST at the pointer (R76). -/
theorem lookDrop_unled (h : (s.slot s.engine.pointer).desc.first = false) : s.lookDrop =
    if s.windowRoom 1 then (s.started (failedRun (slotRun s.engine.pointer 1) .groupSize)).afterStart else s := by
  have one : slotRun s.engine.pointer 1 = [s.engine.pointer] := by
    rw [show slotRun s.engine.pointer 1 = [slotAfter s.engine.pointer 0] from rfl, slotAfter_zero]
  simp [State.lookDrop, h, one]

theorem lookDrop_incomplete {i : RingSlot} (h : (s.slot s.engine.pointer).desc.first = true)
    (scan : s.scanGroup 4 s.engine.pointer 0 = .incomplete i) : s.lookDrop = s.suspend i := by
  simp [State.lookDrop, h, scan]

theorem lookDrop_bad {n : Nat} (h : (s.slot s.engine.pointer).desc.first = true)
    (scan : s.scanGroup 4 s.engine.pointer 0 = .bad n) : s.lookDrop =
    if s.windowRoom n then (s.started (failedRun (slotRun s.engine.pointer n) .groupSize)).afterStart else s := by
  simp [State.lookDrop, h, scan]

theorem lookDrop_good {n : Nat} (h : (s.slot s.engine.pointer).desc.first = true)
    (scan : s.scanGroup 4 s.engine.pointer 0 = .good n) :
    s.lookDrop = if s.windowRoom n && s.mayStart n then s.startGroup n else s := by
  simp [State.lookDrop, h, scan]

/-- A look that starts what fits and waits otherwise. -/
theorem look_if {t u v : State} {fits : Bool} {P : Prop} (h : t = if fits then u else v) (hP : fits = true ↔ P) :
    (P → t = u) ∧ (¬ P → t = v) :=
  ⟨fun hp => h.trans (if_pos (hP.mpr hp)), fun hp => h.trans (if_neg fun ht => hp (hP.mp ht))⟩

theorem starts_iff (n : Nat) : (s.windowRoom n && s.mayStart n) = true ↔ s.engine.window.length + n ≤ 8 ∧
    s.releaseRoom n = true ∧ (s.releaseRoom 1 = true → s.feedable = none) := by
  rw [Bool.and_eq_true, windowRoom_iff, mayStart_iff]

theorem engineLooksAtADrop : Claims.EngineLooksAtADrop := by
  intro s running own kind p room may broken
  have look := (lookNow_owned running own).1 kind
  exact ⟨fun unled => look_if (look.trans (lookDrop_unled unled)) (windowRoom_iff 1),
    fun led => ⟨fun i scan => look.trans (lookDrop_incomplete led scan),
      fun n scan => look_if (look.trans (lookDrop_bad led scan)) (windowRoom_iff n),
      fun n scan => look_if (look.trans (lookDrop_good led scan)) (starts_iff n)⟩, releaseRoom_iff⟩

theorem engineLooksAtARecallOrPickup : Claims.EngineLooksAtARecallOrPickup := by
  intro s running own kind room may
  obtain ⟨-, atRecall, atPickup⟩ := lookNow_owned running own
  refine ⟨fun isRecall => look_if (atRecall isRecall) ((starts_iff 1).trans (and_congr_right fun _ => ?_)),
    fun isPickup => look_if (atPickup isPickup) (windowRoom_iff 1)⟩
  exact and_congr_right fun free => imp_iff_right free

end Sys2Proof.Machine
end

section
/-! SUPPORT. The start of a DROP group: its checks, its commitment and the code that is drawn for it. -/

namespace Sys2Proof.Machine

variable {s : State}

/-! ### The start (R79) -/

/-- The descriptors of a group of n at the pointer. -/
def State.groupAt (s : State) (n : Nat) : List Descriptor :=
  (slotRun s.engine.pointer n).map fun i => (s.slot i).desc

/-- A group that fails: one record with its status for each descriptor, COD_CLAMPED in the first (R79). -/
def State.groupFails (s : State) (n : Nat) (st : Status) : State :=
  (s.started (clampFirst (codClamped (s.slot s.engine.pointer).desc)
    (failedRun (slotRun s.engine.pointer n) st))).afterStart

theorem startGroup_format {n : Nat} (h : ∃ d ∈ s.groupAt n, d.parcelRef = none) :
    s.startGroup n = s.groupFails n .format := by
  refine congrArg State.afterStart (if_pos ?_)
  simpa [State.groupAt] using h

/-- The pieces of the group all have a parcel reference. -/
theorem groupAt_referenced {n : Nat} (h : ∀ d ∈ s.groupAt n, d.parcelRef ≠ none) :
    ¬ ((s.groupAt n).any fun d => d.parcelRef.isNone) = true := by
  simpa using h

theorem startGroup_fails {n : Nat} {st : Status} (h : ∀ d ∈ s.groupAt n, d.parcelRef ≠ none)
    (fails : s.checkGroup (s.slot s.engine.pointer).desc (s.groupAt n) = .fails st) :
    s.startGroup n = s.groupFails n st := by
  refine congrArg State.afterStart ((if_neg (groupAt_referenced h)).trans ?_)
  unfold State.groupAt at fails
  rw [fails]

theorem startGroup_passes {n : Nat} {i : Fin 8} {comps : List Comp} {r : RecordNo}
    (h : ∀ d ∈ s.groupAt n, d.parcelRef ≠ none)
    (passes : s.checkGroup (s.slot s.engine.pointer).desc (s.groupAt n) = .passes i comps)
    (free : s.freeRecord = some r) : s.startGroup n = (s.startPlaced (s.slot s.engine.pointer).desc i
      (placedOf s (slotRun s.engine.pointer n) comps) r).afterStart := by
  refine congrArg State.afterStart ((if_neg (groupAt_referenced h)).trans ?_)
  unfold State.groupAt at passes
  rw [passes, free]

theorem dropGroupStarts : Claims.DropGroupStarts :=
  fun _ _ => ⟨startGroup_format, fun h => ⟨fun _ => startGroup_fails h, fun _ _ _ => startGroup_passes h⟩⟩

/-! ### The checks (R59) -/

/-- The checks of a group whose carrier is matched, in their order. -/
theorem checkGroup_found {first : Descriptor} {group : List Descriptor} {i : Fin 8}
    (found : s.matchCarrier first.carrierId = .found i) : s.checkGroup first group =
      if !(s.carriers.get i).rights.deliver || (codTaken first != 0 && !(s.carriers.get i).rights.cod) then
        .fails .notPermitted
      else if !(group.all fun d => sizeAt (s.carriers.get i).sizes d.size) then .fails .noSpace
      else (s.codeFails first).elim (if !(s.quotaAdmits i group.length) then .fails .quota
        else (s.placeAll (group.map fun d => d.size) []).elim (.fails .noSpace) (.passes i)) .fails := by
  unfold State.checkGroup
  rw [found]
  dsimp only
  cases s.codeFails first <;> cases s.placeAll (group.map fun d => d.size) [] <;> rfl

theorem entitled_iff (first : Descriptor) (e : CarrierEntry) :
    (!e.rights.deliver || (codTaken first != 0 && !e.rights.cod)) = true ↔
      ¬ (e.rights.deliver = true ∧ (min (first.cod.getD 0) 999999 = 0 ∨ e.rights.cod = true)) := by
  rw [show min (first.cod.getD 0) 999999 = codTaken first from rfl]
  cases e.rights.deliver <;> cases e.rights.cod <;> simp

theorem codeFails_zero {d : Descriptor} (h : d.code = some 0) : s.codeFails d = some .format := by
  simp [State.codeFails, h]

theorem codeFails_used {d : Descriptor} {x : Nat} (h : d.code = some x) (nonzero : x ≠ 0)
    (used : (s.findCode x).isSome = true) : s.codeFails d = some .codeClash := by
  obtain ⟨y, rfl⟩ := Nat.exists_eq_succ_of_ne_zero nonzero
  simp [State.codeFails, h, used]

theorem codeFails_none {d : Descriptor} (h : ∀ x, d.code = some x → x ≠ 0 ∧ s.findCode x = none) :
    s.codeFails d = none := by
  cases code : d.code with
  | none => simp [State.codeFails, code]
  | some x =>
    obtain ⟨nonzero, unused⟩ := h x code
    obtain ⟨y, rfl⟩ := Nat.exists_eq_succ_of_ne_zero nonzero
    simp [State.codeFails, code, unused]

theorem placeAll_cons (z : SizeClass) (rest : List SizeClass) (taken : List Comp) : s.placeAll (z :: rest) taken =
    (s.placeOne .delivery z taken).elim none fun c => s.placeAll rest (taken ++ [c]) := by
  rw [State.placeAll]
  cases s.placeOne .delivery z taken <;> rfl

theorem groupChecks : Claims.GroupChecks := by
  intro s first group
  refine ⟨fun unknown => ?_, fun disabled => ?_, fun i found => ?_, fun z rest taken => ⟨rfl, fun none => ?_,
    fun c placed => ?_⟩⟩
  · simp [State.checkGroup, unknown]
  · simp [State.checkGroup, disabled]
  · intro e entitled sized
    have checks := checkGroup_found (group := group) found
    have may : entitled → s.checkGroup first group = _ := fun h =>
      checks.trans (if_neg fun no => (entitled_iff first e).mp no h)
    have fit : entitled → sized → s.checkGroup first group = _ := fun h z =>
      (may h).trans (if_neg (by simpa using z))
    refine ⟨fun h => checks.trans (if_pos ((entitled_iff first e).mpr h)),
      fun h unfit => (may h).trans (if_pos (by simpa [sized] using unfit)),
      fun h z code => ?_, fun x h z code nonzero used => ?_,
      fun h z code => ⟨fun exceeds => ?_, fun within => ⟨fun none => ?_, fun comps placed => ?_⟩⟩⟩
    · rw [fit h z, codeFails_zero code]
      rfl
    · rw [fit h z, codeFails_used code nonzero used]
      rfl
    · rw [fit h z, codeFails_none code]
      exact if_pos (by simpa [State.quotaAdmits] using exceeds)
    · rw [fit h z, codeFails_none code, none]
      exact if_neg (by simpa [State.quotaAdmits] using within)
    · rw [fit h z, codeFails_none code, placed]
      exact if_neg (by simpa [State.quotaAdmits] using within)
  · rw [placeAll_cons, none]
    rfl
  · rw [placeAll_cons, placed]
    rfl

end Sys2Proof.Machine
end

section
/-! SUPPORT. The commitment of a DROP group, and the code that is drawn for it. -/

namespace Sys2Proof.Machine

variable {s : State}

/-! ### Reservations (R61) -/

theorem reserve_frame (c : Comp) (x : Holding) :
    (s.reserve c x).custody.records = s.custody.records ∧ (s.reserve c x).custody.codeMap = s.custody.codeMap ∧
      (s.reserve c x).carriers = s.carriers ∧ (s.reserve c x).codeGen = s.codeGen ∧ (s.reserve c x).seq = s.seq ∧
      (s.reserve c x).engine = s.engine := by
  unfold State.reserve State.setEntry
  split <;> exact ⟨rfl, rfl, rfl, rfl, rfl, rfl⟩

theorem reserve_entry_same (c : Comp) (x : Holding) : (s.reserve c x).entry c =
    { s.entry c with state := .reserved, cause := none, holding := some x } := setEntry_entry_same ..

theorem reserve_entry_other (c d : Comp) (x : Holding) (h : d ≠ c) : (s.reserve c x).entry d = s.entry d :=
  setEntry_entry_other _ _ _ _ h

/-- The reservation of a group's pieces. -/
def State.reserveAll (s : State) (f : Placed → Holding) (ps : List Placed) : State :=
  ps.foldl (fun t p => t.reserve p.comp (f p)) s

theorem reserveAll_frame (f : Placed → Holding) : ∀ (ps : List Placed) (s : State),
    (s.reserveAll f ps).custody.records = s.custody.records ∧
      (s.reserveAll f ps).custody.codeMap = s.custody.codeMap ∧ (s.reserveAll f ps).carriers = s.carriers ∧
      (s.reserveAll f ps).codeGen = s.codeGen ∧ (s.reserveAll f ps).seq = s.seq ∧ (s.reserveAll f ps).engine = s.engine
  | [], _ => ⟨rfl, rfl, rfl, rfl, rfl, rfl⟩
  | p :: ps, s => by
    obtain ⟨records, codeMap, carriers, codeGen, seq, engine⟩ := reserveAll_frame f ps (s.reserve p.comp (f p))
    obtain ⟨records', codeMap', carriers', codeGen', seq', engine'⟩ := reserve_frame (s := s) p.comp (f p)
    exact ⟨records.trans records', codeMap.trans codeMap', carriers.trans carriers', codeGen.trans codeGen',
      seq.trans seq', engine.trans engine'⟩

theorem reserveAll_entry_other (f : Placed → Holding) (c : Comp) : ∀ (ps : List Placed) (s : State),
    (∀ p ∈ ps, p.comp ≠ c) → (s.reserveAll f ps).entry c = s.entry c
  | [], _, _ => rfl
  | p :: ps, s, h =>
    (reserveAll_entry_other f c ps (s.reserve p.comp (f p)) fun q hq => h q (List.mem_cons_of_mem _ hq)).trans
      (reserve_entry_other _ _ _ (h p List.mem_cons_self).symm)

theorem reserveAll_entry_same (f : Placed → Holding) : ∀ (ps : List Placed) (s : State),
    (ps.map fun p => p.comp).Nodup → ∀ p ∈ ps, (s.reserveAll f ps).entry p.comp =
      { s.entry p.comp with state := .reserved, cause := none, holding := some (f p) }
  | [], _, _, _, hp => absurd hp List.not_mem_nil
  | q :: ps, s, nodup, p, hp => by
    rw [List.map_cons, List.nodup_cons] at nodup
    obtain ⟨new, nodup⟩ := nodup
    have later : ∀ r ∈ ps, r.comp ≠ q.comp := fun r hr same => new (List.mem_map.mpr ⟨r, hr, same⟩)
    rcases List.mem_cons.mp hp with rfl | hp
    · exact (reserveAll_entry_other f p.comp ps _ later).trans (reserve_entry_same ..)
    · refine (reserveAll_entry_same f ps (s.reserve q.comp (f q)) nodup p hp).trans ?_
      rw [reserve_entry_other _ _ _ (later p hp)]

/-! ### The commitment (R61) -/

/-- The record of a committed group (R9, R10). -/
def groupRecord (i : Fin 8) (code cod : Nat) (pieces : List Placed) : Consignment :=
  { code := some code, kind := .delivery, carrier := i, pieces := pieces.map fun p => p.comp, cod := cod,
    laneO := 0, laneK := 0, paidO := 0, paidK := 0, paidThrough := none, waived := false, openRef := none }

/-- A consignment enters the table with its code (R9, R10). -/
def State.register (s : State) (n : RecordNo) (code : Nat) (k : Consignment) : State :=
  { s.putRecord n (some k) with
    custody := { (s.putRecord n (some k)).custody with codeMap := mapInsert code n s.custody.codeMap } }

/-- The holding of a piece of a group that carrier i brings (R5, R61). -/
def State.groupHolding (s : State) (n : RecordNo) (i : Fin 8) (p : Placed) : Holding :=
  Holding.fresh n p.desc.parcelRef p.desc.size (s.carriers.get i).tariffClass (.slot p.slot)

theorem commitGroup_eq (n : RecordNo) (i : Fin 8) (code cod : Nat) (pieces : List Placed) :
    s.commitGroup n i code cod pieces = ((s.register n code (groupRecord i code cod pieces)).reserveAll
      (s.groupHolding n i) pieces).raiseLive i pieces.length := rfl

/-- What the commitment of a group writes, and what it leaves as it was (R9, R10, R50, R61). -/
theorem commitGroup_spec (n : RecordNo) (i : Fin 8) (code cod : Nat) (pieces : List Placed) :
    let t := s.commitGroup n i code cod pieces
    t.custody.records = put s.custody.records n (some (groupRecord i code cod pieces)) ∧
      t.custody.codeMap = mapInsert code n s.custody.codeMap ∧
      t.carriers = put s.carriers i { s.carriers.get i with live := (s.carriers.get i).live + pieces.length } ∧
      t.codeGen = s.codeGen ∧ t.seq = s.seq ∧ t.engine = s.engine := by
  intro t
  obtain ⟨records, codeMap, carriers, codeGen, seq, engine⟩ := reserveAll_frame (s.groupHolding n i) pieces
    (s.register n code (groupRecord i code cod pieces))
  refine ⟨records, codeMap, ?_, codeGen, seq, engine⟩
  exact congrArg (fun v : Vector CarrierEntry 8 => put v i { v.get i with live := (v.get i).live + pieces.length })
    carriers

theorem commitGroup_entry_other (n : RecordNo) (i : Fin 8) (code cod : Nat) {pieces : List Placed} {c : Comp}
    (h : ∀ p ∈ pieces, p.comp ≠ c) : (s.commitGroup n i code cod pieces).entry c = s.entry c :=
  reserveAll_entry_other _ c pieces (s.register n code (groupRecord i code cod pieces)) h

theorem commitGroup_entry_same (n : RecordNo) (i : Fin 8) (code cod : Nat) {pieces : List Placed}
    (nodup : (pieces.map fun p => p.comp).Nodup) {p : Placed} (hp : p ∈ pieces) :
    (s.commitGroup n i code cod pieces).entry p.comp =
      { s.entry p.comp with state := .reserved, cause := none, holding := some (s.groupHolding n i p) } :=
  reserveAll_entry_same _ pieces (s.register n code (groupRecord i code cod pieces)) nodup p hp

/-! ### The releases of a group (R79, R146) -/

/-- The release of a piece. -/
def Placed.entry (p : Placed) : Entry := Entry.fresh p.comp .custody .deposit .courier

/-- A request finds room for a compartment without an entry whose column is up, and joins the queue. -/
theorem request_queues {e : Entry} (clear : s.hasEntry e.comp = false) (up : s.column e.comp.column ≠ .disabled)
    (room : s.seq.queue.length < 16) : s.request e = s.join e :=
  (request_taken (requestAnswer_room clear room)).trans (if_neg fun h => up h.2)

theorem hasEntry_join (e : Entry) (c : Comp) (h : c ≠ e.comp) : (s.join e).hasEntry c = s.hasEntry c := by
  have other : (e.comp == c) = false := beq_eq_false_iff_ne.mpr h.symm
  show (s.seq.queue ++ [e]).any _ = s.seq.queue.any _
  simp [other]

/-- The releases asked for a group join the end of the queue in its order, and nothing else of the tables changes. -/
theorem requestAll_spec : ∀ (ps : List Placed) (s : State), (ps.map fun p => p.comp).Nodup →
    (∀ p ∈ ps, s.hasEntry p.comp = false ∧ s.column p.comp.column ≠ .disabled) →
    ps.length + s.seq.queue.length ≤ 16 →
    let t := ps.foldl (fun t p => t.request p.entry) s
    t.seq.queue = s.seq.queue ++ ps.map Placed.entry ∧ t.custody = s.custody ∧ t.carriers = s.carriers ∧
      t.codeGen = s.codeGen ∧ t.engine = s.engine
  | [], s, _, _, _ => ⟨(List.append_nil _).symm, rfl, rfl, rfl, rfl⟩
  | p :: ps, s, nodup, clear, room => by
    rw [List.map_cons, List.nodup_cons] at nodup
    obtain ⟨new, nodup⟩ := nodup
    obtain ⟨noEntry, up⟩ := clear p List.mem_cons_self
    rw [List.length_cons] at room
    have joins : s.request p.entry = s.join p.entry := request_queues noEntry up (by omega)
    have queue : (s.join p.entry).seq.queue = s.seq.queue ++ [p.entry] := rfl
    have clear' : ∀ q ∈ ps, (s.join p.entry).hasEntry q.comp = false ∧
        (s.join p.entry).column q.comp.column ≠ .disabled := by
      intro q hq
      obtain ⟨noEntry, up⟩ := clear q (List.mem_cons_of_mem _ hq)
      have ne : q.comp ≠ p.comp := fun same => new (List.mem_map.mpr ⟨q, hq, same⟩)
      exact ⟨(hasEntry_join p.entry q.comp ne).trans noEntry, up⟩
    obtain ⟨queued, rest⟩ := requestAll_spec ps (s.join p.entry) nodup clear' (by
      rw [queue, List.length_append, List.length_singleton]
      omega)
    intro t
    have start : t = ps.foldl (fun t p => t.request p.entry) (s.join p.entry) := congrArg (ps.foldl _) joins
    rw [start]
    exact ⟨queued.trans (by rw [queue, List.append_assoc]; rfl), rest⟩

/-! ### A group that is committed (R79) -/

/-- The state in which a group is committed: the generator has moved where it draws the code (R64). -/
def State.codeTaken (s : State) (first : Descriptor) : State :=
  match first.code with
  | some _ => s
  | none => { s with codeGen := { s.codeGen with position := s.draw.2 } }

theorem startPlaced_eq (first : Descriptor) (i : Fin 8) (pieces : List Placed) (n : RecordNo) :
    s.startPlaced first i pieces n = pieces.foldl (fun t p => t.request p.entry)
      (((s.codeTaken first).commitGroup n i (first.code.getD s.draw.1) (codTaken first) pieces).started
        (clampFirst (codClamped first) (pieces.map fun p => p.record (first.code.getD s.draw.1) i))) := by
  unfold State.startPlaced State.codeTaken
  cases first.code <;> rfl

theorem codeTaken_frame (first : Descriptor) : (s.codeTaken first).custody = s.custody ∧
    (s.codeTaken first).carriers = s.carriers ∧ (s.codeTaken first).seq = s.seq ∧
    (s.codeTaken first).engine = s.engine := by
  unfold State.codeTaken
  split <;> exact ⟨rfl, rfl, rfl, rfl⟩

theorem clampFirst_length (b : Bool) (rs : List WindowRecord) : (clampFirst b rs).length = rs.length := by
  cases rs <;> rfl

theorem codeTaken_entry (first : Descriptor) (c : Comp) : (s.codeTaken first).entry c = s.entry c := by
  unfold State.codeTaken
  split <;> rfl

theorem codeTaken_groupHolding (first : Descriptor) (n : RecordNo) (i : Fin 8) (p : Placed) :
    (s.codeTaken first).groupHolding n i p = s.groupHolding n i p := by
  unfold State.codeTaken
  split <;> rfl

/-- The generator moves only where it draws the code (R61, R64). -/
theorem codeTaken_codeGen (first : Descriptor) :
    (first.code = none → (s.codeTaken first).codeGen = { s.codeGen with position := s.draw.2 }) ∧
    (first.code ≠ none → (s.codeTaken first).codeGen = s.codeGen) := by
  unfold State.codeTaken
  cases first.code with
  | none => exact ⟨fun _ => rfl, fun h => absurd rfl h⟩
  | some x => exact ⟨fun h => absurd h (by simp), fun _ => rfl⟩

theorem groupIsCommitted : Claims.GroupIsCommitted := by
  intro s first i pieces n nodup clear room t code
  obtain ⟨custody₀, carriers₀, seq₀, engine₀⟩ := codeTaken_frame (s := s) first
  obtain ⟨records, codeMap, carriers, codeGen, seq, engine⟩ :=
    commitGroup_spec (s := s.codeTaken first) n i code (codTaken first) pieces
  let committed := (s.codeTaken first).commitGroup n i code (codTaken first) pieces
  let entered := committed.started (clampFirst (codClamped first) (pieces.map fun p => p.record code i))
  have seqEntered : entered.seq = s.seq := seq.trans seq₀
  have clear' : ∀ p ∈ pieces, entered.hasEntry p.comp = false ∧ entered.column p.comp.column ≠ .disabled := by
    simp only [State.hasEntry, State.column, seqEntered]
    exact clear
  obtain ⟨queue, custody', carriers', codeGen', engine'⟩ :=
    requestAll_spec pieces entered nodup clear' (by rw [seqEntered]; exact room)
  rw [← show t = _ from startPlaced_eq first i pieces n] at queue custody' carriers' codeGen' engine'
  have entry : ∀ c, t.entry c = committed.entry c := fun c => congrArg (fun k : Custody => k.entries.get c) custody'
  have record : ∀ m, t.record m =
      (put s.custody.records n (some (groupRecord i code (codTaken first) pieces))).get m := by
    intro m
    rw [State.record, custody', ← custody₀]
    exact congrArg (fun v : Vector (Option Consignment) 144 => v.get m) records
  refine ⟨?_, fun m hm => ?_, ?_, fun p hp => ?_, fun c hc => ?_, ?_, ?_, ?_, ?_, fun drawn => ?_, fun supplied => ?_⟩
  · exact (record n).trans (put_get_same ..)
  · exact (record m).trans (put_get_other _ _ _ _ hm)
  · rw [custody', ← custody₀]
    exact codeMap
  · rw [entry, commitGroup_entry_same n i code _ nodup hp, codeTaken_entry, codeTaken_groupHolding]
    rfl
  · rw [entry, commitGroup_entry_other n i code _ hc, codeTaken_entry]
  · rw [carriers', ← carriers₀]
    exact (congrArg (fun v : Vector CarrierEntry 8 => v.get i) carriers).trans (put_get_same ..)
  · rw [queue, seqEntered]
    rfl
  · rw [engine', ← engine₀]
    exact congrArg (fun e : Engine => e.window ++ _) engine
  · rw [engine', ← engine₀]
    have length : (clampFirst (codClamped first) (pieces.map fun p => p.record code i)).length = pieces.length := by
      rw [clampFirst_length, List.length_map]
    exact (congrArg (fun e : Engine => slotAfter e.pointer _) engine).trans (congrArg (slotAfter _) length)
  · exact codeGen'.trans (codeGen.trans ((codeTaken_codeGen first).1 drawn))
  · exact codeGen'.trans (codeGen.trans ((codeTaken_codeGen first).2 supplied))

/-! ### The code that is drawn (R63, R64) -/

/-- A candidate that no draw takes: 00000000, or a code in use (R64). -/
def Passed (used : List Nat) (x : Nat) : Prop := x = 0 ∨ x ∈ used

/-- Fewer codes than a period holds leave a candidate that can be drawn (R63). -/
theorem candidate_unpassed (seed : Nat) (used : List Nat) (position : Nat) (few : used.length + 2 ≤ 100000000) :
    ∃ i < used.length + 2, ¬ Passed used (candidateAt seed (position + 1 + i)) := by
  by_contra all
  have fits : ∀ i ∈ Finset.range (used.length + 2), candidateAt seed (position + 1 + i) ∈ insert 0 used.toFinset := by
    intro i hi
    by_contra out
    exact all ⟨i, Finset.mem_range.mp hi, fun passed => out (by simpa [Passed] using passed)⟩
  have card : (insert 0 used.toFinset).card < (Finset.range (used.length + 2)).card := by
    have := Finset.card_insert_le 0 used.toFinset
    have := List.toFinset_card_le used
    simp only [Finset.card_range]
    omega
  obtain ⟨i, hi, j, hj, ne, same⟩ := Finset.exists_ne_map_eq_of_card_lt_of_maps_to card fits
  have := candidateAt_injective seed _ _ same
  simp only [Finset.mem_range] at hi hj
  omega

theorem drawCode_passes {seed : Nat} {used : List Nat} {fuel position : Nat}
    (h : Passed used (candidateAt seed ((position + 1) % 100000000))) :
    drawCode seed used (fuel + 1) position = drawCode seed used fuel ((position + 1) % 100000000) :=
  if_pos (by simpa [Passed, Config.codePeriod] using h)

theorem drawCode_takes {seed : Nat} {used : List Nat} {fuel position : Nat}
    (h : ¬ Passed used (candidateAt seed ((position + 1) % 100000000))) :
    drawCode seed used (fuel + 1) position =
      (candidateAt seed ((position + 1) % 100000000), (position + 1) % 100000000) :=
  if_neg (by simpa [Passed, Config.codePeriod] using h)

/-- A draw takes the first candidate past the position that can be drawn, and stands there (R64). -/
theorem drawCode_first (seed : Nat) (used : List Nat) : ∀ (j fuel position : Nat), j < fuel →
    ¬ Passed used (candidateAt seed ((position + 1 + j) % 100000000)) →
    (∀ m, m < j → Passed used (candidateAt seed ((position + 1 + m) % 100000000))) →
    drawCode seed used fuel position =
      (candidateAt seed ((position + 1 + j) % 100000000), (position + 1 + j) % 100000000)
  | 0, fuel + 1, position, _, free, _ => drawCode_takes free
  | j + 1, fuel + 1, position, enough, free, before => by
    have shift : ∀ m, ((position + 1) % 100000000 + 1 + m) % 100000000 = (position + 1 + (m + 1)) % 100000000 := by
      omega
    rw [drawCode_passes (before 0 j.succ_pos), drawCode_first seed used j fuel _ (Nat.lt_of_succ_lt_succ enough)
      (by rwa [shift]) fun m hm => by rw [shift]; exact before (m + 1) (Nat.succ_lt_succ hm), shift]

theorem drawnCodeIsFree : Claims.DrawnCodeIsFree := by
  intro s few at_ taken
  let used := s.custody.codeMap.map fun p => p.1
  have length : used.length = s.custody.codeMap.length := List.length_map ..
  have passed : ∀ x, Passed used x ↔ taken x := by simp [Passed, used, taken]
  have around : ∀ j, candidateAt s.codeGen.seed (s.codeGen.position + 1 + j) = candidateAt s.codeGen.seed (at_ j) :=
    fun j => (candidateAt_mod ..).symm
  obtain ⟨j, enough, free, before⟩ := exists_first
    (P := fun j => Passed used (candidateAt s.codeGen.seed (at_ j))) (b := used.length + 2)
    (by simpa only [around] using candidate_unpassed s.codeGen.seed used s.codeGen.position (by omega))
  rw [length] at enough
  have drawn : s.draw = (candidateAt s.codeGen.seed (at_ j), at_ j) := drawCode_first _ _ j _ _ enough free before
  refine ⟨j, drawn, ?_, ?_, fun m hm => (passed _).mp (before m hm)⟩
  · rw [drawn]
    exact Fin.isLt _
  · rw [drawn, ← passed]
    exact free

end Sys2Proof.Machine
end

section
/-! SUPPORT. The starts of RECALL and PICKUP, feeding, and the reports that the window takes. -/

namespace Sys2Proof.Machine

variable {s : State} {c : Comp}

/-! ### What a RECALL and a PICKUP find (R81, R83) -/

theorem ofCarrier_iff (i : Fin 8) (c : Comp) : s.ofCarrier i c = true ↔
    ∃ x k, s.holding c = some x ∧ s.record x.record = some k ∧ k.carrier = i := by
  unfold State.ofCarrier State.consignment
  cases hx : s.holding c with
  | none => simp
  | some x => cases hk : s.record x.record <;> simp [hk]

theorem mem_recallCandidates (i : Fin 8) (ref : Text) (c : Comp) : c ∈ s.recallCandidates i ref ↔
    ∃ x k, s.holding c = some x ∧ s.record x.record = some k ∧ k.carrier = i ∧ k.kind = .delivery ∧
      x.parcelRef = some ref := by
  simp only [State.recallCandidates, List.mem_filter, Comp.all, List.mem_finRange, true_and, Bool.and_eq_true,
    ofCarrier_iff, and_assoc]
  cases hx : s.holding c with
  | none => simp
  | some x => cases hk : s.record x.record <;> simp [State.consignment, hx, hk]

theorem admits_recall_iff (st : CustodyState) :
    ClaimKind.admits .recall st = true ↔ st = .held ∨ st = .overstayed := by
  cases st <;> simp [ClaimKind.admits]

theorem admits_pickup_iff (st : CustodyState) :
    ClaimKind.admits .pickup st = true ↔ st = .returnHeld ∨ st = .overstayed := by
  cases st <;> simp [ClaimKind.admits]

theorem mem_pickupClaims (i : Fin 8) (c : Comp) : c ∈ s.pickupClaims i ↔
    (s.custodyState c = .returnHeld ∨ s.custodyState c = .overstayed) ∧ s.hasEntry c = false ∧
      ∃ x k, s.holding c = some x ∧ s.record x.record = some k ∧ k.carrier = i := by
  simp only [State.pickupClaims, List.mem_filter, Comp.all, List.mem_finRange, true_and, Bool.and_eq_true,
    ofCarrier_iff, admits_pickup_iff, Bool.not_eq_true', and_assoc]
  exact and_comm.trans and_assoc

/-- Compartments that a test selects stand in number order. -/
theorem selected_ascending (p : Comp → Bool) : (Comp.all.filter p).Pairwise (· < ·) :=
  (List.sortedLT_finRange 144).pairwise.filter p

/-- The lowest-numbered compartment of a selection that satisfies a test. -/
theorem find?_selected {p q : Comp → Bool} (hc : c ∈ Comp.all.filter p) (hq : q c = true)
    (before : ∀ x ∈ Comp.all.filter p, x < c → q x = false) : (Comp.all.filter p).find? q = some c := by
  rw [List.find?_filter, Comp.all, find?_finRange_iff]
  refine ⟨by simpa using ⟨(List.mem_filter.mp hc).2, hq⟩, fun x hx => ?_⟩
  cases hp : p x with
  | false => simp
  | true => simpa using before x (List.mem_filter.mpr ⟨List.mem_finRange x, hp⟩) hx

/-! ### The start of a RECALL (R81) -/

/-- The claim of a RECALL admits the compartment, and no release entry stands in its way. -/
theorem claimable_iff (c : Comp) : (ClaimKind.admits .recall (s.custodyState c) && !(s.hasEntry c)) = true ↔
    (s.custodyState c = .held ∨ s.custodyState c = .overstayed) ∧ s.hasEntry c = false := by
  rw [Bool.and_eq_true, admits_recall_iff, Bool.not_eq_true']

theorem startRecall_format (h : (s.slot s.engine.pointer).desc.parcelRef = none) :
    s.startRecall = (s.startFails .recall .format).afterStart := by
  simp [State.startRecall, h]

theorem startRecall_unmatched {ref : Text} (h : (s.slot s.engine.pointer).desc.parcelRef = some ref) :
    (s.matchCarrier (s.slot s.engine.pointer).desc.carrierId = .unknown →
      s.startRecall = (s.startFails .recall .unknownCarrier).afterStart) ∧
    (s.matchCarrier (s.slot s.engine.pointer).desc.carrierId = .notPermitted →
      s.startRecall = (s.startFails .recall .notPermitted).afterStart) :=
  ⟨fun unknown => by simp [State.startRecall, h, unknown], fun disabled => by simp [State.startRecall, h, disabled]⟩

theorem startRecall_found {ref : Text} {i : Fin 8} (h : (s.slot s.engine.pointer).desc.parcelRef = some ref)
    (found : s.matchCarrier (s.slot s.engine.pointer).desc.carrierId = .found i) : s.startRecall =
      (if (s.carriers.get i).rights.deliver then s.recallFrom (s.slot s.engine.pointer).desc ref i
        else s.startFails .recall .notPermitted).afterStart := by
  simp [State.startRecall, h, found]

/-- A RECALL that claims a candidate. -/
theorem recallFrom_claims {d : Descriptor} {ref : Text} {i : Fin 8} (kind : d.kind = .recall)
    (h : (s.recallCandidates i ref).find? (fun c => ClaimKind.admits .recall (s.custodyState c) && !(s.hasEntry c)) =
      some c) : s.recallFrom d ref i =
      ((s.started [{ WindowRecord.fresh s.engine.pointer .recall none with carrier := some i, comp := some c }]).claim c
        .carrier).request (Entry.fresh c .custody .recall .courier) := by
  simp [State.recallFrom, h, kind]

/-- A RECALL that can claim none of its candidates. -/
theorem recallFrom_fails {d : Descriptor} {ref : Text} {i : Fin 8} (kind : d.kind = .recall)
    (h : (s.recallCandidates i ref).find? (fun c => ClaimKind.admits .recall (s.custodyState c) && !(s.hasEntry c)) =
      none) :
    (∀ c rest, s.recallCandidates i ref = c :: rest → s.recallFrom d ref i =
      s.started [{ WindowRecord.fresh s.engine.pointer .recall (some (s.recallStatus c)) with
        carrier := some i, comp := some c }]) ∧
    (s.recallCandidates i ref = [] → s.recallFrom d ref i =
      s.started [{ WindowRecord.fresh s.engine.pointer .recall (some .notFound) with carrier := some i }]) := by
  unfold State.recallFrom
  dsimp only
  rw [h, kind]
  refine ⟨fun c rest first => ?_, fun empty => ?_⟩
  · rw [first]
    rfl
  · rw [empty]
    rfl

/-- The status of a RECALL that can claim none (R21, R81). -/
theorem recallStatus_rows (c : Comp) :
    ((s.custodyState c).isRest = true → s.hasEntry c = true → s.recallStatus c = .occupied) ∧
    (s.custodyState c = .releasing ∨ s.custodyState c = .emptying → s.recallStatus c = .claimed) ∧
    (s.custodyState c = .review → s.recallStatus c = .review) ∧
    (s.custodyState c = .outOfService → s.recallStatus c = .outOfService) ∧
    (s.custodyState c = .reserved ∨ s.custodyState c = .loading → s.recallStatus c = .notReady) := by
  have moving : (s.custodyState c).isRest = false → s.recallStatus c = claimStatus (s.custodyState c) :=
    fun h => if_neg (by simp [h])
  refine ⟨fun rest waits => if_pos (by simp [rest, waits]), ?_, fun st => ?_, fun st => ?_, ?_⟩
  · rintro (st | st) <;> rw [moving (by rw [st]; rfl), st] <;> rfl
  · rw [moving (by rw [st]; rfl), st]
    rfl
  · rw [moving (by rw [st]; rfl), st]
    rfl
  · rintro (st | st) <;> rw [moving (by rw [st]; rfl), st] <;> rfl

theorem recallStarts : Claims.RecallStarts := by
  intro s kind d blank fails
  refine ⟨startRecall_format, fun ref parcel => ⟨(startRecall_unmatched parcel).1, (startRecall_unmatched parcel).2,
    fun i found => ?_⟩, recallStatus_rows⟩
  intro claimable cs
  have starts := startRecall_found parcel found
  have unclaimable : ∀ x, ¬ claimable x →
      (ClaimKind.admits .recall (s.custodyState x) && !(s.hasEntry x)) = false :=
    fun x hx => Bool.eq_false_iff.mpr fun h => hx ((claimable_iff x).mp h)
  refine ⟨fun noRight => ?_, fun right => ?_, mem_recallCandidates i ref, selected_ascending _⟩
  · rw [starts, noRight]
    rfl
  · have served : s.startRecall = (s.recallFrom d ref i).afterStart :=
      starts.trans (congrArg State.afterStart (if_pos right))
    refine ⟨fun c hc free before => ?_, fun all => ?_⟩
    · exact served.trans (congrArg State.afterStart (recallFrom_claims kind (find?_selected hc
        ((claimable_iff c).mpr free) fun x hx lower => unclaimable x (before x hx lower))))
    · obtain ⟨first, empty⟩ := recallFrom_fails kind
        (List.find?_eq_none.mpr fun x hx => Bool.eq_false_iff.mp (unclaimable x (all x hx)))
      exact ⟨fun c rest split => served.trans (congrArg State.afterStart (first c rest split)),
        fun none => served.trans (congrArg State.afterStart (empty none))⟩

end Sys2Proof.Machine
end

section
/-! SUPPORT. The start of a PICKUP, feeding, and the reports that the window takes. -/

namespace Sys2Proof.Machine

variable {s : State} {c : Comp}

/-! ### The start of a PICKUP (R83) -/

theorem startPickup_unmatched :
    (s.matchCarrier (s.slot s.engine.pointer).desc.carrierId = .unknown →
      s.startPickup = (s.startFails .pickup .unknownCarrier).afterStart) ∧
    (s.matchCarrier (s.slot s.engine.pointer).desc.carrierId = .notPermitted →
      s.startPickup = (s.startFails .pickup .notPermitted).afterStart) :=
  ⟨fun unknown => by simp [State.startPickup, unknown], fun disabled => by simp [State.startPickup, disabled]⟩

theorem startPickup_found {i : Fin 8} (found : s.matchCarrier (s.slot s.engine.pointer).desc.carrierId = .found i) :
    s.startPickup = (if (s.carriers.get i).rights.pickupReturns then s.pickupFrom i
      else s.startFails .pickup .notPermitted).afterStart := by
  simp [State.startPickup, found]

/-- A PICKUP claims all it finds; without any it is COMPLETE at once. -/
theorem pickupFrom_eq (i : Fin 8) : s.pickupFrom i =
    (s.pickupClaims i).foldl (fun t c => t.claim c .carrier) (s.started
      [{ WindowRecord.fresh s.engine.pointer .pickup (if s.pickupClaims i = [] then some .done else none) with
        carrier := some i, outstanding := s.pickupClaims i, waiting := s.pickupClaims i
        claimed := (s.pickupClaims i).length }]) := by
  have outcome : (if (s.pickupClaims i).isEmpty then some Status.done else none) =
      if s.pickupClaims i = [] then some .done else none := by
    simp only [List.isEmpty_iff]
  rw [← outcome]
  rfl

theorem pickupStarts : Claims.PickupStarts := by
  intro s d blank fails
  refine ⟨startPickup_unmatched.1, startPickup_unmatched.2, fun i found => ?_⟩
  have starts := startPickup_found found
  refine ⟨fun noRight => ?_, fun right => ?_, mem_pickupClaims i, selected_ascending _⟩
  · rw [starts, noRight]
    rfl
  · exact starts.trans (congrArg State.afterStart ((if_pos right).trans (pickupFrom_eq i)))

/-! ### The first record that a test meets -/

theorem updFirst_split {α : Type} {p : α → Bool} {f : α → α} {x : α} (hx : p x = true) (younger : List α) :
    ∀ older : List α, (∀ y ∈ older, p y = false) → updFirst p f (older ++ x :: younger) = older ++ f x :: younger
  | [], _ => if_pos hx
  | y :: older, h => by
    have other : p y = false := h y List.mem_cons_self
    rw [List.cons_append, updFirst, other,
      updFirst_split hx younger older fun z hz => h z (List.mem_cons_of_mem _ hz)]
    rfl

theorem updFirst_none {α : Type} {p : α → Bool} {f : α → α} :
    ∀ l : List α, (∀ y ∈ l, p y = false) → updFirst p f l = l
  | [], _ => rfl
  | y :: l, h => by
    have other : p y = false := h y List.mem_cons_self
    rw [updFirst, other, updFirst_none l fun z hz => h z (List.mem_cons_of_mem _ hz)]
    rfl

/-! ### Feeding (R77, R84) -/

theorem feedOne_none (h : s.releaseRoom 1 = false ∨ s.feedable = none) : s.feedOne = s := by
  have nothing : s.feedNow = none := by
    rcases h with full | nothing <;> simp [State.feedNow, *]
  simp [State.feedOne, nothing]

theorem feedOne_some (room : s.releaseRoom 1 = true) (h : s.feedable = some c) : s.feedOne =
    ((s.setWindow (updFirst (fun r => r.isStarted && r.waiting.contains c)
      (fun r => { r with waiting := r.waiting.filter (· != c) }) s.engine.window)).request
        (Entry.fresh c .custody .pickup .courier)).emit .feed := by
  have feeds : s.feedNow = some c := (if_pos room).trans h
  simp [State.feedOne, feeds]

/-- A pending compartment of a STARTED PICKUP that could be fed (R84). -/
def State.feedableOf (s : State) (r : WindowRecord) : Option Comp :=
  if r.isStarted && r.kind == .pickup then r.waiting.find? fun c => !(s.hasEntry c) else none

theorem feedableOf_none {r : WindowRecord} (h : s.feedableOf r = none) :
    r.outcome = none → r.kind = .pickup → ∀ x ∈ r.waiting, s.hasEntry x = true := by
  intro started kind x hx
  have pending : r.waiting.find? (fun c => !(s.hasEntry c)) = none := by
    simpa [State.feedableOf, WindowRecord.isStarted, started, kind] using h
  simpa using List.find?_eq_none.mp pending x hx

theorem feedableOf_some {r : WindowRecord} (h : s.feedableOf r = some c) :
    r.outcome = none ∧ r.kind = .pickup ∧ ∃ before after, r.waiting = before ++ c :: after ∧ s.hasEntry c = false ∧
      ∀ x ∈ before, s.hasEntry x = true := by
  unfold State.feedableOf at h
  split at h
  · rename_i pickup
    obtain ⟨free, before, after, split, held⟩ := List.find?_eq_some_iff_append.mp h
    simp only [WindowRecord.isStarted, Bool.and_eq_true, Option.isNone_iff_eq_none, beq_iff_eq] at pickup
    exact ⟨pickup.1, pickup.2, before, after, split, by simpa using free, fun x hx => by simpa using held x hx⟩
  · cases h

theorem feedingAsksForReleases : Claims.FeedingAsksForReleases := by
  intro s
  refine ⟨feedOne_none, fun c h => ?_⟩
  obtain ⟨older, r, younger, window, found, none⟩ := List.findSome?_eq_some_iff.mp
    (show s.engine.window.findSome? s.feedableOf = some c from h)
  obtain ⟨started, kind, before, after, split, free, held⟩ := feedableOf_some found
  refine ⟨older, r, younger, before, after, window, started, kind, split, free, held,
    fun q hq => feedableOf_none (none q hq), fun unlisted room => ?_⟩
  have takes : (r.isStarted && r.waiting.contains c) = true := by simp [WindowRecord.isStarted, started, split]
  have passes : ∀ q ∈ older, (q.isStarted && q.waiting.contains c) = false := by
    intro q hq
    refine Bool.eq_false_iff.mpr fun both => ?_
    simp only [WindowRecord.isStarted, Bool.and_eq_true, Option.isNone_iff_eq_none, List.contains_iff_mem] at both
    exact unlisted q hq both.1 both.2
  rw [feedOne_some room h, window,
    updFirst_split (p := fun r => r.isStarted && r.waiting.contains c) takes younger older passes]
  rfl

/-! ### Reports (R80, R82, R85, R90) -/

theorem takesDrop_own {n : RingSlot} {r : WindowRecord} (started : r.outcome = none) (kind : r.kind = .drop)
    (slot : r.slot = n) (comp : r.comp = some c) : WindowRecord.takesDrop n c r = true := by
  simp [WindowRecord.takesDrop, WindowRecord.isStarted, started, kind, slot, comp]

theorem takesClaim_recall {r : WindowRecord} (started : r.outcome = none) (kind : r.kind = .recall)
    (comp : r.comp = some c) : WindowRecord.takesClaim c r = true := by
  simp [WindowRecord.takesClaim, WindowRecord.isStarted, started, kind, comp]

theorem takesClaim_pickup {r : WindowRecord} (started : r.outcome = none) (kind : r.kind = .pickup)
    (outstanding : c ∈ r.outstanding) : WindowRecord.takesClaim c r = true := by
  simp [WindowRecord.takesClaim, WindowRecord.isStarted, started, kind, outstanding]

theorem endClaim_recall {r : WindowRecord} (e : ClaimEnd) (kind : r.kind = .recall) :
    WindowRecord.endClaim c e r = { r with outcome := some e.status } := by
  simp [WindowRecord.endClaim, kind]

theorem endClaim_pickup {r : WindowRecord} (e : ClaimEnd) (kind : r.kind = .pickup) : WindowRecord.endClaim c e r =
    { r with
      outstanding := r.outstanding.filter (· != c), waiting := r.waiting.filter (· != c)
      retrieved := if e = .retrieved then r.retrieved + 1 else r.retrieved
      notOpened := if e = .notOpened ∨ e = .forced then r.notOpened + 1 else r.notOpened
      outcome := if r.outstanding.filter (· != c) = [] then some .done else none } := by
  simp only [WindowRecord.endClaim, kind, WindowRecord.countEnd, List.isEmpty_iff]

theorem reportsReachTheWindow : Claims.ReportsReachTheWindow := by
  intro s c older younger r window
  have claimed : ∀ e, (∀ q ∈ older, WindowRecord.takesClaim c q = false) → WindowRecord.takesClaim c r = true →
      (s.reportClaim c e).engine.window = older ++ WindowRecord.endClaim c e r :: younger := by
    intro e others takes
    show updFirst _ _ s.engine.window = _
    rw [window, updFirst_split takes younger older others]
  refine ⟨fun n st m others started kind slot comp => ?_, fun e others started => ⟨fun kind comp => ?_,
    fun kind outstanding => ?_⟩, fun n st m none => ?_, fun e none => ?_⟩
  · show updFirst _ _ s.engine.window = _
    rw [window, updFirst_split (takesDrop_own started kind slot comp) younger older others]
  · rw [claimed e others (takesClaim_recall started kind comp), endClaim_recall e kind]
  · rw [claimed e others (takesClaim_pickup started kind outstanding), endClaim_pickup e kind]
  · exact congrArg (fun w => { s.engine with window := w }) (updFirst_none _ none)
  · exact congrArg (fun w => { s.engine with window := w }) (updFirst_none _ none)

/-- Settles O48, part by part: how a group is read and started, what it commits, RECALL and PICKUP, feeding and the
reports. -/
theorem engineWork : Obligations.EngineWork :=
  ⟨groupIsReadForward, engineLooksAtADrop, engineLooksAtARecallOrPickup, dropGroupStarts, groupChecks, groupIsCommitted,
    drawnCodeIsFree, recallStarts, pickupStarts, feedingAsksForReleases, reportsReachTheWindow⟩

end Sys2Proof.Machine
end

section
/-! SUPPORT. How a step ends: no consequence waits after any command, and the work list is worked from its front. -/

namespace Sys2Proof.Machine

variable {s t : State}

/-! ### Frames, events and starts -/

/-- A request begins with nothing noted and ends its step when its block takes it (R202, R203). -/
theorem serveLate_settled {hd : Head} {code : Byte} {carried : Role → Bool} {n : Nat} {late : State → List Field}
    {body : State → State × Answer} (h : s.Settled) : (s.serveLate hd code carried n late body).Settled := by
  have taken : (s.begin.frameTaken hd.port).Settled := ⟨rfl, rfl⟩
  unfold State.serveLate
  dsimp only
  split
  · exact h
  · split
    · exact taken
    · split
      · exact taken
      · split
        · exact taken
        · exact ⟨rfl, rfl⟩

theorem event_settled {f : State → State} (h : s.Settled) : (s.event f).Settled := by
  unfold State.event
  split
  · exact complete_settled _
  · exact h

theorem portReset_settled (hd : Head) (x : Sense) (h : s.Settled) : (s.portReset hd x).Settled := by
  have taken : (s.begin.frameTaken hd.port).Settled := ⟨rfl, rfl⟩
  unfold State.portReset
  dsimp only
  split
  · exact h
  · split
    · exact taken
    · split
      · exact taken
      · exact ⟨rfl, rfl⟩

/-- A start clears what the mains domain had noted, whatever becomes of the backup (R192, R198). -/
theorem start_settled (x : Straps) : (s.start x).Settled := by
  unfold State.start
  dsimp only
  split
  · exact ⟨rfl, rfl⟩
  · exact ⟨rfl, rfl⟩

theorem tryStart_settled (x : Straps) (h : s.Settled) : (s.tryStart x).Settled := by
  unfold State.tryStart
  split
  · exact start_settled x
  · exact h

theorem tryStop_settled (h : s.Settled) : s.tryStop.Settled := by
  unfold State.tryStop
  split
  · exact ⟨rfl, rfl⟩
  · exact h

theorem custodyTicks_settled (h : s.Settled) : s.custodyTicks.Settled := by
  unfold State.custodyTicks
  dsimp only
  split
  · split
    · exact complete_settled _
    · exact h
  · exact h

theorem tick_settled (h : s.Settled) : s.tick.Settled := by
  unfold State.tick
  dsimp only
  split
  · exact h
  · exact h

/-! ### Every command -/

/-- No consequence waits after a command: a request and an event end their step, and the other commands note nothing. -/
theorem exec_settled (c : Instr) (h : s.Settled) : ∃ t, exec c s = .next t ∧ t.Settled := by
  cases c with
  | portReset hd x => exact ⟨_, rfl, portReset_settled hd x h⟩
  | frameDiscarded p | frameGapTimeout p =>
    refine ⟨_, rfl, ?_⟩
    unfold State.discardFrame
    split
    · exact h
    · exact h
  | responseSent p =>
    refine ⟨_, rfl, ?_⟩
    split
    · exact h
    · exact h
  | armingEnd | pulseGood | pulseOpenCoil | pulseShort | testPulseEnd | runWindowEnd | recoveringEnd | svcKeyOn
  | svcKeyOff | chargeExpiry | lockoutEnd | sweepStart | sweepColumnStep | openWindowEnd | ajarTimerEnd =>
    exact ⟨_, rfl, event_settled h⟩
  | pfailAssert | retentionLoss => exact ⟨_, rfl, h⟩
  | pfailNegate x =>
    refine ⟨_, rfl, ?_⟩
    unfold State.pfailNegated
    split
    · exact event_settled h
    · exact tryStart_settled x h
  | mainsFall | resetAssert => exact ⟨_, rfl, tryStop_settled h⟩
  | mainsReturn x =>
    refine ⟨_, rfl, ?_⟩
    unfold State.mainsReturns
    split
    · exact h
    · exact tryStart_settled x h
  | resetRelease x =>
    refine ⟨_, rfl, ?_⟩
    unfold State.resetReleased
    split
    · exact tryStart_settled x h
    · exact h
  | custodyTick => exact ⟨_, rfl, custodyTicks_settled h⟩
  | _ => exact ⟨_, rfl, serveLate_settled h⟩

/-- Whatever waits, the command or the cycle of a step leaves no consequence (log 10). -/
theorem step_settled : Claims.StepsLeaveNoConsequence := by
  intro s t h ht
  unfold step at ht
  split at ht
  · cases ht
    exact tick_settled h
  · rename_i c rest _
    have waiting : State.Settled { s with pending := rest } := h
    obtain ⟨u, hu, settled⟩ := exec_settled c waiting
    cases ht.symm.trans hu
    exact settled

/-! ### The work list (log 10) -/

theorem settle_nil (n : Nat) (h : s.signals = []) : State.settle (n + 1) s = s := by
  unfold State.settle
  rw [h]

theorem settle_cons {g : Signal} {rest : List Signal} (n : Nat) (h : s.signals = g :: rest) :
    State.settle (n + 1) s = State.settle n { State.work { s with signals := [] } g with
      signals := (State.work { s with signals := [] } g).signals ++ rest } := by
  rw [State.settle, h]

theorem consequencesAreWorked : Claims.ConsequencesAreWorked := by
  intro s
  refine ⟨?_, fun n => settle_nil n, fun n g rest => settle_cons n, rfl, rfl, fun col => ⟨rfl, rfl⟩⟩
  unfold State.complete settleFuel
  rfl

/-- Settles O4, from the end of each command's step and the equations of the work list. -/
theorem stepsLeaveNoConsequence : Obligations.StepsLeaveNoConsequence :=
  ⟨step_settled, consequencesAreWorked⟩

end Sys2Proof.Machine
end

section
/-! SUPPORT. The courier's requests on the ring, and those that run the engine. -/

namespace Sys2Proof.Machine

variable {s t : State} {hd : Head} {code : Byte} {n : Nat} {i : RingSlot} {body : State → State × Answer}

/-! ### The answers and the refusals (R71, R91) -/

/-- A courier request that is taken is answered with the engine's state at the end of its step. -/
theorem serveCourier_done {fields : List Field} (hp : s.FramePasses hd .courier n)
    (hb : body (s.frameTaken hd.port) = (t, done fields)) :
    s.serveCourier hd code n body =
      t.complete.respond hd code (done (fields ++ [.u8 t.complete.engine.state.ctorIdx])) :=
  serveCourier_completes hp hb

/-- A courier request whose change has no consequence. -/
theorem serveCourier_writes {fields : List Field} (hp : s.FramePasses hd .courier n) (ht : t.Settled)
    (hb : body (s.frameTaken hd.port) = (t.frameTaken hd.port, done fields)) :
    s.serveCourier hd code n body = t.answeredDone hd code (fields ++ [.u8 t.engine.state.ctorIdx]) := by
  rw [serveCourier_done hp hb, complete_settled_id (s := t.frameTaken hd.port) ht]
  rfl

/-- A courier request that is refused carries no engine state (log 49). -/
theorem serveCourier_refuses {r : Reason} (hp : s.FramePasses hd .courier n)
    (hb : body (s.frameTaken hd.port) = (s.frameTaken hd.port).refuses r) :
    s.serveCourier hd code n body = s.refusedWith hd code r [] :=
  serveLate_refuses hp rfl hp.1 hb

/-! ### Slots (R66, R68, R69) -/

theorem withSlot_above (h : 31 < n) (f : RingSlot → State × Answer) : s.withSlot n f = s.refuses .format := by
  have none : ringSlotOf n = none := dif_neg (by omega)
  simp [State.withSlot, none]

theorem engineOwns_iff : s.engineOwns i = true ↔ (s.slot i).owner = .engine := beq_iff_eq

theorem engineOwns_false_iff : s.engineOwns i = false ↔ (s.slot i).owner = .courier := by
  unfold State.engineOwns
  cases (s.slot i).owner <;> decide

theorem putSlot_slot_other (i j : RingSlot) (x : Slot) (h : j ≠ i) : (s.putSlot i x).slot j = s.slot j :=
  put_get_other _ _ _ _ h

theorem slotWrite_described {f : SlotFields} {d : Descriptor} (h : SlotFields.descriptor f = some d) :
    s.slotWrite i f = s.check (!(s.engineOwns i)) .owned
      (s.putSlot i { owner := .courier, desc := d, back := WriteBack.blank }, done []) := by
  simp [State.slotWrite, h]

theorem slotWrite_undescribed {f : SlotFields} (h : SlotFields.descriptor f = none) :
    s.slotWrite i f = s.refuses .format := by
  simp [State.slotWrite, h]

/-- Settles O18, from the descriptor that the fields give and the owner of the slot. -/
theorem slotWriteAndSlotRead : Obligations.SlotWriteAndSlotRead := by
  intro h i f s
  refine ⟨fun frame => ?_, fun frame => ⟨?_, fun n above => ?_⟩⟩
  · have named : (s.frameTaken h.port).withSlot i.val ((s.frameTaken h.port).slotWrite · f) =
        (s.frameTaken h.port).slotWrite i f := withSlot_val ..
    refine ⟨fun d hd own => congrArg _ (serveCourier_writes (fields := [])
      (t := s.putSlot i { owner := .courier, desc := d, back := WriteBack.blank }) frame frame.1 ?_),
      fun d hd own => congrArg _ (serveCourier_refuses frame ?_),
      fun none => congrArg _ (serveCourier_refuses frame (named.trans (slotWrite_undescribed none))),
      fun n above => congrArg _ (serveCourier_refuses frame (withSlot_above above _))⟩
    · exact named.trans ((slotWrite_described hd).trans
        (check_passes _ _ (congrArg not (engineOwns_false_iff (s := s).mpr own))))
    · exact named.trans ((slotWrite_described hd).trans
        (check_fails _ _ (congrArg not (engineOwns_iff (s := s).mpr own))))
  · exact congrArg _ (serveCourier_writes (t := s) (fields := [.slot i (s.slot i) (s.progressOf i)]) frame frame.1
      (withSlot_val ..))
  · exact congrArg _ (serveCourier_refuses frame (withSlot_above above _))

/-! ### Hand Over (R70) -/

theorem handSlots_frameTaken (p : Fin 4) : ∀ (l : List RingSlot) (s : State),
    l.foldl State.handSlot (s.frameTaken p) = (l.foldl State.handSlot s).frameTaken p
  | [], _ => rfl
  | i :: l, s => handSlots_frameTaken p l (s.handSlot i)

theorem handSlot_slot_same (i : RingSlot) : (s.handSlot i).slot i = { s.slot i with owner := .engine } :=
  putSlot_slot_same ..

theorem handSlot_slot_other (i j : RingSlot) (h : j ≠ i) : (s.handSlot i).slot j = s.slot j :=
  putSlot_slot_other _ _ _ h

theorem handSlots_slot_other {l : List RingSlot} {j : RingSlot} (out : j ∉ l) :
    (l.foldl State.handSlot s).slot j = s.slot j := by
  induction l generalizing s with
  | nil => rfl
  | cons i l ih =>
    rw [List.foldl_cons, ih (List.not_mem_of_not_mem_cons out),
      handSlot_slot_other i j (List.ne_of_not_mem_cons out)]

/-- A slot that the run names twice is the engine's already. -/
theorem handSlots_slot_same {l : List RingSlot} {j : RingSlot} (mem : j ∈ l) :
    (l.foldl State.handSlot s).slot j = { s.slot j with owner := .engine } := by
  induction l generalizing s with
  | nil => exact absurd mem List.not_mem_nil
  | cons i l ih =>
    rw [List.foldl_cons]
    by_cases later : j ∈ l
    · rw [ih later]
      by_cases same : j = i
      · rw [same, handSlot_slot_same]
      · rw [handSlot_slot_other i j same]
    · have same : j = i := (List.mem_cons.mp mem).resolve_right later
      rw [handSlots_slot_other later, same, handSlot_slot_same]

/-- A Hand Over of a count that a ring can hold. -/
theorem handOver_counted {count : Nat} (low : 1 ≤ count) (high : count ≤ 32) : s.handOver i count =
    s.check (!((slotRun i count).any s.engineOwns)) .owned
      (((slotRun i count).foldl State.handSlot s).emit .look, done []) :=
  check_passes _ _ (decide_eq_true ⟨low, high⟩)

theorem handOver_miscounted {count : Nat} (h : count = 0 ∨ 32 < count) : s.handOver i count = s.refuses .format :=
  check_fails _ _ (decide_eq_false (by omega))

/-- Settles O19, from what each slot of the run becomes and the owners that the run finds. -/
theorem handOverGivesSlotsToTheEngine : Obligations.HandOverGivesSlotsToTheEngine := by
  intro h i count s frame low high u
  have body : (s.frameTaken h.port).withSlot i.val ((s.frameTaken h.port).handOver · count) =
      (s.frameTaken h.port).check (!((slotRun i count).any s.engineOwns)) .owned
        ((u.frameTaken h.port).emit .look, done []) := by
    rw [withSlot_val, handOver_counted low high, handSlots_frameTaken]
    rfl
  refine ⟨fun free => ⟨congrArg _ (serveCourier_done (fields := []) frame (body.trans (check_passes _ _ ?_))),
    fun j mem => handSlots_slot_same mem, fun j out => handSlots_slot_other out⟩,
    fun ⟨j, mem, own⟩ => congrArg _ (serveCourier_refuses frame (body.trans (check_fails _ _ ?_))),
    fun n m bad => congrArg _ (serveCourier_refuses frame ?_)⟩
  · rw [Bool.not_eq_true', List.any_eq_false]
    exact fun j mem => Bool.eq_false_iff.mp (engineOwns_false_iff.mpr (free j mem))
  · exact congrArg not (List.any_eq_true.mpr ⟨j, mem, engineOwns_iff.mpr own⟩)
  · by_cases above : 31 < n
    · exact withSlot_above above _
    · have named : n = (⟨n, Nat.lt_of_not_le above⟩ : RingSlot).val := rfl
      rw [named, withSlot_val]
      exact handOver_miscounted (bad.resolve_left above)

/-! ### Start, Resume and the look (R72, R73, R75) -/

theorem engineStart_served (service : s.InService) (i : RingSlot) : s.engineStart i =
    s.check (s.engine.state == .stopped) .notReady (((s.setPointer i).setEngine .running).emit .look, done []) :=
  guarded_passes service

theorem startRunsTheEngine : Claims.StartRunsTheEngine := by
  intro h i s frame service
  have body : (s.frameTaken h.port).withSlot i.val (s.frameTaken h.port).engineStart =
      (s.frameTaken h.port).check (s.engine.state == .stopped) .notReady
        (((((s.frameTaken h.port).setPointer i).setEngine .running).emit .look), done []) :=
    (withSlot_val ..).trans (engineStart_served (s := s.frameTaken h.port) service i)
  refine ⟨fun stopped => congrArg _ (serveCourier_done (fields := []) frame
      (body.trans (check_passes _ _ (beq_iff_eq.mpr stopped)))),
    fun other => congrArg _ (serveCourier_refuses frame
      (body.trans (check_fails _ _ (beq_eq_false_iff_ne.mpr other)))),
    fun n above => congrArg _ (serveCourier_refuses frame (withSlot_above above _))⟩

/-- Resume of a part that has left RESTORING, by the engine's state. -/
theorem engineResume_rows (ready : s.power.restoring = false) :
    (s.engine.state = .suspended → s.engineResume = ((s.setEngine .running).emit .look, done [])) ∧
    (s.engine.state = .running → s.engineResume = (s, done [])) ∧
    (s.engine.state = .stopped ∨ s.engine.state = .stopping → s.engineResume = s.refuses .notReady) := by
  unfold State.engineResume State.unlessRestoring
  rw [ready]
  refine ⟨fun suspended => ?_, fun running => ?_, fun other => ?_⟩
  · rw [suspended]
    rfl
  · rw [running]
    rfl
  · rcases other with stopped | stopping
    · rw [stopped]
      rfl
    · rw [stopping]
      rfl

theorem resumeByEngineState : Claims.ResumeByEngineState := by
  intro h s frame ready
  obtain ⟨suspended, running, other⟩ := engineResume_rows (s := s.frameTaken h.port) ready
  refine ⟨fun st => congrArg _ (serveCourier_done (fields := []) frame (suspended st)), fun st => ?_,
    fun st => congrArg _ (serveCourier_refuses frame (other st))⟩
  rw [← st]
  exact congrArg _ (serveCourier_writes (t := s) (fields := []) frame frame.1 (running st))

theorem engineSuspendsAtACourierSlot : Claims.EngineSuspendsAtACourierSlot := by
  refine fun s => ⟨fun running own => ?_, fun other => if_pos other⟩
  unfold State.lookNow
  dsimp only
  rw [if_neg (not_not.mpr running), engineOwns_false_iff.mpr own]
  rfl

/-- Settles O47, from the requests that run the engine and its look at a courier's slot. -/
theorem engineStarts : Obligations.EngineStarts :=
  ⟨startRunsTheEngine, resumeByEngineState, engineSuspendsAtACourierSlot⟩

end Sys2Proof.Machine
end

section
/-! SUPPORT. What the console's Port Reset does to the charges: each OPEN one is voided, and no other changes but with a
dropped reservation whose consignment goes. -/

namespace Sys2Proof.Machine

variable {s t u : State} {i j : ChargeSlot}

/-! ### Charges that stay or are voided -/

/-- Each charge is as it was, or it was live and is VOID with its timer stopped (R127). -/
def VoidsLive (s t : State) : Prop :=
  ∀ j, t.charge j = s.charge j ∨
    (s.charge j).state.isLive = true ∧ (t.charge j).state = .void ∧ (t.charge j).expiry = 0

theorem VoidsLive.of_charges (h : t.charges = s.charges) : VoidsLive s t :=
  fun j => .inl (congrArg (fun k : ChargeTable => k.recs.get j) h)

theorem VoidsLive.trans (a : VoidsLive s t) (b : VoidsLive t u) : VoidsLive s u := by
  intro j
  rcases b j with same | ⟨live, void⟩
  · rw [same]
    exact a j
  · rcases a j with same | ⟨_, ended, _⟩
    · exact .inr ⟨same ▸ live, void⟩
    · rw [ended] at live
      cases live

/-- A charge that is not OPEN does not become OPEN. -/
theorem VoidsLive.unopened (h : VoidsLive s t) (other : (s.charge j).state ≠ .opened) :
    (t.charge j).state ≠ .opened := by
  rcases h j with same | ⟨_, void, _⟩
  · rw [same]
    exact other
  · rw [void]
    decide

theorem endCharge_voidsLive (cause : Option EndCause) (m : Option Nat) (live : (s.charge i).state.isLive = true) :
    VoidsLive s (s.endCharge i .void cause m) := by
  intro j
  by_cases same : j = i
  · rw [same, endCharge_charge_same]
    exact .inr ⟨live, rfl, rfl⟩
  · exact .inl (endCharge_charge_other i j _ _ _ same)

/-! ### The consignment of a dropped reservation (R8, R19, R140) -/

theorem chargeNamed_charge {gen : Nat} {r : ChargeRecord} (h : s.chargeNamed i gen = some r) : s.charge i = r := by
  unfold State.chargeNamed at h
  dsimp only at h
  split at h
  · exact Option.some.inj h
  · cases h

/-- A charge that a consignment names in a state is in that state. -/
theorem openChargeIs_charge {k : Consignment} {st : ChargeState} (h : s.openChargeIs k st = true) :
    ∃ ref, k.openRef = some ref ∧ (s.charge ref.slot).state = st := by
  obtain ⟨ref, r, named, found, state⟩ := (openChargeIs_iff k st).mp h
  exact ⟨ref, named, by rw [chargeNamed_charge found, state]⟩

theorem voidRetired_voidsLive (k : Consignment) : VoidsLive s (s.voidRetired k) := by
  by_cases live : s.openChargeIs k .opened = true ∨ s.openChargeIs k .presented = true
  · have found : ∃ ref, k.openRef = some ref ∧ (s.charge ref.slot).state.isLive = true := by
      rcases live with opened | presented
      · obtain ⟨ref, named, state⟩ := openChargeIs_charge opened
        exact ⟨ref, named, (isLive_iff _).mpr (.inl state)⟩
      · obtain ⟨ref, named, state⟩ := openChargeIs_charge presented
        exact ⟨ref, named, (isLive_iff _).mpr (.inr state)⟩
    obtain ⟨ref, named, state⟩ := found
    rw [voidRetired_live named live]
    exact endCharge_voidsLive _ _ state
  · rw [not_or, Bool.not_eq_true, Bool.not_eq_true] at live
    rw [voidRetired_other live.1 live.2]
    exact .of_charges rfl

theorem leaveRecord_voidsLive (n : RecordNo) (c : Comp) : VoidsLive s (s.leaveRecord n c) := by
  unfold State.leaveRecord
  split
  · exact .of_charges rfl
  · rename_i k _
    dsimp only
    split
    · exact VoidsLive.trans (t := s.lowerLive k.carrier) (.of_charges rfl) (voidRetired_voidsLive k)
    · exact .of_charges rfl

theorem removeHolding_voidsLive (c : Comp) (st : CustodyState) (cause : Option OosCause) :
    VoidsLive s (s.removeHolding c st cause) := by
  unfold State.removeHolding
  split
  · exact .of_charges rfl
  · exact VoidsLive.trans (.of_charges (by simp)) (leaveRecord_voidsLive _ c)

theorem dropReserved_voidsLive (c : Comp) : VoidsLive s (s.dropReserved c) := by
  unfold State.dropReserved
  split
  · rename_i x _ _
    refine (removeHolding_voidsLive c .free none).trans (.of_charges ?_)
    cases x.origin with
    | slot n => rfl
    | console => rfl
  · exact .of_charges rfl

/-! ### Voiding every OPEN charge (R142) -/

theorem voidCharge_voidsLive (cause : EndCause) (opened : (s.charge i).state = .opened) :
    VoidsLive s (s.voidCharge i cause).1 ∧ ((s.voidCharge i cause).1.charge i).state ≠ .opened := by
  have ended := endCharge_voidsLive (some cause) none ((isLive_iff _).mpr (.inl opened))
  have own : ((s.endCharge i .void (some cause) none).charge i).state ≠ .opened := by
    rw [endCharge_charge_same]
    simp
  cases waits : (s.charge i).record.bind s.waitingReturn with
  | some c =>
    rw [voidCharge_some cause waits]
    exact ⟨ended.trans (dropReserved_voidsLive c), (dropReserved_voidsLive c).unopened own⟩
  | none =>
    rw [voidCharge_none cause waits]
    exact ⟨ended, own⟩

theorem voidAll_opened (l : List ChargeSlot) (h : (s.charge i).state = .opened) :
    (State.voidAll (i :: l) s).1 = (State.voidAll l (s.voidCharge i .portReset).1).1 := by
  rw [State.voidAll, if_pos h]

theorem voidAll_other (l : List ChargeSlot) (h : (s.charge i).state ≠ .opened) :
    State.voidAll (i :: l) s = State.voidAll l s := by
  rw [State.voidAll, if_neg h]

theorem voidAll_voidsLive (l : List ChargeSlot) :
    VoidsLive s (State.voidAll l s).1 ∧ ∀ i ∈ l, ((State.voidAll l s).1.charge i).state ≠ .opened := by
  induction l generalizing s with
  | nil => exact ⟨.of_charges rfl, by simp⟩
  | cons i l ih =>
    by_cases opened : (s.charge i).state = .opened
    · rw [voidAll_opened l opened]
      obtain ⟨first, own⟩ := voidCharge_voidsLive .portReset opened
      obtain ⟨rest, ends⟩ := ih (s := (s.voidCharge i .portReset).1)
      exact ⟨first.trans rest, List.forall_mem_cons.mpr ⟨rest.unopened own, ends⟩⟩
    · rw [voidAll_other l opened]
      obtain ⟨rest, ends⟩ := ih (s := s)
      exact ⟨rest, List.forall_mem_cons.mpr ⟨rest.unopened opened, ends⟩⟩

/-! ### Where no reservation waits -/

/-- No reservation waits on a charge (R45). -/
def NoneWaits (s : State) : Prop := ∀ j, (s.charge j).record.bind s.waitingReturn = none

theorem NoneWaits.endCharge (h : NoneWaits s) (i : ChargeSlot) (st : ChargeState) (cause : Option EndCause)
    (m : Option Nat) : NoneWaits (s.endCharge i st cause m) := by
  intro j
  have record : ((s.endCharge i st cause m).charge j).record = (s.charge j).record := by
    by_cases same : j = i
    · rw [same, endCharge_charge_same]
    · rw [endCharge_charge_other i j _ _ _ same]
  rw [record, waitingReturn_endCharge]
  exact h j

theorem voidAll_charge_unopened (alone : NoneWaits s) (l : List ChargeSlot) (h : (s.charge j).state ≠ .opened) :
    (State.voidAll l s).1.charge j = s.charge j := by
  induction l generalizing s with
  | nil => rfl
  | cons i l ih =>
    by_cases opened : (s.charge i).state = .opened
    · have still := alone.endCharge i .void (some .portReset) none
      have kept := endCharge_charge_other (s := s) i j .void (some .portReset) none fun same => h (same ▸ opened)
      rw [voidAll_opened l opened, voidCharge_none _ (alone i), ih still (kept ▸ h), kept]
    · rw [voidAll_other l opened, ih alone h]

theorem voidAll_cause (alone : NoneWaits s) {l : List ChargeSlot} (mem : j ∈ l) (h : (s.charge j).state = .opened) :
    ((State.voidAll l s).1.charge j).cause = some .portReset := by
  induction l generalizing s with
  | nil => exact absurd mem List.not_mem_nil
  | cons i l ih =>
    by_cases opened : (s.charge i).state = .opened
    · have still := alone.endCharge i .void (some .portReset) none
      rw [voidAll_opened l opened, voidCharge_none _ (alone i)]
      by_cases same : j = i
      · have own := endCharge_charge_same (s := s) i .void (some .portReset) none
        rw [same, voidAll_charge_unopened still l (by simp [own]), own]
      · have later : j ∈ l := (List.mem_cons.mp mem).resolve_left same
        have kept := endCharge_charge_other (s := s) i j .void (some .portReset) none same
        exact ih still later (kept ▸ h)
    · have later : j ∈ l := (List.mem_cons.mp mem).resolve_left fun same => opened (same ▸ h)
      rw [voidAll_other l opened]
      exact ih alone later h

theorem consoleResetVoidsOpenCharges : Claims.ConsoleResetVoidsOpenCharges := by
  intro s i t
  obtain ⟨voids, ends⟩ := voidAll_voidsLive (s := s) (List.finRange 8)
  refine ⟨fun opened => ?_, fun _ => (voids i).imp_right fun ⟨_, void, _⟩ => void,
    fun alone => ⟨voidAll_cause alone (List.mem_finRange i), voidAll_charge_unopened alone _⟩⟩
  rcases voids i with same | ⟨_, void⟩
  · exact absurd (same ▸ opened) (ends i (List.mem_finRange i))
  · exact void

end Sys2Proof.Machine
end

section
/-! SUPPORT. Port Reset by the role of its port, Stop, and the retirement of descriptors. -/

namespace Sys2Proof.Machine

variable {s t : State} {hd : Head} {r : WindowRecord} {rest : List WindowRecord} {c : Comp}

/-! ### Port Reset (R202, R207) -/

theorem put_put {α : Type} {n : Nat} (v : Vector α n) (i : Fin n) (x y : α) : put (put v i x) i y = put v i y := by
  simp [put]

theorem onPort_onPort (p : Fin 4) (f g : PortUnit → PortUnit) :
    (s.onPort p f).onPort p g = s.onPort p fun u => g (f u) := by
  have unit : (s.onPort p f).port p = f (s.port p) := onPort_port_same ..
  unfold State.onPort at unit ⊢
  rw [unit]
  exact congrArg (fun v => ({ s with ports := v } : State)) (put_put ..)

/-- The state in which a Port Reset's role does its work: the frame is taken, the sense lines are read, and the unit is
reset (R207). -/
def State.portCleared (s : State) (p : Fin 4) (x : Sense) : State :=
  (s.latch x).onPort p fun u => PortUnit.reset { u with receiving := [] }

theorem frameTaken_portCleared (p : Fin 4) (x : Sense) :
    ((s.frameTaken p).latch x).onPort p PortUnit.reset = s.portCleared p x :=
  onPort_onPort (s := s.latch x) p (fun u => { u with receiving := [] }) PortUnit.reset

/-- A Port Reset that passes its checks: the role's work is done on the cleared port before the answer is sent. -/
theorem portReset_served (x : Sense) {role : Role} (running : s.Running) (port : (s.port hd.port).role = some role)
    (len : hd.len = 0) :
    let r := (s.portCleared hd.port x).resetRole (some role)
    exec (.portReset hd x) s =
      .next (r.1.complete.onPort hd.port fun u => u.send hd 0x02#8 (done r.2) false false) := by
  have taken : ((s.frameTaken hd.port).port hd.port).role = some role :=
    (congrArg PortUnit.role (onPort_port_same ..)).trans port
  show Host.Outcome.next (s.portReset hd x) = _
  unfold State.portReset
  simp only [begin_of_settled running.1, running.2, taken, len, frameTaken_portCleared]
  rfl

/-- Stop of an engine in RUNNING or SUSPENDED, which is what the courier's Port Reset is too (R74, R89). -/
theorem engineStop_runs (h : s.engine.state = .running ∨ s.engine.state = .suspended) :
    s.engineStop = (s.engine.window.foldl State.stopRecord (s.setEngine .stopping)).emit .retire := by
  unfold State.engineStop
  rcases h with running | suspended
  · rw [running]
  · rw [suspended]

theorem engineStop_idle (h : s.engine.state = .stopped ∨ s.engine.state = .stopping) : s.engineStop = s := by
  unfold State.engineStop
  rcases h with stopped | stopping
  · rw [stopped]
  · rw [stopping]

theorem portResetClearsItsPort : Claims.PortResetClearsItsPort := by
  intro h x r s running port len cleared answered v
  have served := portReset_served x running port len
  have quiet : cleared.complete = cleared := complete_settled_id running.1
  refine ⟨fun role => ?_, fun role => ?_, fun role active => ?_, fun role idle => ?_⟩
  · have alone : exec (.portReset h x) s = .next (answered cleared.complete []) := by
      rcases role with payment | operations
      · subst payment
        exact served
      · subst operations
        exact served
    rw [alone, quiet]
  · subst role
    exact served
  · subst role
    have stops : exec (.portReset h x) s = .next (answered cleared.engineStop.complete []) := served
    rw [stops, engineStop_runs (s := cleared) active]
  · subst role
    have stops : exec (.portReset h x) s = .next (answered cleared.engineStop.complete []) := served
    rw [stops, engineStop_idle (s := cleared) idle, quiet]

/-! ### Stop (R74, R88) -/

/-- What Stop does with a STARTED DROP record, by what the withdrawal finds (R148). -/
theorem stopRecord_drop (started : r.outcome = none) (kind : r.kind = .drop) (comp : r.comp = some c) :
    (s.withdrawalFinds c = .removed → s.stopRecord r = (s.withdraw c).dropReserved c) ∧
    (s.withdrawalFinds c ≠ .removed → s.stopRecord r = s) := by
  have drop : (r.isStarted && r.kind == .drop) = true := by simp [WindowRecord.isStarted, started, kind]
  unfold State.stopRecord
  rw [drop, comp]
  dsimp only
  cases s.withdrawalFinds c <;> simp

theorem stopRecord_other (h : r.outcome ≠ none ∨ r.kind ≠ .drop ∨ r.comp = none) : s.stopRecord r = s := by
  unfold State.stopRecord
  split
  · rename_i taken comp
    rw [Bool.and_eq_true, WindowRecord.isStarted, Option.isNone_iff_eq_none, beq_iff_eq] at taken
    rw [comp] at h
    simp [taken] at h
  · rfl

theorem stopRecord_rows (started : r.outcome = none) (kind : r.kind = .drop) (comp : r.comp = some c) :
    (∀ e, s.entryOf c = some e → e.inFlight = false → s.stopRecord r = (s.withdraw c).dropReserved c) ∧
    (∀ e, s.entryOf c = some e → e.inFlight = true → s.stopRecord r = s) ∧
    (s.entryOf c = none → s.stopRecord r = s) := by
  obtain ⟨removed, left⟩ := stopRecord_drop (s := s) started kind comp
  refine ⟨fun e entry queued => removed ?_, fun e entry flying => left ?_, fun none => left ?_⟩
  · simp [State.withdrawalFinds, entry, queued]
  · simp [State.withdrawalFinds, entry, flying]
  · simp [State.withdrawalFinds, none]

theorem stopWithdrawsQueuedDrops : Claims.StopWithdrawsQueuedDrops := by
  refine ⟨fun h x s frame => ?_, fun s r c => ⟨stopRecord_rows, stopRecord_other⟩⟩
  intro s0
  refine ⟨fun active => ?_, fun idle => ?_⟩
  · refine congrArg _ (serveCourier_done (fields := []) frame ?_)
    rw [engineStop_runs (s := s0) active]
    rfl
  · refine congrArg _ (serveCourier_writes (fields := []) (t := s.latch x) frame frame.1 ?_)
    rw [engineStop_idle (s := s0) idle]
    rfl

/-! ### The retirement of one descriptor (R86, R87) -/

/-- The engine after a descriptor's retirement, whether its notice is posted or not. -/
theorem retireOne_engine (st : Status) : (s.retireOne r rest st).engine =
    ((s.putSlot r.slot { s.slot r.slot with owner := .courier, back := r.back st }).setWindow rest).engine := by
  unfold State.retireOne
  dsimp only
  split
  · rfl
  · rfl

theorem slot_congr (h : t.engine = s.engine) (i : RingSlot) : t.slot i = s.slot i :=
  congrArg (fun e : Engine => e.ring.get i) h

theorem retireOne_slot_same (st : Status) : (s.retireOne r rest st).slot r.slot =
    { s.slot r.slot with owner := .courier, back := r.back st } :=
  (slot_congr (retireOne_engine st) _).trans (putSlot_slot_same ..)

theorem retireOne_slot_other (st : Status) {j : RingSlot} (h : j ≠ r.slot) :
    (s.retireOne r rest st).slot j = s.slot j :=
  (slot_congr (retireOne_engine st) _).trans (putSlot_slot_other _ _ _ h)

theorem retirementWritesBack : Claims.RetirementWritesBack := by
  intro s r rest st t
  refine ⟨congrArg Engine.window (retireOne_engine st), fun j => retireOne_slot_other st, retireOne_slot_same st,
    fun silent => ?_, fun notify => ?_⟩
  · show (s.retireOne r rest st).ports = _
    simp only [State.retireOne, silent]
    rfl
  · show (s.retireOne r rest st).ports = _
    simp only [State.retireOne, notify]
    rfl

/-! ### Retirement in order (R67, R75, R86, R88) -/

theorem retireAll_started (h : r.outcome = none) : State.retireAll (r :: rest) s = s := by
  rw [State.retireAll, h]

theorem retireAll_complete {st : Status} (h : r.outcome = some st) :
    State.retireAll (r :: rest) s = State.retireAll rest (s.retireOne r rest st) := by
  rw [State.retireAll, h]

/-- No descriptor's retirement changes the engine's state. -/
theorem retireAll_engineState : ∀ (l : List WindowRecord) (s : State),
    (State.retireAll l s).engine.state = s.engine.state
  | [], _ => rfl
  | r :: rest, s => by
    cases h : r.outcome with
    | none => rw [retireAll_started h]
    | some st =>
      rw [retireAll_complete h, retireAll_engineState rest, retireOne_engine]
      rfl

theorem enterStopped_slot (j : RingSlot) : s.enterStopped.slot j = { s.slot j with owner := .courier } :=
  Vector.getElem_map ..

/-- What follows retirement, by the engine's state. -/
theorem retireNow_rows : let t := State.retireAll s.engine.window s
    (s.engine.state = .stopping → s.retireNow = if t.engine.window.isEmpty then t.enterStopped else t) ∧
    (s.engine.state = .running →
      s.retireNow = if t.engine.window.length < s.engine.window.length then t.emit .look else t) ∧
    (s.engine.state = .stopped ∨ s.engine.state = .suspended → s.retireNow = t) := by
  intro t
  have state : t.engine.state = s.engine.state := retireAll_engineState ..
  have follows : s.retireNow = match t.engine.state with
      | .stopping => if t.engine.window.isEmpty then t.enterStopped else t
      | .running => if t.engine.window.length < s.engine.window.length then t.emit .look else t
      | .stopped | .suspended => t := rfl
  rw [follows, state]
  refine ⟨fun stopping => ?_, fun running => ?_, fun other => ?_⟩
  · rw [stopping]
  · rw [running]
  · rcases other with stopped | suspended
    · rw [stopped]
    · rw [suspended]

theorem retirementIsInOrder : Claims.RetirementIsInOrder := by
  intro s
  refine ⟨fun _ _ => retireAll_started, rfl, fun _ _ _ => retireAll_complete, ?_⟩
  intro t
  obtain ⟨inStopping, inRunning, otherwise⟩ := retireNow_rows (s := s)
  refine ⟨fun stopping empty => ?_, fun stopping left => ?_, fun running retired => ?_, fun running same => ?_,
    otherwise⟩
  · rw [inStopping stopping, if_pos (List.isEmpty_iff.mpr empty)]
    exact ⟨rfl, enterStopped_slot, rfl⟩
  · exact (inStopping stopping).trans (if_neg (List.isEmpty_iff.not.mpr left))
  · exact (inRunning running).trans (if_pos retired)
  · exact (inRunning running).trans (if_neg (Nat.not_lt.mpr same.ge))

/-- Settles O40, from Port Reset by role, the console's voiding of charges, Stop, and retirement from the oldest end of
the window. -/
theorem portResetAndStop : Obligations.PortResetAndStop :=
  ⟨portResetClearsItsPort, consoleResetVoidsOpenCharges, stopWithdrawsQueuedDrops, retirementWritesBack,
    retirementIsInOrder⟩

end Sys2Proof.Machine
end

section
/-! SUPPORT. The seven stages of a piece's dwell fee, one rule a stage (R98 to R103), and the three ends of the whole: a
unit length outside its set, a multiplier outside its set, and the fee that leaves stage 7. -/

namespace Sys2Proof.Machine

variable {t : ClassValues} {m td te d e u c base : Nat} {mode : RoundingMode}

/-! ### Division rounded up -/

theorem divUp_le_iff (hu : 0 < u) (n : Nat) : divUp e u ≤ n ↔ e ≤ n * u := by
  rw [mul_comm, ← ceilDiv_le_iff_le_mul hu, Nat.ceilDiv_eq_add_pred_div, divUp]

/-- The units together cover the amount. -/
theorem le_divUp_mul (hu : 0 < u) : e ≤ divUp e u * u := (divUp_le_iff hu _).mp le_rfl

/-- One unit fewer does not reach the amount: each unit counted has been started. -/
theorem divUp_sub_one_mul_lt (hu : 0 < u) (he : e ≠ 0) : (divUp e u - 1) * u < e := by
  by_contra reaches
  have fewer : divUp e u ≤ divUp e u - 1 := (divUp_le_iff hu _).mpr (not_lt.mp reaches)
  have none_started : divUp e u ≤ 0 := by omega
  rw [divUp_le_iff hu, Nat.zero_mul] at none_started
  exact he (Nat.le_zero.mp none_started)

theorem divUp_zero (hu : 0 < u) : divUp 0 u = 0 :=
  Nat.le_zero.mp ((divUp_le_iff hu 0).mpr (Nat.zero_le _))

/-! ### The dwell (R98) and the valid sets (R92, R93) -/

theorem stageDwell_of_le (h : td ≤ te) : stageDwell td te = (te - td, false) := if_pos h

theorem stageDwell_of_lt (h : te < td) : stageDwell td te = (0, true) := if_neg (Nat.not_le.mpr h)

theorem unitValid_iff : unitValid u = true ↔ u = 15 ∨ u = 30 ∨ u = 60 := by
  simp [unitValid, or_assoc]

theorem unitValid_eq_false_iff : unitValid u = false ↔ u ≠ 15 ∧ u ≠ 30 ∧ u ≠ 60 := by
  rw [← Bool.not_eq_true, unitValid_iff, not_or, not_or]

theorem multValid_iff : multValid m = true ↔ 8 ≤ m ∧ m ≤ 31 := decide_eq_true_iff

theorem multValid_eq_false_iff : multValid m = false ↔ m < 8 ∨ 31 < m := by
  rw [← Bool.not_eq_true, multValid_iff, not_and_or, Nat.not_le, Nat.not_le]

/-! ### The daily cap (R101) -/

theorem startedDays_of_le (h : d ≤ 1440) : startedDays d = 1 :=
  max_eq_left ((divUp_le_iff (by decide) 1).mpr h)

theorem startedDays_of_lt (h : 1440 < d) : startedDays d = divUp d 1440 := by
  refine max_eq_right (Nat.pos_of_ne_zero fun no_day => ?_)
  have covered : d ≤ divUp d 1440 * 1440 := le_divUp_mul (by decide)
  omega

theorem stageCap_zero : stageCap base 0 d = (base, false) := if_pos rfl

theorem stageCap_of_lt (hc : c ≠ 0) (h : base < min (c * startedDays d) 999999) :
    stageCap base c d = (base, false) := (if_neg hc).trans (if_pos h)

/-- The cap is taken on a tie too. -/
theorem stageCap_of_le (hc : c ≠ 0) (h : min (c * startedDays d) 999999 ≤ base) :
    stageCap base c d = (min (c * startedDays d) 999999, true) := (if_neg hc).trans (if_neg (Nat.not_lt.mpr h))

/-! ### The rounding (R103) -/

theorem roundsUp_nearestEven_iff {q rem : Nat} :
    roundsUp .nearestEven q rem = true ↔ (rem = 4 ∧ q % 2 = 1) ∨ 4 < rem := by
  simp [roundsUp, or_comm]

theorem roundsUp_up_iff {q rem : Nat} : roundsUp .up q rem = true ↔ rem ≠ 0 :=
  decide_eq_true_iff.trans Nat.pos_iff_ne_zero

theorem stageScale_eq (mode : RoundingMode) (capped m : Nat) : stageScale mode capped m =
    (capped * m / 8 + (if roundsUp mode (capped * m / 8) (capped * m % 8) then 1 else 0),
      decide (capped * m % 8 ≠ 0)) := by
  rw [add_ite]
  rfl

/-! ### The fee of a piece -/

/-- What stages 2 to 5 make of a dwell: the base, and whether SAT is raised (R99, R100). -/
def stageBase (t : ClassValues) (dwell : Nat) : Nat × Bool :=
  saturate (exactBase (divUp (stageChargeable dwell t.f) t.u) t)

/-- What stages 2 to 6 make of a dwell: the capped base, and whether CAPPED is raised (R99 to R101). -/
def stageCapped (t : ClassValues) (dwell : Nat) : Nat × Bool := stageCap (stageBase t dwell).1 t.c dwell

/-- The end at stage 3 (R99). -/
theorem pieceFee_of_unit (hu : unitValid t.u = false) : pieceFee t m mode td te =
    (0, { CondSet.none with clock := (stageDwell td te).2, tariff := true }) := by
  rw [pieceFee, if_pos hu]
  simp [CondSet.union, condZip, CondSet.ofClock, CondSet.ofTariff, CondSet.none]

/-- The end at stage 7 without a fee (R102). -/
theorem pieceFee_of_mult (hu : unitValid t.u = true) (hm : multValid m = false) : pieceFee t m mode td te =
    (0, { CondSet.none with
      clock := (stageDwell td te).2, tariff := true, sat := (stageBase t (stageDwell td te).1).2
      capped := (stageCapped t (stageDwell td te).1).2 }) := by
  simp [pieceFee, hu, hm, stageBase, stageCapped, CondSet.union, condZip, CondSet.ofClock,
    CondSet.ofTariff, CondSet.ofSat, CondSet.ofCapped, CondSet.none]

/-- The fee that leaves stage 7, and the conditions of all the stages (R102, R103, R112). -/
theorem pieceFee_of_valid (hu : unitValid t.u = true) (hm : multValid m = true) :
    let capped := stageCapped t (stageDwell td te).1
    let scaled := stageScale mode capped.1 m
    pieceFee t m mode td te = (min scaled.1 999999,
      { clock := (stageDwell td te).2, tariff := false
        sat := (stageBase t (stageDwell td te).1).2 || decide (999999 < scaled.1), capped := capped.2
        round := scaled.2, overpaid := false }) := by
  simp [pieceFee, hu, hm, saturate_eq, stageBase, stageCapped, CondSet.union, condZip,
    CondSet.ofClock, CondSet.ofSat, CondSet.ofCapped, CondSet.ofRound, CondSet.none]

/-- CLOCK is raised at stage 1 and nowhere else. -/
theorem pieceFee_clock : (pieceFee t m mode td te).2.clock = (stageDwell td te).2 := by
  cases hu : unitValid t.u with
  | false => rw [pieceFee_of_unit hu]
  | true =>
    cases hm : multValid m with
    | false => rw [pieceFee_of_mult hu hm]
    | true => rw [pieceFee_of_valid hu hm]

/-- The minutes enter the fee through the dwell alone. -/
theorem pieceFee_fee_of_dwell {td' te' : Nat} (h : (stageDwell td te).1 = (stageDwell td' te').1) :
    (pieceFee t m mode td te).1 = (pieceFee t m mode td' te').1 := by
  cases hu : unitValid t.u with
  | false => rw [pieceFee_of_unit hu, pieceFee_of_unit hu]
  | true =>
    cases hm : multValid m with
    | false => rw [pieceFee_of_mult hu hm, pieceFee_of_mult hu hm]
    | true => rw [pieceFee_of_valid hu hm, pieceFee_of_valid hu hm, h]

/-! ### The statements -/

/-- Settles O34, from the rule of division rounded up for the started days and the two outcomes of stage 6. -/
theorem dailyCapStage : Obligations.DailyCapStage := by
  refine ⟨fun d => ⟨startedDays_of_le, fun beyond => ?_⟩, fun _ _ => stageCap_zero,
    fun _ _ _ hc => ⟨stageCap_of_lt hc, stageCap_of_le hc⟩⟩
  rw [startedDays_of_lt beyond]
  exact ⟨le_divUp_mul (by decide), divUp_sub_one_mul_lt (by decide) (by omega)⟩

/-- Settles O35, from the rounding rules and the two ends of stage 7. -/
theorem scaleStage : Obligations.ScaleStage := by
  refine ⟨fun _ _ _ => ⟨roundsUp_nearestEven_iff, rfl, roundsUp_up_iff⟩, stageScale_eq, ?_⟩
  intro t m mode td te unit
  have hu : unitValid t.u = true := unitValid_iff.mpr unit
  refine ⟨fun least most => pieceFee_of_valid hu (multValid_iff.mpr ⟨least, most⟩), fun outside => ?_⟩
  rw [pieceFee_of_mult hu (multValid_eq_false_iff.mpr outside)]
  exact ⟨rfl, rfl, rfl⟩

/-- Settles O31: a deposit minute ahead and one just reached give the same dwell, and differ in CLOCK. -/
theorem dwellStage : Obligations.DwellStage := by
  refine ⟨fun _ _ => ⟨stageDwell_of_le, stageDwell_of_lt⟩, fun t m mode td te ahead => ?_,
    startedDays_of_le (by decide)⟩
  have early : stageDwell td te = (0, true) := stageDwell_of_lt ahead
  have now : stageDwell te te = (0, false) := (stageDwell_of_le le_rfl).trans (by rw [Nat.sub_self])
  exact ⟨pieceFee_fee_of_dwell (by rw [early, now]), pieceFee_clock.trans (by rw [early]),
    pieceFee_clock.trans (by rw [now])⟩

/-- Settles O32, from the end at stage 3 and the rule of division rounded up. -/
theorem chargeableStages : Obligations.ChargeableStages := by
  refine ⟨fun d f => ⟨fun beyond => if_pos beyond, fun within => if_neg (Nat.not_lt.mpr within)⟩, ?_, ?_⟩
  · intro t m mode td te no15 no30 no60
    rw [pieceFee_of_unit (unitValid_eq_false_iff.mpr ⟨no15, no30, no60⟩)]
    exact ⟨rfl, rfl⟩
  · intro e u unit
    have hu : 0 < u := by omega
    exact ⟨fun free => free ▸ divUp_zero hu, le_divUp_mul hu, divUp_sub_one_mul_lt hu⟩

/-- Settles O33: the first band takes the smaller of the started units and B, and the clamp acts above 999,999. -/
theorem baseStages : Obligations.BaseStages := by
  refine ⟨fun n t => ⟨fun within => ?_, fun beyond => ?_⟩, fun b => ⟨fun within => ?_, fun above => ?_⟩⟩
  · rw [exactBase, min_eq_left within, Nat.sub_self, Nat.zero_mul, Nat.add_zero]
  · rw [exactBase, min_eq_right beyond]
  · rw [saturate_eq, min_eq_left within, decide_eq_false (Nat.not_lt.mpr within)]
  · rw [saturate_eq, min_eq_right above.le, decide_eq_true above]

/-! ### The half of a return fee (R106) -/

theorem halfToOdd_of_even {r : Nat} (even : r % 2 = 0) : halfToOdd r = r / 2 := if_pos even

/-- An odd return fee has its halves at two neighbours, and the odd one of them is the carrier's. -/
theorem halfToOdd_of_odd {r : Nat} (odd : r % 2 = 1) :
    halfToOdd r % 2 = 1 ∧ (halfToOdd r = (r - 1) / 2 ∨ halfToOdd r = (r + 1) / 2) := by
  rw [halfToOdd, if_neg (by omega)]
  split
  case isTrue lower_odd => exact ⟨lower_odd, .inl (by omega)⟩
  case isFalse lower_even => exact ⟨by omega, .inr (by omega)⟩

/-- Settles O36, from the rows of the return modes and the half by the parity of the fee. -/
theorem returnFeeLanes : Obligations.ReturnFeeLanes :=
  ⟨fun _ => ⟨rfl, rfl, rfl⟩, fun _ => ⟨halfToOdd_of_even, halfToOdd_of_odd⟩, by decide⟩

end Sys2Proof.Machine
end

section
/-! SUPPORT. Set Masks and Clear Conditions: what each does with the set that its byte names, and the refusal of a byte
that names anything else. -/

namespace Sys2Proof.Machine

variable {s : State} {set : Byte} {c : CondSet}

/-! ### The set that a byte names (R117, R122) -/

/-- A bit beyond the six conditions lies outside the set (R211). -/
theorem condsOf_above (h : 64 ≤ set.toNat) : condsOf set = none := if_neg (Nat.not_lt.mpr h)

/-! ### Set Masks (R117) -/

theorem setMasks_named (h : condsOf set = some c) : s.setMasks set = (s.putMasks c, done [.conds c]) := by
  rw [State.setMasks, h]

theorem setMasks_above (h : 64 ≤ set.toNat) : s.setMasks set = s.refuses .format := by
  rw [State.setMasks, condsOf_above h]

theorem setMasksMasksTheSet : Claims.SetMasksMasksTheSet := by
  intro h set s frame
  refine ⟨fun c named => ?_, fun above => congrArg _ (serveOps_refuses frame (setMasks_above above))⟩
  have settled : (s.putMasks c).Settled := frame.1
  exact congrArg _ (serveOps_writes frame settled (setMasks_named (s := s.frameTaken h.port) named))

/-! ### Clear Conditions (R122) -/

theorem clearConditions_named (h : condsOf set = some c) :
    s.clearConditions set = (s.clearSticky c, done (s.clearSticky c).stickyFields) := by
  rw [State.clearConditions, h]

theorem clearConditions_above (h : 64 ≤ set.toNat) : s.clearConditions set = s.refuses .format := by
  rw [State.clearConditions, condsOf_above h]

/-- A condition of the set leaves the sticky set with its minute, and any other stays with its own. -/
theorem condAt_clearSticky (c : CondSet) (k : Condition) :
    condAt (s.clearSticky c).tariff.sticky k = if condAt c k then none else condAt s.tariff.sticky k :=
  condAt_condZip ..

theorem clearConditionsClearsTheSet : Claims.ClearConditionsClearsTheSet := by
  intro h set s frame
  refine ⟨fun c named => ⟨?_, condAt_clearSticky c⟩,
    fun above => congrArg _ (serveOps_refuses frame (clearConditions_above above))⟩
  have settled : (s.clearSticky c).Settled := frame.1
  exact congrArg _ (serveOps_writes frame settled (clearConditions_named (s := s.frameTaken h.port) named))

/-- Settles O42, from what each request does with a byte that names a set of conditions and with one that does not. -/
theorem masksAndStickySet : Obligations.MasksAndStickySet := ⟨setMasksMasksTheSet, clearConditionsClearsTheSet⟩

end Sys2Proof.Machine
end

section
/-! SUPPORT. The charge table as a book: the records, the generations, the ended list and the open charge reference of
each consignment (R125 to R128, R143), and the updates that write in it. -/

namespace Sys2Proof.Machine

variable {s t : State} {i j : ChargeSlot} {n m : RecordNo}

/-! ### The book -/

/-- The open charge reference of the consignment that a record number names. -/
def State.openRefs (s : State) (n : RecordNo) : Option ChargeRef := (s.record n).bind fun k => k.openRef

/-- The charge table is in order, its open charge references included. -/
structure Charged (s : State) : Prop where
  recs : ∀ i, (s.charge i).InOrder
  gens : ∀ i, s.charges.gens.get i < 256
  nodup : s.charges.ended.Nodup
  ended : ∀ i, i ∈ s.charges.ended ↔ (s.charge i).state.isEnded = true
  named : ∀ n ref, s.openRefs n = some ref →
    ref = s.refOf ref.slot ∧ (s.charge ref.slot).state.isLive = true ∧ (s.charge ref.slot).record = some n
  live : ∀ i, (s.charge i).state.isLive = true →
    ∃ n, (s.charge i).record = some n ∧ s.openRefs n = some (s.refOf i)

theorem openRefs_eq_some {ref : ChargeRef} : s.openRefs n = some ref ↔ ∃ k, s.record n = some k ∧ k.openRef = some ref :=
  Option.bind_eq_some_iff

theorem openRefs_of_record {k : Consignment} (h : s.record n = some k) : s.openRefs n = k.openRef := by
  simp [State.openRefs, h]

theorem Charged.inOrder (h : Charged s) : s.ChargesInOrder := by
  refine ⟨fun i => ⟨h.recs i, h.gens i⟩, h.nodup, h.ended, fun _ => ⟨fun n k hk ref href => ?_, fun i live => ?_⟩⟩
  · exact h.named n ref ((openRefs_of_record hk).trans href)
  · obtain ⟨n, hn, href⟩ := h.live i live
    obtain ⟨k, hk, hr⟩ := openRefs_eq_some.mp href
    exact ⟨n, hn, k, hk, hr⟩

/-- While the mains domain runs, a charge table in order is one with its references in order. -/
theorem Charged.of_inOrder (h : s.ChargesInOrder) (running : s.power.running = true) : Charged s := by
  obtain ⟨recs, nodup, ended, refs⟩ := h
  obtain ⟨named, live⟩ := refs running
  refine ⟨fun i => (recs i).1, fun i => (recs i).2, nodup, ended, fun n ref href => ?_, fun i hi => ?_⟩
  · obtain ⟨k, hk, hr⟩ := openRefs_eq_some.mp href
    exact named n k hk ref hr
  · obtain ⟨n, hn, k, hk, hr⟩ := live i hi
    exact ⟨n, hn, openRefs_eq_some.mpr ⟨k, hk, hr⟩⟩

/-- The order of the charges lies in the charge table and the open charge references. -/
theorem Charged.of_refs (h : Charged s) (charges : t.charges = s.charges) (refs : ∀ n, t.openRefs n = s.openRefs n) :
    Charged t := by
  have charge : ∀ i, t.charge i = s.charge i := fun i => congrArg (fun k : ChargeTable => k.recs.get i) charges
  have refOf : ∀ i, t.refOf i = s.refOf i := fun i =>
    congrArg (fun k : ChargeTable => ChargeRef.mk i (k.gens.get i)) charges
  refine ⟨fun i => charge i ▸ h.recs i, fun i => charges ▸ h.gens i, charges ▸ h.nodup, fun i => ?_,
    fun n ref href => ?_, fun i live => ?_⟩
  · rw [charges, charge]
    exact h.ended i
  · rw [charge, refOf]
    exact h.named n ref ((refs n).symm.trans href)
  · simp only [charge, refOf, refs] at live ⊢
    exact h.live i live

theorem Charged.of_eq (h : Charged s) (charges : t.charges = s.charges)
    (records : t.custody.records = s.custody.records) : Charged t :=
  h.of_refs charges fun n => by unfold State.openRefs State.record; rw [records]

theorem Charged.foldl {α : Type} (f : State → α → State) (hf : ∀ u x, Charged u → Charged (f u x)) :
    ∀ (l : List α) (u : State), Charged u → Charged (l.foldl f u)
  | [], _, h => h
  | x :: l, u, h => Charged.foldl f hf l (f u x) (hf u x h)

/-- A consignment's open charge reference is not stale (R126, R127). -/
theorem Charged.chargeNamed (h : Charged s) {ref : ChargeRef} (href : s.openRefs n = some ref) :
    s.chargeNamed ref.slot ref.gen = some (s.charge ref.slot) := by
  obtain ⟨ref_eq, live, -⟩ := h.named n ref href
  have gen : s.charges.gens.get ref.slot = ref.gen := congrArg ChargeRef.gen ref_eq.symm
  have used : (s.charge ref.slot).state ≠ .free := fun e => by
    rw [e] at live
    cases live
  exact if_pos ⟨used, gen⟩

/-! ### Records -/

theorem putRecord_record_other (s : State) (k : Option Consignment) (h : m ≠ n) :
    (s.putRecord n k).record m = s.record m := put_get_other _ _ _ _ h

/-- A record that is written takes its open charge reference with it. -/
theorem openRefs_putRecord (s : State) (n m : RecordNo) (k : Option Consignment) : (s.putRecord n k).openRefs m =
    if m = n then k.bind fun x => x.openRef else s.openRefs m := by
  unfold State.openRefs
  by_cases h : m = n
  · rw [h, putRecord_record_same, if_pos rfl]
  · rw [putRecord_record_other s k h, if_neg h]

/-- A record is written with the open charge reference that it had. -/
theorem Charged.putRecord (h : Charged s) {k : Option Consignment} (same : k.bind (fun x => x.openRef) = s.openRefs n) :
    Charged (s.putRecord n k) := by
  refine h.of_refs rfl fun m => ?_
  rw [openRefs_putRecord]
  split
  · rename_i e
    rw [same, e]
  · rfl

/-- A record is changed in all but its open charge reference. -/
theorem Charged.updRecord (h : Charged s) (n : RecordNo) (f : Consignment → Consignment)
    (keeps : ∀ k, (f k).openRef = k.openRef) : Charged (s.updRecord n f) := by
  refine h.putRecord ?_
  unfold State.openRefs
  cases s.record n <;> simp [keeps]

/-! ### The end of a charge (R127) -/

/-- The charge's consignment forgets it, and no other reference changes. -/
theorem openRefs_endCharge (s : State) (i : ChargeSlot) (st : ChargeState) (cause : Option EndCause) (paid : Option Nat)
    (n : RecordNo) : (s.endCharge i st cause paid).openRefs n =
    if (s.charge i).record = some n ∧ s.openRefs n = some (s.refOf i) then none else s.openRefs n := by
  unfold State.openRefs
  by_cases h : (s.charge i).record = some n
  · rw [endCharge_record_own st cause paid h]
    cases s.record n with
    | none => simp
    | some k => simp [h, Consignment.forget]
  · rw [endCharge_record_other st cause paid h]
    simp [h]

/-- An ended state is not a live one (R127). -/
theorem isLive_of_isEnded {st : ChargeState} (h : st.isEnded = true) : st.isLive = false := by
  revert h
  cases st <;> decide

/-- No live charge ends twice. -/
theorem Charged.not_ended (h : Charged s) (live : (s.charge i).state.isLive = true) : i ∉ s.charges.ended := by
  rw [h.ended]
  intro ends
  rw [isLive_of_isEnded ends] at live
  cases live

/-- A record in an ended state, with the end cause and the payment minute of that state, is in order. -/
theorem ChargeRecord.inOrder_ended {r : ChargeRecord} {st : ChargeState} {cause : Option EndCause} {paid : Option Nat}
    (record : r.record ≠ none) (ends : st.isEnded = true) (causes : cause ≠ none ↔ st = .declined ∨ st = .void)
    (minutes : paid ≠ none ↔ st = .paid) : ChargeRecord.InOrder
      { r with state := st, cause := cause, paymentMinute := paid, expiry := 0 } := by
  refine ⟨fun free => ?_, fun _ => record, ?_, minutes, causes⟩
  · rw [show st = .free from free] at ends
    cases ends
  · simp [isLive_of_isEnded ends]

/-- A live charge ends in order (R127). -/
theorem Charged.endCharge (h : Charged s) {st : ChargeState} {cause : Option EndCause} {paid : Option Nat}
    (live : (s.charge i).state.isLive = true) (ends : st.isEnded = true)
    (causes : cause ≠ none ↔ st = .declined ∨ st = .void) (minutes : paid ≠ none ↔ st = .paid) :
    Charged (s.endCharge i st cause paid) := by
  have own := endCharge_charge_same (s := s) i st cause paid
  have other := fun j => endCharge_charge_other (s := s) i j st cause paid
  have refOf : ∀ j, (s.endCharge i st cause paid).refOf j = s.refOf j := fun j => by
    unfold State.refOf
    rw [endCharge_gens]
  refine ⟨fun j => ?_, fun j => by rw [endCharge_gens]; exact h.gens j, ?_, fun j => ?_, fun n ref href => ?_,
    fun j alive => ?_⟩
  · by_cases hj : j = i
    · subst hj
      obtain ⟨n, hn, -⟩ := h.live j live
      rw [own]
      exact ChargeRecord.inOrder_ended (by simp [hn]) ends causes minutes
    · rw [other j hj]
      exact h.recs j
  · rw [endCharge_ended]
    exact List.concat_eq_append ▸ h.nodup.concat (h.not_ended live)
  · rw [endCharge_ended, List.mem_append, List.mem_singleton]
    by_cases hj : j = i
    · subst hj
      simp [own, ends]
    · rw [other j hj]
      simpa [hj] using h.ended j
  · rw [openRefs_endCharge] at href
    split at href
    · cases href
    · rename_i kept
      obtain ⟨ref_eq, alive, record⟩ := h.named n ref href
      have ne : ref.slot ≠ i := by
        intro e
        rw [e] at record ref_eq
        exact kept ⟨record, href.trans (congrArg some ref_eq)⟩
      rw [refOf, other _ ne]
      exact ⟨ref_eq, alive, record⟩
  · by_cases hj : j = i
    · subst hj
      rw [own, isLive_of_isEnded ends] at alive
      cases alive
    · rw [other j hj] at alive ⊢
      obtain ⟨n, hn, href⟩ := h.live j alive
      refine ⟨n, hn, ?_⟩
      rw [openRefs_endCharge, if_neg, refOf]
      · exact href
      · rintro ⟨-, e⟩
        exact hj (congrArg ChargeRef.slot (Option.some.inj (href.symm.trans e)))

/-- The VOID of a live charge (R127). -/
theorem Charged.endVoid (h : Charged s) (cause : EndCause) (live : (s.charge i).state.isLive = true) :
    Charged (s.endCharge i .void (some cause) none) :=
  h.endCharge live rfl (by simp) (by simp)

/-- A consignment's OPEN charge is voided (R127). -/
@[simp] theorem Charged.voidOpen (h : Charged s) (k : Consignment) (cause : EndCause) : Charged (s.voidOpen k cause) := by
  unfold State.voidOpen
  split
  · rename_i ref named
    split
    · rename_i opened
      obtain ⟨r, named', state⟩ := openChargeIs_charge opened
      cases named.symm.trans named'
      exact h.endVoid cause ((isLive_iff _).mpr (.inl state))
    · exact h
  · exact h

/-! ### A consignment's last piece (R11, R140) -/

/-- A consignment that a live charge names has it voided before it is removed; its reference is gone (R140). -/
theorem Charged.voidRetired (h : Charged s) {k : Consignment} (hk : s.record n = some k) :
    Charged (s.voidRetired k) ∧ (s.voidRetired k).openRefs n = none := by
  have refs := openRefs_of_record hk
  cases href : k.openRef with
  | none =>
    have same : s.voidRetired k = s := by simp [State.voidRetired, href]
    rw [same, refs, href]
    exact ⟨h, rfl⟩
  | some ref =>
    obtain ⟨ref_eq, live, record⟩ := h.named n ref (refs.trans href)
    have present := h.chargeNamed (refs.trans href)
    have voided : s.voidRetired k = s.endCharge ref.slot .void (some .retired) none := by
      refine voidRetired_live href (((isLive_iff _).mp live).imp (fun e => ?_) fun e => ?_)
      · exact (openChargeIs_iff k _).mpr ⟨ref, _, href, present, e⟩
      · exact (openChargeIs_iff k _).mpr ⟨ref, _, href, present, e⟩
    rw [voided, openRefs_endCharge, if_pos ⟨record, refs.trans (href.trans (congrArg some ref_eq))⟩]
    exact ⟨h.endVoid .retired live, rfl⟩

/-- A piece leaves its consignment, which goes with its last one (R8, R11). -/
theorem Charged.leaveRecord (h : Charged s) (n : RecordNo) (c : Comp) : Charged (s.leaveRecord n c) := by
  unfold State.leaveRecord
  split
  · exact h
  · rename_i k hk
    have lowered : Charged (s.lowerLive k.carrier) := h.of_eq rfl rfl
    dsimp only
    split
    · obtain ⟨voided, gone⟩ := lowered.voidRetired (n := n) (k := k) hk
      refine Charged.of_eq (voided.putRecord (n := n) (k := none) gone.symm) ?_ ?_
      · rfl
      · rfl
    · exact lowered.putRecord (openRefs_of_record (s := s) hk).symm

@[simp] theorem Charged.removeHolding (h : Charged s) (c : Comp) (st : CustodyState) (cause : Option OosCause) :
    Charged (s.removeHolding c st cause) := by
  unfold State.removeHolding
  split
  · exact h
  · refine Charged.leaveRecord (Charged.of_eq h ?_ ?_) _ _
    · simp
    · simp

/-! ### The opening of a charge (R128, R129) -/

theorem openIn_charge_same (s : State) (i : ChargeSlot) (n : RecordNo) (o k : Nat) : (s.openIn i n o k).charge i =
    { state := .opened, record := some n, laneO := o, laneK := k, creation := s.charges.second
      expiry := secUnits 120, paymentMinute := none, cause := none, code := (s.record n).bind fun k => k.code } :=
  put_get_same ..

theorem openIn_charge_other (s : State) (n : RecordNo) (o k : Nat) (h : j ≠ i) :
    (s.openIn i n o k).charge j = s.charge j := put_get_other _ _ _ _ h

theorem openIn_gens (s : State) (i : ChargeSlot) (n : RecordNo) (o k : Nat) :
    (s.openIn i n o k).charges.gens = put s.charges.gens i (nextGen (s.charges.gens.get i)) := rfl

theorem openIn_ended (s : State) (i : ChargeSlot) (n : RecordNo) (o k : Nat) :
    (s.openIn i n o k).charges.ended = s.charges.ended.filter (· != i) := rfl

theorem openIn_record_same (s : State) (i : ChargeSlot) (n : RecordNo) (o k : Nat) : (s.openIn i n o k).record n =
    (s.record n).map fun k => { k with openRef := some { slot := i, gen := nextGen (s.charges.gens.get i) } } :=
  updRecord_record_same ..

theorem openIn_record_other (s : State) (i : ChargeSlot) (o k : Nat) (h : m ≠ n) :
    (s.openIn i n o k).record m = s.record m := updRecord_record_other _ _ _ h

theorem openIn_refOf_other (s : State) (n : RecordNo) (o k : Nat) (h : j ≠ i) :
    (s.openIn i n o k).refOf j = s.refOf j := by
  unfold State.refOf
  rw [openIn_gens, put_get_other _ _ _ _ h]

/-- The slot that the next opening takes is FREE or ended (R128). -/
theorem Charged.slotToTake (h : Charged s) (hi : s.slotToTake = some i) : (s.charge i).state.isLive ≠ true := by
  unfold State.slotToTake firstIndex at hi
  split at hi
  · rename_i j found
    cases hi
    have free := List.find?_some found
    rw [beq_iff_eq] at free
    rw [show (s.charge i).state = .free from free]
    decide
  · simp [isLive_of_isEnded ((h.ended i).mp (List.mem_of_head? hi))]

/-- A charge is opened in a slot without a live charge, for a consignment without one (R128, R129). -/
theorem Charged.openIn (h : Charged s) (o l : Nat) (idle : (s.charge i).state.isLive ≠ true)
    (used : s.record n ≠ none) (unnamed : s.openRefs n = none) : Charged (s.openIn i n o l) := by
  have own := openIn_charge_same s i n o l
  have other : ∀ j, j ≠ i → (s.openIn i n o l).charge j = s.charge j := fun j => openIn_charge_other s n o l
  have ref_own : (s.openIn i n o l).openRefs n = some ((s.openIn i n o l).refOf i) := by
    obtain ⟨k, hk⟩ := Option.ne_none_iff_exists'.mp used
    rw [openIn_refOf]
    unfold State.openRefs
    rw [openIn_record_same, hk]
    rfl
  have ref_other : ∀ m, m ≠ n → (s.openIn i n o l).openRefs m = s.openRefs m := fun m hm => by
    unfold State.openRefs
    rw [openIn_record_other s i o l hm]
  refine ⟨fun j => ?_, fun j => ?_, h.nodup.filter _, fun j => ?_, fun m ref href => ?_, fun j live => ?_⟩
  · by_cases hj : j = i
    · rw [hj, own]
      simp [ChargeRecord.InOrder, ChargeState.isLive, secUnits]
    · rw [other j hj]
      exact h.recs j
  · rw [openIn_gens]
    by_cases hj : j = i
    · rw [hj, put_get_same]
      exact Nat.mod_lt _ (by decide)
    · rw [put_get_other _ _ _ _ hj]
      exact h.gens j
  · rw [openIn_ended, List.mem_filter]
    by_cases hj : j = i
    · rw [hj, own]
      simp [ChargeState.isEnded]
    · rw [other j hj]
      simpa [hj] using h.ended j
  · by_cases hm : m = n
    · subst hm
      cases ref_own.symm.trans href
      have slot : ((s.openIn i m o l).refOf i).slot = i := rfl
      rw [slot, own]
      exact ⟨rfl, rfl, rfl⟩
    · rw [ref_other m hm] at href
      obtain ⟨ref_eq, live, record⟩ := h.named m ref href
      have ne : ref.slot ≠ i := fun e => idle (e ▸ live)
      rw [other _ ne, openIn_refOf_other s n o l ne]
      exact ⟨ref_eq, live, record⟩
  · by_cases hj : j = i
    · rw [hj, own]
      exact ⟨n, rfl, ref_own⟩
    · rw [other j hj] at live ⊢
      obtain ⟨m, hm, href⟩ := h.live j live
      have ne : m ≠ n := by
        intro e
        rw [e, unnamed] at href
        cases href
      refine ⟨m, hm, ?_⟩
      rw [ref_other m ne, openIn_refOf_other s n o l hj]
      exact href

/-! ### Changes of one charge record -/

/-- The slot of an ended charge becomes FREE (R131). -/
theorem Charged.freeSlot (h : Charged s) (ends : (s.charge i).state.isEnded = true) : Charged (s.freeSlot i) := by
  have own : (s.freeSlot i).charge i = ChargeRecord.blank := put_get_same ..
  have other : ∀ j, j ≠ i → (s.freeSlot i).charge j = s.charge j := fun j hj => put_get_other _ _ _ _ hj
  have live_ne : ∀ j, (s.charge j).state.isLive = true → j ≠ i := by
    rintro j live rfl
    rw [isLive_of_isEnded ends] at live
    cases live
  refine ⟨fun j => ?_, h.gens, h.nodup.filter _, fun j => ?_, fun m ref href => ?_, fun j live => ?_⟩
  · by_cases hj : j = i
    · rw [hj, own]
      decide
    · rw [other j hj]
      exact h.recs j
  · show j ∈ s.charges.ended.filter (· != i) ↔ _
    rw [List.mem_filter]
    by_cases hj : j = i
    · rw [hj, own]
      simp [ChargeRecord.blank, ChargeState.isEnded]
    · rw [other j hj]
      simpa [hj] using h.ended j
  · obtain ⟨ref_eq, live, record⟩ := h.named m ref href
    rw [other _ (live_ne _ live)]
    exact ⟨ref_eq, live, record⟩
  · by_cases hj : j = i
    · rw [hj, own] at live
      cases live
    · rw [other j hj] at live ⊢
      exact h.live j live

/-- An OPEN charge becomes PRESENTED (R132). -/
theorem Charged.present (h : Charged s) (opened : (s.charge i).state = .opened) :
    Charged (s.putCharge i { s.charge i with state := .presented }) := by
  have own := putCharge_charge_same s i { s.charge i with state := .presented }
  have other : ∀ j, j ≠ i → (s.putCharge i { s.charge i with state := .presented }).charge j = s.charge j :=
    fun j hj => put_get_other _ _ _ _ hj
  obtain ⟨-, record, expiry, minute, cause⟩ := h.recs i
  rw [opened] at record expiry minute cause
  refine ⟨fun j => ?_, h.gens, h.nodup, fun j => ?_, fun m ref href => ?_, fun j live => ?_⟩
  · by_cases hj : j = i
    · rw [hj, own]
      exact ⟨by simp, fun _ => record (by simp), expiry, by simpa using minute, by simpa using cause⟩
    · rw [other j hj]
      exact h.recs j
  · refine (h.ended j).trans ?_
    by_cases hj : j = i
    · rw [hj, own, opened]
      simp [ChargeState.isEnded]
    · rw [other j hj]
  · obtain ⟨ref_eq, live, record⟩ := h.named m ref href
    refine ⟨ref_eq, ?_⟩
    by_cases hj : ref.slot = i
    · rw [hj] at record ⊢
      rw [own]
      exact ⟨rfl, record⟩
    · rw [other _ hj]
      exact ⟨live, record⟩
  · by_cases hj : j = i
    · rw [hj, own]
      exact h.live i (by rw [opened]; rfl)
    · rw [other j hj] at live ⊢
      exact h.live j live

/-! ### A record enters the table -/

/-- A record number that is not in use gets a consignment without a charge (R9, R44, R61). -/
theorem Charged.enter (h : Charged s) (free : s.freeRecord = some n) {k : Consignment} (unnamed : k.openRef = none) :
    Charged (s.putRecord n (some k)) := by
  have unused := List.find?_some free
  simp only [Option.isNone_iff_eq_none] at unused
  have none : s.openRefs n = none := by
    unfold State.openRefs
    rw [show s.record n = none from unused]
    rfl
  exact h.putRecord (none ▸ unnamed)

end Sys2Proof.Machine
end

section
/-! SUPPORT. The order of the charges through the operations that every command shares: notices, the queue, the window,
the door events, release outcomes, the sequencer, the manifest engine, the scanner and the end of a step. Charges change
here only with a consignment that goes (R140), or comes (R44, R61). -/

namespace Sys2Proof.Machine

variable {s t : State} {c : Comp}

/-! ### Other blocks -/

@[simp] theorem Charged.emit (h : Charged t) (g : Signal) : Charged (t.emit g) := h.of_eq rfl rfl
@[simp] theorem Charged.markArbiter (h : Charged t) : Charged t.markArbiter := h.of_eq rfl rfl
@[simp] theorem Charged.begin (h : Charged t) : Charged t.begin := h.of_eq rfl rfl
@[simp] theorem Charged.setDoor (h : Charged t) (c : Comp) (d : Option Door) : Charged (t.setDoor c d) :=
  h.of_eq rfl rfl
@[simp] theorem Charged.setBaseline (h : Charged t) (c : Comp) (p : Option BaselineSample) :
    Charged (t.setBaseline c p) := h.of_eq rfl rfl
@[simp] theorem Charged.setOwed (h : Charged t) (c : Column) (b : Bool) : Charged (t.setOwed c b) := h.of_eq rfl rfl
@[simp] theorem Charged.setPhase (h : Charged t) (p : SweepPhase) : Charged (t.setPhase p) := h.of_eq rfl rfl
@[simp] theorem Charged.latch (h : Charged t) (x : Sense) : Charged (t.latch x) := h.of_eq rfl rfl
@[simp] theorem Charged.setWindow (h : Charged t) (w : List WindowRecord) : Charged (t.setWindow w) := h.of_eq rfl rfl
@[simp] theorem Charged.putSlot (h : Charged t) (i : RingSlot) (x : Slot) : Charged (t.putSlot i x) := h.of_eq rfl rfl
@[simp] theorem Charged.setEngine (h : Charged t) (e : EngineState) : Charged (t.setEngine e) := h.of_eq rfl rfl
@[simp] theorem Charged.setPointer (h : Charged t) (i : RingSlot) : Charged (t.setPointer i) := h.of_eq rfl rfl
@[simp] theorem Charged.enterStopped (h : Charged t) : Charged t.enterStopped := h.of_eq rfl rfl
@[simp] theorem Charged.putColumn (h : Charged t) (c : Column) (st : ColumnState) : Charged (t.putColumn c st) :=
  h.of_eq rfl rfl
@[simp] theorem Charged.setQueue (h : Charged t) (q : List Entry) : Charged (t.setQueue q) := h.of_eq rfl rfl
@[simp] theorem Charged.setPending (h : Charged t) (l : List Comp) : Charged (t.setPending l) := h.of_eq rfl rfl
@[simp] theorem Charged.dropEntry (h : Charged t) (c : Comp) : Charged (t.dropEntry c) := h.of_eq rfl rfl
@[simp] theorem Charged.departed (h : Charged t) : Charged t.departed := h.of_eq rfl rfl
@[simp] theorem Charged.leavesQueue (h : Charged t) (c : Comp) : Charged (t.leavesQueue c) := h.of_eq rfl rfl
@[simp] theorem Charged.join (h : Charged t) (e : Entry) : Charged (t.join e) := h.of_eq rfl rfl
@[simp] theorem Charged.addSticky (h : Charged t) (x : CondSet) : Charged (t.addSticky x) := h.of_eq rfl rfl
@[simp] theorem Charged.onPort (h : Charged t) (p : Fin 4) (f : PortUnit → PortUnit) : Charged (t.onPort p f) :=
  h.of_eq rfl rfl
@[simp] theorem Charged.post (h : Charged t) (r : Role) (n : Notice) : Charged (t.post r n) := h.of_eq rfl rfl
@[simp] theorem Charged.setEntry (h : Charged t) (c : Comp) (e : CompartmentEntry) : Charged (t.setEntry c e) :=
  h.of_eq (by simp) (by simp)
@[simp] theorem Charged.setCustody (h : Charged t) (c : Comp) (st : CustodyState) : Charged (t.setCustody c st) :=
  h.setEntry ..
@[simp] theorem Charged.updHolding (h : Charged t) (c : Comp) (f : Holding → Holding) : Charged (t.updHolding c f) :=
  h.of_eq rfl rfl
@[simp] theorem Charged.addCause (h : Charged t) (c : Comp) (k : ReviewCause) : Charged (t.addCause c k) :=
  h.updHolding ..
@[simp] theorem Charged.reportDrop (h : Charged t) (n : RingSlot) (c : Comp) (o : Status) (m : Option Nat) :
    Charged (t.reportDrop n c o m) := h.of_eq rfl rfl
@[simp] theorem Charged.reportClaim (h : Charged t) (c : Comp) (e : ClaimEnd) : Charged (t.reportClaim c e) :=
  h.of_eq rfl rfl
@[simp] theorem Charged.serviceDone (h : Charged t) (b : State) (c : Comp) (d : Detail) :
    Charged (t.serviceDone b c d) := h.post ..
@[simp] theorem Charged.noteForced (h : Charged t) (c : Comp) (b : Bool) : Charged (t.noteForced c b) := h.post ..
@[simp] theorem Charged.testResult (h : Charged t) (c : Comp) (d : Detail) (q : Option Detail) :
    Charged (t.testResult c d q) := h.post ..
@[simp] theorem Charged.withdraw (h : Charged t) (c : Comp) : Charged (t.withdraw c) := h.of_eq (by simp) (by simp)
@[simp] theorem Charged.setColumn (h : Charged t) (c : Column) (st : ColumnState) : Charged (t.setColumn c st) :=
  h.of_eq (by simp) (by simp)
@[simp] theorem Charged.disarm (h : Charged t) (c : Column) : Charged (t.disarm c) := h.setColumn ..

@[simp] theorem Charged.postBoth (h : Charged t) (a b : Role) (n : Notice) : Charged (t.postBoth a b n) := by
  unfold State.postBoth
  split
  · exact h.post ..
  · exact (h.post ..).post ..

@[simp] theorem Charged.reportOrigin (h : Charged t) (o : Origin) (c : Comp) (st : Status) (m : Option Nat) :
    Charged (t.reportOrigin o c st m) := by
  cases o with
  | slot n => exact h.reportDrop ..
  | console => exact h

@[simp] theorem Charged.tellScanner (h : Charged t) (c : Column) : Charged (t.tellScanner c) := by
  unfold State.tellScanner
  split
  · exact h.emit _
  · exact h

@[simp] theorem Charged.columnAfterPulse (h : Charged t) (c : Column) : Charged (t.columnAfterPulse c) := by
  unfold State.columnAfterPulse
  split
  · split
    · exact h.disarm c
    · exact h.setColumn ..
  all_goals exact h

/-! ### Rest, review and claims -/

@[simp] theorem Charged.toRest (h : Charged t) (c : Comp) : Charged (t.toRest c) := by
  unfold State.toRest
  split
  · exact (h.updHolding ..).setCustody ..
  · exact h

@[simp] theorem Charged.outOfService (h : Charged t) (c : Comp) (k : OosCause) : Charged (t.outOfService c k) :=
  h.setEntry ..

@[simp] theorem Charged.enterReview (h : Charged t) (c : Comp) (k : ReviewCause) : Charged (t.enterReview c k) :=
  ((h.updHolding ..).setCustody ..).post ..

@[simp] theorem Charged.claim (h : Charged t) (c : Comp) (w : Claimant) : Charged (t.claim c w) :=
  (h.updHolding ..).setCustody ..

@[simp] theorem Charged.lapse (h : Charged t) (c : Comp) : Charged (t.lapse c) := by
  unfold State.lapse
  split
  · exact (h.toRest c).post ..
  · exact (h.toRest c).reportClaim ..
  · exact (h.toRest c).serviceDone ..
  · exact h.toRest c

/-! ### Door events (R12 to R17) -/

@[simp] theorem Charged.custodyOpened (h : Charged t) (c : Comp) (k : ReleaseClass) : Charged (t.custodyOpened c k) := by
  unfold State.custodyOpened
  split
  · exact h.setCustody ..
  · exact (h.updHolding ..).setCustody ..
  · exact h

@[simp] theorem Charged.shutReleasing (h : Charged t) (c : Comp) (b : Bool) : Charged (t.shutReleasing c b) := by
  unfold State.shutReleasing
  split
  · split
    · exact h.enterReview ..
    · exact (h.lapse c).updHolding ..
  · exact h.lapse c

@[simp] theorem Charged.shutReserved (h : Charged t) (c : Comp) (b : Bool) : Charged (t.shutReserved c b) := by
  unfold State.shutReserved
  split
  · exact h
  · exact ((h.removeHolding ..).post ..).reportOrigin ..

@[simp] theorem Charged.custodyWindowShut (h : Charged t) (c : Comp) (k : ReleaseClass) (b : Bool) :
    Charged (t.custodyWindowShut c k b) := by
  unfold State.custodyWindowShut
  split
  · exact h
  · exact h.shutReserved ..
  · exact h.shutReleasing ..
  · split
    · exact h.serviceDone ..
    · exact h

@[simp] theorem Charged.foreignObject (h : Charged t) (c : Comp) : Charged (t.foreignObject c) :=
  (h.outOfService ..).post ..

@[simp] theorem Charged.missing (h : Charged t) (c : Comp) : Charged (t.missing c) := by
  unfold State.missing
  dsimp only
  split
  · exact (h.post ..).enterReview ..
  · exact (h.post ..).addCause ..

@[simp] theorem Charged.inspect (h : Charged t) (c : Comp) (p : Presence) : Charged (t.inspect c p).1 := by
  unfold State.inspect
  split
  · exact h.foreignObject c
  · split
    · exact h.foreignObject c
    · exact h
  · split
    · exact h
    · exact h.missing c
  · exact h.missing c
  · exact h.missing c
  · exact h.missing c
  · exact h.missing c
  · exact h
  · exact h

@[simp] theorem Charged.custodyInspection (h : Charged t) (c : Comp) (p : Presence) (b : Bool) :
    Charged (t.custodyInspection c p b) := by
  unfold State.custodyInspection
  dsimp only
  split
  · exact (h.inspect c p).serviceDone ..
  · exact h.inspect c p

@[simp] theorem Charged.depositDone (h : Charged t) (c : Comp) (x : Holding) : Charged (t.depositDone c x) := by
  unfold State.depositDone
  dsimp only
  split
  · exact ((h.updHolding ..).setCustody ..).reportDrop ..
  · exact ((h.updHolding ..).setCustody ..).post ..

@[simp] theorem Charged.depositEmpty (h : Charged t) (c : Comp) (x : Holding) : Charged (t.depositEmpty c x) := by
  unfold State.depositEmpty
  split
  · exact (h.removeHolding ..).reportDrop ..
  · exact (h.removeHolding ..).post ..

@[simp] theorem Charged.removalDone (h : Charged t) (c : Comp) (x : Holding) : Charged (t.removalDone c x) := by
  have removed := h.removeHolding c .free none
  unfold State.removalDone
  dsimp only
  split
  · exact removed.postBoth ..
  · exact removed.reportClaim ..
  · exact removed.serviceDone ..
  · exact removed

@[simp] theorem Charged.removalIncomplete (h : Charged t) (c : Comp) (x : Holding) :
    Charged (t.removalIncomplete c x) := by
  have rested := (h.toRest c).updHolding c fun x => { x with collectIncomplete := true }
  unfold State.removalIncomplete
  dsimp only
  split
  · exact rested.postBoth ..
  · exact rested.reportClaim ..
  · exact rested.serviceDone ..
  · exact rested

@[simp] theorem Charged.custodyClosure (h : Charged t) (c : Comp) (p : Presence) (k : OpeningKind) :
    Charged (t.custodyClosure c p k) := by
  unfold State.custodyClosure
  split
  · exact h
  · split
    · exact h.depositDone ..
    · exact h.depositEmpty ..
    · exact h.custodyInspection ..
    · exact h.custodyInspection ..
  · split
    · split
      · exact h.removalDone ..
      · exact h.removalIncomplete ..
    · exact h.custodyInspection ..
  · exact h.custodyInspection ..

@[simp] theorem Charged.forcedReserved (h : Charged t) (c : Comp) (x : Holding) : Charged (t.forcedReserved c x) := by
  have removed := ((h.noteForced c true).withdraw c).removeHolding c .outOfService (some .forced)
  unfold State.forcedReserved
  dsimp only
  split
  · exact removed.reportDrop ..
  · exact removed.post ..

@[simp] theorem Charged.forcedReleasing (h : Charged t) (c : Comp) (x : Holding) :
    Charged (t.forcedReleasing c x) := by
  have reviewed := fun l => (((h.noteForced c false).withdraw c).setPending l).enterReview c .forced
  unfold State.forcedReleasing
  dsimp only
  split
  · exact (reviewed _).post ..
  · exact (reviewed _).reportClaim ..
  · exact (reviewed _).post ..
  · exact reviewed _

@[simp] theorem Charged.custodyForced (h : Charged t) (c : Comp) : Charged (t.custodyForced c) := by
  unfold State.custodyForced
  split
  · exact h
  · exact (h.noteForced ..).outOfService ..
  · exact (h.noteForced ..).enterReview ..
  · exact (h.noteForced ..).enterReview ..
  · exact (h.noteForced ..).enterReview ..
  · exact (h.noteForced ..).addCause ..
  · exact (h.noteForced ..).addCause ..
  · exact h.forcedReserved ..
  · exact h.forcedReleasing ..
  all_goals exact h.noteForced ..

/-! ### Failed releases, dropped reservations, conditions and overstays -/

@[simp] theorem Charged.failReserved (h : Charged t) (c : Comp) (f : Failure) (x : Holding) :
    Charged (t.failReserved c f x) := by
  unfold State.failReserved
  cases f with
  | lockFault => exact (h.removeHolding ..).reportOrigin ..
  | columnDown => exact (h.removeHolding ..).reportOrigin ..

@[simp] theorem Charged.failReleasing (h : Charged t) (c : Comp) (f : Failure) (x : Holding) :
    Charged (t.failReleasing c f x) := by
  have ended : Charged (match f with
      | .lockFault => (t.updHolding c fun x => { x with claimant := none }).outOfService c .lockFault
      | .columnDown => t.toRest c) := by
    cases f with
    | lockFault => exact (h.updHolding ..).outOfService ..
    | columnDown => exact h.toRest c
  unfold State.failReleasing
  dsimp only
  split
  · exact ended.reportClaim ..
  all_goals exact ended

@[simp] theorem Charged.custodyFailed (h : Charged t) (c : Comp) (f : Failure) : Charged (t.custodyFailed c f) := by
  have faulted : Charged (match f with
      | .lockFault => t.outOfService c .lockFault
      | .columnDown => t) := by
    cases f with
    | lockFault => exact h.outOfService ..
    | columnDown => exact h
  unfold State.custodyFailed
  split
  · exact h.failReserved ..
  · exact h.failReleasing ..
  · exact faulted
  · exact faulted
  · exact faulted
  · exact faulted
  · exact faulted
  all_goals exact h

@[simp] theorem Charged.dropReserved (h : Charged t) (c : Comp) : Charged (t.dropReserved c) := by
  unfold State.dropReserved
  split
  · exact (h.removeHolding ..).reportOrigin ..
  · exact h

@[simp] theorem Charged.feeConditionPiece (h : Charged t) (c : Comp) : Charged (t.feeConditionPiece c) := by
  unfold State.feeConditionPiece
  split
  · exact h.enterReview ..
  · exact h.enterReview ..
  · exact h.enterReview ..
  · exact h.addCause ..
  all_goals exact h

@[simp] theorem Charged.feeCondition (h : Charged t) (k : Consignment) (c : Option Comp) (x : CondSet) (d : Detail) :
    Charged (t.feeCondition k c x d) :=
  (Charged.foldl _ (fun _ _ hu => hu.feeConditionPiece _) _ _ h).post ..

@[simp] theorem Charged.scanOne (h : Charged t) (c : Comp) : Charged (t.scanOne c) := by
  unfold State.scanOne
  split
  · exact h
  · split
    · dsimp only
      split
      · split
        · exact ((h.updHolding ..).setCustody ..).postBoth ..
        · exact h.updHolding ..
      · exact h
    · exact h

@[simp] theorem Charged.overstayScan (h : Charged t) : Charged t.overstayScan :=
  Charged.foldl _ (fun _ _ hu => hu.scanOne _) _ _ h

end Sys2Proof.Machine
end

section
/-! SUPPORT. The order of the charges through the sequencer, the manifest engine, the scanner and the end of a step. -/

namespace Sys2Proof.Machine

variable {s t : State} {c : Comp} {n : RecordNo}

/-! ### The sequencer -/

@[simp] theorem Charged.failEntry (h : Charged t) (e : Entry) (f : Failure) : Charged (t.failEntry e f) :=
  ((h.custodyFailed ..).postBoth ..).departed

@[simp] theorem Charged.request (h : Charged t) (e : Entry) : Charged (t.request e) := by
  unfold State.request
  split
  · exact h
  · exact h
  · split
    · exact h.failEntry ..
    · exact h.join e

@[simp] theorem Charged.take (h : Charged t) (e : Entry) : Charged (t.take e) := by
  have taken : ∀ q : Sequencer, Charged { t with seq := q } := fun _ => h.of_eq rfl rfl
  unfold State.take
  dsimp only
  split
  · exact (taken _).setColumn ..
  all_goals exact (taken _).setColumn ..

@[simp] theorem Charged.arbitrate : ∀ (n : Nat) (t : State), Charged t → Charged (State.arbitrate n t)
  | 0, _, h => h
  | n + 1, t, h => by
    unfold State.arbitrate
    split
    · exact h
    · exact Charged.arbitrate n _ (h.take _)

@[simp] theorem Charged.doorReleased (h : Charged t) (c : Comp) (k : ReleaseClass) : Charged (t.doorReleased c k) := by
  unfold State.doorReleased
  split
  · exact h.setDoor ..
  all_goals exact h

@[simp] theorem Charged.pulseGoodEnd (h : Charged t) (e : Entry) : Charged (t.pulseGoodEnd e) :=
  (((h.leavesQueue _).doorReleased ..).departed).emit _

@[simp] theorem Charged.pulseOpenEnd (h : Charged t) (e : Entry) : Charged (t.pulseOpenEnd e) := by
  unfold State.pulseOpenEnd
  dsimp only
  split
  · exact ((h.leavesQueue _).setQueue _).emit _
  · exact ((h.leavesQueue _).failEntry ..).emit _

@[simp] theorem Charged.failColumn (h : Charged t) (c : Column) : Charged (t.failColumn c) :=
  Charged.foldl _ (fun _ _ hu => (hu.dropEntry _).failEntry ..) _ _ h

@[simp] theorem Charged.pulseShortEnd (h : Charged t) (e : Entry) : Charged (t.pulseShortEnd e) :=
  ((((h.putColumn ..).leavesQueue _).failEntry ..).failColumn _).tellScanner _

@[simp] theorem Charged.testPulseEnd (h : Charged t) (e : Entry) (o : PulseOutcome) : Charged (t.testPulseEnd e o) := by
  have told := ((h.leavesQueue e.comp).testResult e.comp (PulseOutcome.detail o)
    (if e.restore then some (restoreDetail o) else none)).departed
  unfold State.testPulseEnd
  dsimp only
  split
  · exact ((told.putColumn ..).failColumn _).tellScanner _
  · exact ((told.putColumn ..).failColumn _).tellScanner _
  · exact told.disarm _
  · exact told.emit _
  · exact told.emit _

@[simp] theorem Charged.releasePaidReturn (h : Charged t) (n : RecordNo) (c : Comp) :
    Charged (t.releasePaidReturn n c) := by
  unfold State.releasePaidReturn
  split
  · exact h.request _
  all_goals exact h.of_eq rfl rfl

/-! ### Commitments and starts of the manifest engine -/

@[simp] theorem Charged.reserve (h : Charged t) (c : Comp) (x : Holding) : Charged (t.reserve c x) := h.setEntry ..

@[simp] theorem Charged.raiseLive (h : Charged t) (i : Fin 8) (n : Nat) : Charged (t.raiseLive i n) := h.of_eq rfl rfl

/-- A consignment that is committed has no charge (R61). -/
theorem Charged.commitGroup (h : Charged s) (free : s.freeRecord = some n) (i : Fin 8) (code cod : Nat)
    (ps : List Placed) : Charged (s.commitGroup n i code cod ps) := by
  unfold State.commitGroup
  dsimp only
  generalize hk : (Consignment.mk _ _ _ _ _ _ _ _ _ _ _ _) = k
  have entered : Charged (s.putRecord n (some k)) := h.enter free (by rw [← hk])
  refine Charged.raiseLive (Charged.foldl _ (fun _ _ hu => hu.reserve ..) _ _ ?_) ..
  exact entered.of_eq rfl rfl

/-- Nor has a return drop at its commitment (R44). -/
theorem Charged.commitReturn (h : Charged s) (free : s.freeRecord = some n) (i : Fin 8) (c : Comp) (z : SizeClass)
    (ref : Option Text) : Charged (s.commitReturn n i c z ref) :=
  ((h.enter free rfl).reserve ..).raiseLive ..

@[simp] theorem Charged.feedOne (h : Charged t) : Charged t.feedOne := by
  unfold State.feedOne
  split
  · exact h
  · exact ((h.setWindow _).request _).emit _

@[simp] theorem Charged.started (h : Charged t) (rs : List WindowRecord) : Charged (t.started rs) :=
  (h.setWindow _).setPointer _

@[simp] theorem Charged.afterStart (h : Charged t) : Charged t.afterStart := ((h.emit _).emit _).emit _

@[simp] theorem Charged.startFails (h : Charged t) (k : DescKind) (st : Status) : Charged (t.startFails k st) :=
  h.started _

/-- A group that has passed its checks is committed with its code (R61, R79). -/
theorem Charged.startPlaced (h : Charged t) (d : Descriptor) (i : Fin 8) (ps : List Placed)
    (free : t.freeRecord = some n) : Charged (t.startPlaced d i ps n) := by
  unfold State.startPlaced
  dsimp only
  refine Charged.foldl _ (fun _ _ hu => hu.request _) _ _ ?_
  cases d.code with
  | some x => exact (h.commitGroup free ..).started _
  | none =>
    have drawn : Charged { t with codeGen := { t.codeGen with position := t.draw.2 } } := h.of_eq rfl rfl
    exact (drawn.commitGroup free ..).started _

@[simp] theorem Charged.startGroup (h : Charged t) (n : Nat) : Charged (t.startGroup n) := by
  unfold State.startGroup
  dsimp only
  refine Charged.afterStart ?_
  split
  · exact h.started _
  · split
    · exact h.started _
    · rename_i free
      exact h.startPlaced _ _ _ free
    · exact h.started _

@[simp] theorem Charged.recallFrom (h : Charged t) (d : Descriptor) (r : Text) (i : Fin 8) :
    Charged (t.recallFrom d r i) := by
  unfold State.recallFrom
  dsimp only
  split
  · exact ((h.started _).claim ..).request _
  · split
    · exact h.started _
    · exact h.started _

@[simp] theorem Charged.startRecall (h : Charged t) : Charged t.startRecall := by
  unfold State.startRecall
  dsimp only
  refine Charged.afterStart ?_
  split
  · exact h.startFails ..
  · split
    · exact h.startFails ..
    · exact h.startFails ..
    · split
      · exact h.recallFrom ..
      · exact h.startFails ..

/-- Claims on a list of compartments (R22, R83). -/
theorem Charged.claims (h : Charged t) (w : Claimant) (l : List Comp) :
    Charged (l.foldl (fun u d => u.claim d w) t) := Charged.foldl _ (fun _ _ hu => hu.claim ..) _ _ h

@[simp] theorem Charged.startPickup (h : Charged t) : Charged t.startPickup := by
  unfold State.startPickup
  dsimp only
  refine Charged.afterStart ?_
  split
  · exact h.startFails ..
  · exact h.startFails ..
  · split
    · exact (h.started _).claims ..
    · exact h.startFails ..

/-! ### The look, retirement and Stop -/

@[simp] theorem Charged.suspend (h : Charged t) (i : RingSlot) : Charged (t.suspend i) := (h.setEngine _).post ..

@[simp] theorem Charged.lookDrop (h : Charged t) : Charged t.lookDrop := by
  unfold State.lookDrop
  dsimp only
  split
  · split
    · exact h.suspend _
    · split
      · exact (h.started _).afterStart
      · exact h
    · split
      · exact h.startGroup _
      · exact h
  · split
    · exact (h.started _).afterStart
    · exact h

@[simp] theorem Charged.lookNow (h : Charged t) : Charged t.lookNow := by
  unfold State.lookNow
  dsimp only
  split
  · exact h
  · split
    · exact h.suspend _
    · split
      · exact h.lookDrop
      · split
        · exact h.startRecall
        · exact h
      · split
        · exact h.startPickup
        · exact h

@[simp] theorem Charged.retireOne (h : Charged t) (r : WindowRecord) (l : List WindowRecord) (st : Status) :
    Charged (t.retireOne r l st) := by
  unfold State.retireOne
  dsimp only
  split
  · exact ((h.putSlot ..).setWindow _).post ..
  · exact (h.putSlot ..).setWindow _

@[simp] theorem Charged.retireAll : ∀ (l : List WindowRecord) (t : State), Charged t → Charged (State.retireAll l t)
  | [], _, h => h
  | r :: l, t, h => by
    unfold State.retireAll
    split
    · exact Charged.retireAll l _ (h.retireOne ..)
    · exact h

@[simp] theorem Charged.retireNow (h : Charged t) : Charged t.retireNow := by
  have retired := Charged.retireAll t.engine.window t h
  unfold State.retireNow
  dsimp only
  split
  · split
    · exact retired.enterStopped
    · exact retired
  · split
    · exact retired.emit _
    · exact retired
  all_goals exact retired

@[simp] theorem Charged.stopRecord (h : Charged t) (r : WindowRecord) : Charged (t.stopRecord r) := by
  unfold State.stopRecord
  split
  · split
    · exact (h.withdraw _).dropReserved _
    all_goals exact h
  · exact h

@[simp] theorem Charged.engineStop (h : Charged t) : Charged t.engineStop := by
  have stopped := Charged.foldl State.stopRecord (fun _ _ hu => hu.stopRecord _) t.engine.window _
    (h.setEngine .stopping)
  unfold State.engineStop
  split
  · exact stopped.emit _
  · exact stopped.emit _
  all_goals exact h

/-! ### The scanner -/

@[simp] theorem Charged.confirmClosure (h : Charged t) (c : Comp) (k : OpeningKind) : Charged (t.confirmClosure c k) :=
  (h.setDoor ..).custodyClosure ..

@[simp] theorem Charged.fittingRead (h : Charged t) (c : Comp) : Charged (t.fittingRead c) := by
  unfold State.fittingRead
  split
  · exact h
  · split
    · exact h.setDoor ..
    · exact h.setDoor ..

@[simp] theorem Charged.applySample (h : Charged t) (c : Comp) : Charged (t.applySample c) := by
  unfold State.applySample
  split
  · exact h.fittingRead c
  · exact h
  · exact (h.setDoor ..).custodyForced c
  · exact h
  · exact (h.setDoor ..).custodyOpened ..
  · exact h.setDoor ..
  · exact h.confirmClosure ..
  · exact h.setDoor ..
  · exact h.setDoor ..
  · exact h.confirmClosure ..
  · exact h.setDoor ..
  · exact h.setDoor ..
  · exact h.confirmClosure ..
  · exact h.setDoor ..

@[simp] theorem Charged.baselineSample (h : Charged t) (c : Comp) : Charged (t.baselineSample c) := by
  unfold State.baselineSample
  split
  · exact h
  · split
    · exact h.setDoor ..
    · exact (h.setDoor ..).setBaseline ..

@[simp] theorem Charged.readColumn (h : Charged t) (c : Column) : Charged (t.readColumn c) := by
  refine Charged.foldl _ (fun u p hu => ?_) _ _ (h.setOwed c false)
  split
  · exact hu.baselineSample _
  · exact hu.applySample _

@[simp] theorem Charged.owedRead (h : Charged t) (c : Column) : Charged (t.owedRead c) := by
  unfold State.owedRead
  split
  · exact h.readColumn c
  · exact h

@[simp] theorem Charged.noteInterrupted (h : Charged t) (b : State) (c : Comp) (d : Detail) :
    Charged (t.noteInterrupted b c d) := by
  unfold State.noteInterrupted
  split
  · exact h.postBoth ..
  · exact h

@[simp] theorem Charged.reconcileCut (h : Charged t) (c : Comp) : Charged (t.reconcileCut c) := by
  unfold State.reconcileCut
  split
  · exact (h.setDoor ..).custodyOpened ..
  · exact ((h.setDoor ..).custodyWindowShut ..).noteInterrupted ..

@[simp] theorem Charged.revert (h : Charged t) (c : Comp) : Charged (t.revert c) := by
  unfold State.revert
  split
  · exact h.removeHolding ..
  all_goals exact h.toRest c

@[simp] theorem Charged.reconcileWaiting (h : Charged t) (c : Comp) : Charged (t.reconcileWaiting c) := by
  unfold State.reconcileWaiting
  split
  · exact (h.setDoor ..).custodyForced c
  · exact ((h.setDoor ..).revert c).noteInterrupted ..

@[simp] theorem Charged.reconcileRest (h : Charged t) (c : Comp) : Charged (t.reconcileRest c) := by
  unfold State.reconcileRest
  split
  · exact h.setDoor ..
  · exact h.setDoor ..
  · exact h.setDoor ..
  · exact h.setDoor ..
  · exact (h.setDoor ..).custodyForced c
  · exact h.setDoor ..

@[simp] theorem Charged.reconcileFlown (h : Charged t) (c : Comp) (f : FlightEntry) :
    Charged (t.reconcileFlown c f) := by
  unfold State.reconcileFlown
  split
  · split
    · exact h.setDoor ..
    · exact (h.setDoor ..).custodyWindowShut ..
  · exact (h.reconcileRest c).testResult ..
  all_goals exact h.reconcileRest c

@[simp] theorem Charged.reconcileOne (h : Charged t) (c : Comp) : Charged (t.reconcileOne c) := by
  unfold State.reconcileOne
  split
  · exact h
  · split
    · exact h.reconcileCut c
    · exact h.reconcileCut c
    · exact h.reconcileWaiting c
    · exact h.reconcileWaiting c
    · exact h.reconcileFlown ..
    · exact h.reconcileRest c

@[simp] theorem Charged.reconcile (h : Charged t) : Charged t.reconcile := by
  have reconciled := Charged.foldl State.reconcileOne (fun _ _ hu => hu.reconcileOne _) Comp.all t h
  unfold State.reconcile
  generalize Comp.all.foldl State.reconcileOne t = u at reconciled
  exact reconciled.of_eq rfl rfl

@[simp] theorem Charged.sweepComplete (h : Charged t) : Charged t.sweepComplete := by
  unfold State.sweepComplete
  split
  · exact h.reconcile.setPhase _
  · exact h.of_eq rfl rfl
  · exact h

@[simp] theorem Charged.advanceSweep (h : Charged t) : Charged t.advanceSweep := by
  unfold State.advanceSweep
  split
  · exact h.of_eq rfl rfl
  · exact h.of_eq rfl rfl

@[simp] theorem Charged.takeColumn (h : Charged t) : Charged t.takeColumn := by
  unfold State.takeColumn
  dsimp only
  split
  · exact h.setOwed ..
  · exact h.readColumn _

@[simp] theorem Charged.sweepStep (h : Charged t) : Charged t.sweepStep := by
  unfold State.sweepStep
  dsimp only
  split
  · exact h
  · split
    · exact h.takeColumn.advanceSweep
    · exact h.takeColumn.advanceSweep.sweepComplete

@[simp] theorem Charged.windowEnds (h : Charged t) (c : Comp) : Charged (t.windowEnds c) := by
  unfold State.windowEnds
  split
  · exact (h.setDoor ..).custodyWindowShut ..
  all_goals exact h

@[simp] theorem Charged.ajarEnds (h : Charged t) (c : Comp) : Charged (t.ajarEnds c) := by
  unfold State.ajarEnds
  split
  · exact (h.setDoor ..).post ..
  all_goals exact h

/-! ### The end of a step -/

@[simp] theorem Charged.offerPaid (h : Charged t) : Charged t.offerPaid := by
  unfold State.offerPaid
  split
  · exact h
  · split
    · exact h
    · split
      · refine Charged.request (Charged.of_eq h ?_ ?_) _
        · rfl
        · rfl
      all_goals exact h

@[simp] theorem Charged.movePass : ∀ (l : List Comp) (t : State), Charged t → Charged (State.movePass l t)
  | [], _, h => h
  | c :: l, t, h => by
    unfold State.movePass
    split
    · exact h
    · split
      · exact Charged.movePass l _ ((h.setPending _).failEntry ..)
      · split
        · exact Charged.movePass l _ h
        · exact Charged.movePass l _ ((h.setPending _).request _)

@[simp] theorem Charged.movePending (h : Charged t) : Charged t.movePending := by
  unfold State.movePending
  split
  · exact Charged.movePass _ _ h
  · exact h

@[simp] theorem Charged.tellDeparture (h : Charged t) : Charged t.tellDeparture := by
  unfold State.tellDeparture
  split
  · exact h.of_eq rfl rfl
  · exact h.of_eq rfl rfl

@[simp] theorem Charged.work (h : Charged t) (g : Signal) : Charged (t.work g) := by
  unfold State.work
  cases g with
  | departed => exact h.tellDeparture
  | feed => exact h.feedOne
  | look => exact h.lookNow
  | retire => exact h.retireNow
  | offerPaid => exact h.offerPaid
  | movePending => exact h.movePending
  | owedRead c => exact h.owedRead c
  | columnActs c => exact h.columnAfterPulse c

@[simp] theorem Charged.settle : ∀ (n : Nat) (t : State), Charged t → Charged (State.settle n t)
  | 0, _, h => h.of_eq rfl rfl
  | n + 1, t, h => by
    unfold State.settle
    split
    · exact h
    · have quiet : Charged { t with signals := [] } := h.of_eq rfl rfl
      exact Charged.settle n _ ((quiet.work _).of_eq rfl rfl)

/-- The end of a step keeps the order of the charges (log 10). -/
@[simp] theorem Charged.complete (h : Charged t) : Charged t.complete := by
  have settled := Charged.settle settleFuel t h
  unfold State.complete State.arbiterLooks
  split
  · exact (Charged.arbitrate _ _ settled).begin
  · exact settled.begin

end Sys2Proof.Machine
end

section
/-! SUPPORT. The order of the charges through every command, and the theorem that every step keeps it. A change of a
running part keeps `Charged`; a stop, a start and a crystal cycle are taken apart. -/

namespace Sys2Proof.Machine

variable {s t : State} {c : Comp} {i : ChargeSlot} {n : RecordNo}

/-! ### Frames and events -/

/-- The order of the charges lies in the charge table and, while the mains domain runs, in the consignments. -/
theorem chargesInOrder_congr (h : s.ChargesInOrder) (charges : t.charges = s.charges)
    (running : t.power.running = true → s.power.running = true ∧ t.custody.records = s.custody.records) :
    t.ChargesInOrder := by
  obtain ⟨recs, nodup, ended, -⟩ := id h
  have charge : ∀ i, t.charge i = s.charge i := fun i => congrArg (fun k : ChargeTable => k.recs.get i) charges
  refine ⟨fun i => ?_, charges ▸ nodup, fun i => ?_, fun runs => ?_⟩
  · rw [charge, charges]
    exact recs i
  · rw [charges, charge]
    exact ended i
  · obtain ⟨ran, records⟩ := running runs
    obtain ⟨-, -, -, refs⟩ := ((Charged.of_inOrder h ran).of_eq charges records).inOrder
    exact refs runs

/-- A request keeps the order when its block's change does (R202 to R204). -/
theorem ChargesInOrder.serveLate {hd : Head} {code : Byte} {carried : Role → Bool} {len : Nat}
    {late : State → List Field} {body : State → State × Answer} (h : s.ChargesInOrder)
    (hb : ∀ u, Charged u → Charged (body u).1) : (s.serveLate hd code carried len late body).ChargesInOrder := by
  unfold State.serveLate
  dsimp only
  split
  · exact h
  · rename_i running
    have order := Charged.of_inOrder h (by simpa using running)
    have taken : Charged (s.begin.frameTaken hd.port) := order.begin.onPort ..
    refine Charged.inOrder ?_
    split
    · exact taken.onPort ..
    · split
      · exact taken.onPort ..
      · split
        · exact taken.onPort ..
        · exact (hb _ taken).complete.of_eq rfl rfl

/-- An event keeps the order when its change does. -/
theorem ChargesInOrder.event {f : State → State} (h : s.ChargesInOrder) (hf : ∀ u, Charged u → Charged (f u)) :
    (s.event f).ChargesInOrder := by
  unfold State.event
  split
  · rename_i running
    exact (hf _ (Charged.of_inOrder h running).begin).complete.inOrder
  · exact h

/-- A change of one port keeps the order. -/
theorem ChargesInOrder.onPort (h : s.ChargesInOrder) (p : Fin 4) (f : PortUnit → PortUnit) :
    (s.onPort p f).ChargesInOrder := chargesInOrder_congr h rfl fun running => ⟨running, rfl⟩

variable {b : State × Answer}

theorem Charged.check (h : Charged t) (ok : Bool) (r : Reason) (hb : ok = true → Charged b.1) :
    Charged (t.check ok r b).1 := by
  unfold State.check
  split
  · rename_i pass
    exact hb pass
  · exact h

theorem Charged.unlessRestoring (h : Charged t) (hb : Charged b.1) : Charged (t.unlessRestoring b).1 := by
  unfold State.unlessRestoring
  split
  · exact h
  · exact hb

theorem Charged.guarded (h : Charged t) (hb : Charged b.1) : Charged (t.guarded b).1 := by
  refine h.unlessRestoring ?_
  unfold State.unlessUncommissioned
  split
  · exact hb
  · exact h

theorem Charged.withComp {body : Comp → State × Answer} (h : Charged t) (n : Nat) (hb : ∀ c, Charged (body c).1) :
    Charged (t.withComp n body).1 := by
  unfold State.withComp
  split
  · exact h
  · exact hb _

theorem Charged.withSlot {body : RingSlot → State × Answer} (h : Charged t) (n : Nat) (hb : ∀ i, Charged (body i).1) :
    Charged (t.withSlot n body).1 := by
  unfold State.withSlot
  split
  · exact h
  · exact hb _

/-- A charge that a request names is the one in its slot (R126). -/
theorem Charged.withCharge {body : ChargeSlot → ChargeRecord → State × Answer} (h : Charged t) (slot g : Nat)
    (hb : ∀ i, Charged (body i (t.charge i)).1) : Charged (t.withCharge slot g body).1 := by
  unfold State.withCharge
  split
  · exact h
  · split
    · exact h
    · rename_i named
      rw [← chargeNamed_charge named]
      exact hb _

/-- A code that a request gives leads to the consignment in its record (R10). -/
theorem Charged.withCode {body : State → RecordNo → Consignment → State × Answer} (h : Charged t) (code : Text)
    (hb : ∀ u r k, Charged u → u.record r = some k → Charged (body u r k).1) : Charged (t.withCode code body).1 := by
  unfold State.withCode
  split
  · exact h
  · split
    · exact h
    · split
      · exact h.of_eq rfl rfl
      · rename_i found
        refine hb _ _ _ (h.of_eq rfl rfl) ?_
        obtain ⟨m, -, hm⟩ := Option.bind_eq_some_iff.mp found
        obtain ⟨k, hk, same⟩ := Option.map_eq_some_iff.mp hm
        cases same
        exact hk

/-! ### Charges -/

theorem Charged.voidCharge (h : Charged t) (cause : EndCause) (live : (t.charge i).state.isLive = true) :
    Charged (t.voidCharge i cause).1 := by
  unfold State.voidCharge
  dsimp only
  split
  · exact (h.endVoid cause live).dropReserved _
  · exact h.endVoid cause live

theorem Charged.voidAll : ∀ (l : List ChargeSlot) (t : State), Charged t → Charged (State.voidAll l t).1
  | [], _, h => h
  | i :: l, t, h => by
    unfold State.voidAll
    split
    · rename_i opened
      exact Charged.voidAll l _ (h.voidCharge _ ((isLive_iff _).mpr (.inl opened)))
    · exact Charged.voidAll l _ h

@[simp] theorem Charged.dropForCharge (h : Charged t) (r : ChargeRecord) (d : Detail) :
    Charged (t.dropForCharge r d) := by
  unfold State.dropForCharge
  split
  · exact (h.dropReserved _).post ..
  · exact h

@[simp] theorem Charged.expireCharge (h : Charged t) (i : ChargeSlot) : Charged (t.expireCharge i) := by
  unfold State.expireCharge
  split
  · rename_i live
    exact ((h.endCharge live rfl (by simp) (by simp)).postBoth ..).dropForCharge ..
  · exact h

/-! ### The console -/

theorem Charged.resetRole (h : Charged t) (r : Option Role) : Charged (t.resetRole r).1 := by
  unfold State.resetRole
  split
  · exact Charged.voidAll _ _ h
  · exact h.engineStop
  all_goals exact h

theorem ChargesInOrder.portReset (h : s.ChargesInOrder) (hd : Head) (x : Sense) :
    (s.portReset hd x).ChargesInOrder := by
  unfold State.portReset
  dsimp only
  split
  · exact h
  · rename_i running
    have order := Charged.of_inOrder h (by simpa using running)
    have taken : Charged (s.begin.frameTaken hd.port) := order.begin.onPort ..
    refine Charged.inOrder ?_
    split
    · exact taken.onPort ..
    · split
      · exact taken.onPort ..
      · exact (((taken.latch x).onPort ..).resetRole _).complete.onPort ..

/-- Where a consignment's charge is not PRESENTED, the void of its OPEN one leaves it no charge (R127, R129). -/
theorem Charged.voidOpen_unnamed (h : Charged t) {k : Consignment} (hk : t.record n = some k)
    (unpaid : t.openChargeIs k .presented = false) (cause : EndCause) :
    (t.voidOpen k cause).openRefs n = none ∧ (t.voidOpen k cause).record n ≠ none := by
  have refs := openRefs_of_record hk
  cases href : k.openRef with
  | none =>
    have same : t.voidOpen k cause = t := by simp [State.voidOpen, href]
    rw [same, refs, hk]
    exact ⟨href, by simp⟩
  | some ref =>
    obtain ⟨ref_eq, live, record⟩ := h.named n ref (refs.trans href)
    have named := h.chargeNamed (refs.trans href)
    have opened : t.openChargeIs k .opened = true := by
      refine (openChargeIs_iff k _).mpr ⟨ref, _, href, named, ((isLive_iff _).mp live).resolve_right fun e => ?_⟩
      rw [(openChargeIs_iff k _).mpr ⟨ref, _, href, named, e⟩] at unpaid
      cases unpaid
    have voided : t.voidOpen k cause = t.endCharge ref.slot .void (some cause) none := by
      simp [State.voidOpen, href, opened]
    rw [voided]
    refine ⟨?_, ?_⟩
    · rw [openRefs_endCharge, if_pos ⟨record, refs.trans (href.trans (congrArg some ref_eq))⟩]
    · rw [endCharge_record_own _ _ _ record, hk]
      simp

theorem Charged.quoteOpens (h : Charged t) {k : Consignment} (hk : t.record n = some k)
    (unpaid : t.openChargeIs k .presented = false) (ev : Evaluation) : Charged (t.quoteOpens n k ev).1 := by
  have voided := h.voidOpen k .requote
  obtain ⟨unnamed, used⟩ := h.voidOpen_unnamed hk unpaid .requote
  unfold State.quoteOpens
  dsimp only
  split
  · exact h
  · rename_i taken
    exact voided.openIn _ _ (voided.slotToTake taken) used unnamed

theorem Charged.stopForConditions (h : Charged t) (k : Consignment) (ev : Evaluation) (d : Detail) :
    Charged (t.stopForConditions k ev d).1 := h.feeCondition ..

theorem Charged.quoteKnown (h : Charged t) {k : Consignment} (hk : t.record n = some k) :
    Charged (t.quoteKnown n k).1 := by
  refine h.check _ _ fun _ => h.check _ _ fun unpaid => ?_
  have evaluated := h.addSticky (t.evaluate k).raised
  have unpaid' : (t.addSticky (t.evaluate k).raised).openChargeIs k .presented = false := Bool.not_eq_true' _ ▸ unpaid
  dsimp only
  split
  · exact evaluated.stopForConditions ..
  · exact evaluated.check _ _ fun _ => evaluated.quoteOpens hk unpaid' _

theorem Charged.voidNamed (h : Charged t) (i : ChargeSlot) : Charged (t.voidNamed i (t.charge i)).1 := by
  unfold State.voidNamed
  split
  · rename_i opened
    exact h.voidCharge _ ((isLive_iff _).mpr (.inl opened))
  all_goals exact h

theorem Charged.collectClaims (h : Charged t) (n : RecordNo) (k : Consignment) : Charged (t.collectClaims n k).1 := by
  unfold State.collectClaims
  split
  · exact h
  · exact h.check _ _ fun _ => h.check _ _ fun _ =>
      Charged.foldl _ (fun _ _ hu => hu.request _) _ _ ((h.claims ..).voidOpen ..)

theorem Charged.collectKnown (h : Charged t) (n : RecordNo) (k : Consignment) : Charged (t.collectKnown n k).1 := by
  refine h.check _ _ fun _ => h.check _ _ fun _ => ?_
  have evaluated := h.addSticky (t.evaluate k).raised
  dsimp only
  split
  · exact evaluated.stopForConditions ..
  · split
    · exact evaluated
    · exact evaluated.collectClaims ..

theorem commitReturn_record (s : State) (n : RecordNo) (i : Fin 8) (c : Comp) (z : SizeClass) (ref : Option Text) :
    ∃ k, (s.commitReturn n i c z ref).record n = some k ∧ k.openRef = none := by
  obtain ⟨record, -⟩ := returnIsCommitted s n i c z ref
  exact ⟨_, record, rfl⟩

theorem Charged.returnMatched (h : Charged t) (i : Fin 8) (z : SizeClass) (ref : Option Text) :
    Charged (t.returnMatched i z ref).1 := by
  refine h.check _ _ fun _ => h.check _ _ fun _ => h.check _ _ fun _ => ?_
  split
  · rename_i c n _ free
    refine h.check _ _ fun _ => ?_
    have committed := h.commitReturn free i c z ref
    obtain ⟨k, hk, unnamed⟩ := commitReturn_record t n i c z ref
    unfold State.returnAccepted
    dsimp only
    split
    · exact committed.request _
    · split
      · exact h
      · rename_i taken
        exact committed.openIn _ _ (committed.slotToTake taken) (by simp [hk])
          ((openRefs_of_record hk).trans unnamed)
  all_goals exact h

theorem Charged.returnBegin (h : Charged t) (id : Nat) (z : Option SizeClass) (ref : Text) :
    Charged (t.returnBegin id z ref).1 := by
  unfold State.returnBegin
  split
  · exact h
  · refine h.check _ _ fun _ => ?_
    split
    · exact h.returnMatched ..
    all_goals exact h

theorem Charged.returnCancel (h : Charged t) (n : Nat) : Charged (t.returnCancel n).1 := by
  unfold State.returnCancel
  split
  · exact h
  · split
    · exact h
    · split
      · exact h
      · unfold State.returnCancelOf
        split
        · exact h
        · exact h.check _ _ fun _ => h.check _ _ fun _ => h.check _ _ fun _ =>
            ((h.withdraw _).voidOpen ..).dropReserved _

theorem Charged.releaseNamed (h : Charged t) (i : ChargeSlot) : Charged (t.releaseNamed i (t.charge i)).1 := by
  unfold State.releaseNamed
  split
  · rename_i ends
    exact h.freeSlot ends
  · exact h

/-! ### The courier and the payment module -/

theorem Charged.handSlot (h : Charged t) (i : RingSlot) : Charged (t.handSlot i) := h.putSlot ..

theorem Charged.engineResume (h : Charged t) : Charged t.engineResume.1 := by
  refine h.unlessRestoring ?_
  split
  · exact (h.setEngine _).emit _
  all_goals exact h

theorem Charged.fetchNamed (h : Charged t) (i : ChargeSlot) : Charged (t.fetchNamed i (t.charge i)).1 := by
  unfold State.fetchNamed
  split
  · rename_i opened
    exact h.present opened
  all_goals exact h

theorem Charged.fetchCharge (h : Charged t) (ref : Option (Nat × Nat)) : Charged (t.fetchCharge ref).1 := by
  refine h.unlessRestoring ?_
  split
  · exact h.withCharge _ _ h.fetchNamed
  · split
    · exact h.fetchNamed _
    · exact h

theorem Charged.paidReleases (h : Charged t) (n : RecordNo) : Charged (t.paidReleases n) := by
  unfold State.paidReleases
  split
  · exact h.releasePaidReturn ..
  · exact h

theorem Charged.settleCharge (h : Charged t) (r : ChargeRecord) (live : (t.charge i).state.isLive = true) :
    Charged (t.settleCharge i r).1 := by
  have paid := h.endCharge (paid := some t.clock.minute) live (st := .paid) (cause := none) rfl (by simp) (by simp)
  unfold State.settleCharge
  refine Charged.post ?_ ..
  split
  · refine Charged.paidReleases (paid.updRecord _ _ ?_) _
    exact fun _ => rfl
  · exact paid

theorem Charged.declineCharge (h : Charged t) (r : ChargeRecord) (k : EndCause) (reverse : Bool)
    (live : (t.charge i).state.isLive = true) : Charged (t.declineCharge i r k reverse).1 :=
  ((h.endCharge live rfl (by simp) (by simp)).post ..).dropForCharge ..

theorem Charged.lateResult (h : Charged t) (i : ChargeSlot) (r : ChargeRecord) (o : CardOutcome) (x y : Nat) :
    Charged (t.lateResult i r o x y).1 := by
  unfold State.lateResult
  dsimp only
  exact h.postBoth ..

theorem Charged.resultFor (h : Charged t) (o : CardOutcome) (x y : Nat) (i : ChargeSlot) :
    Charged (t.resultFor o x y i (t.charge i)).1 := by
  unfold State.resultFor
  split
  · rename_i presented
    have live := (isLive_iff _).mpr (.inr presented)
    split
    · split
      · exact h.settleCharge _ live
      · exact h.declineCharge _ _ _ live
    · exact h.declineCharge _ _ _ live
  · exact h
  · exact h
  · exact h
  all_goals exact h.lateResult ..

theorem Charged.paymentResult (h : Charged t) (slot gen : Nat) (o : Option CardOutcome) (x y : Nat) :
    Charged (t.paymentResult slot gen o x y).1 := by
  unfold State.paymentResult
  split
  · split
    · exact h
    · split
      · exact h
      · rename_i named
        rw [← chargeNamed_charge named]
        exact h.resultFor ..
  · exact h

/-! ### Operations -/

theorem Charged.fitComp (h : Charged t) (c : Comp) (f : Bool) (z : SizeClass) (u : UseClass) :
    Charged (t.fitComp c f z u) := by
  unfold State.fitComp
  dsimp only
  split
  · exact h.setEntry ..
  · exact (h.setEntry ..).setDoor ..

theorem Charged.setCompartment (h : Charged t) (n : Nat) (f : Option Bool) (z : Option SizeClass)
    (u : Option UseClass) : Charged (t.setCompartment n f z u).1 := by
  refine h.unlessRestoring ?_
  split
  · exact h.check _ _ fun _ => h.fitComp ..
  · exact h

theorem Charged.withholdReview (h : Charged t) (c : Comp) : Charged (t.withholdReview c).1 := by
  unfold State.withholdReview
  split
  · exact h
  · split
    · exact h.enterReview ..
    · exact h.enterReview ..
    · exact h.enterReview ..
    · exact h.addCause ..
    all_goals exact h

theorem Charged.withholdOos (h : Charged t) (c : Comp) : Charged (t.withholdOos c).1 := by
  unfold State.withholdOos
  split
  · exact h.outOfService ..
  · exact h.outOfService ..
  · exact h.outOfService ..
  · exact h.outOfService ..
  · exact h.outOfService ..
  all_goals exact h

theorem Charged.resolve (h : Charged t) (ok : Bool) (n : Nat) {act : Comp → State} (ha : ∀ c, Charged (act c)) :
    Charged (t.resolve ok n act).1 := by
  refine h.guarded (h.check _ _ fun _ => h.withComp _ fun c => ?_)
  split
  · exact h
  · split
    · exact ha c
    all_goals exact h

theorem Charged.restore (h : Charged t) (c : Comp) : Charged (t.restore c) := (h.updHolding ..).toRest c

theorem Charged.waive (h : Charged t) (c : Comp) : Charged (t.waive c) := by
  unfold State.waive
  split
  · exact (h.updRecord _ (fun k => { k with waived := true }) fun _ => rfl).restore c
  · exact h.restore c

theorem Charged.returnToService (h : Charged t) (c : Comp) : Charged (t.returnToService c).1 := by
  refine h.check _ _ fun _ => h.check _ _ fun _ => h.check _ _ fun _ => ?_
  show Charged (t.returned c)
  unfold State.returned
  split
  · exact h.setEntry ..
  · exact (h.restore c).of_eq rfl rfl

theorem Charged.amendHolding (h : Charged t) (sel : BitVec 16) (v : AmendFields) (c : Comp) :
    Charged (t.amendHolding sel v c).1 := by
  unfold State.amendHolding
  split
  · exact h
  · rename_i x _
    refine h.check _ _ fun _ => ?_
    have written := (h.updHolding c fun y => y.amended sel v).updRecord x.record
      (fun k => { k with cod := pick sel 4 (clampTop maxAmount v.cod) k.cod }) fun _ => rfl
    show Charged (t.amended c x sel v)
    unfold State.amended State.restMoves
    split
    · exact written.setCustody ..
    · exact written.setCustody ..
    · exact written

theorem Charged.setTariff (h : Charged t) (target : Nat) (sel : BitVec 16) (v : ClassValues) (b : BankValues) :
    Charged (t.setTariff target sel v b).1 := by
  unfold State.setTariff
  split
  · exact h.check _ _ fun _ => h.of_eq rfl rfl
  · split
    · exact h.check _ _ fun _ => h.check _ _ fun _ => h.of_eq rfl rfl
    · exact h

theorem Charged.serviceRelease (h : Charged t) (b : Bool) (c : Comp) : Charged (t.serviceRelease b c).1 := by
  refine h.check _ _ fun _ => h.check _ _ fun _ => ?_
  split
  · exact h
  · refine h.check _ _ fun _ => ?_
    have claimed : Charged (t.clearanceClaim c b) := by
      unfold State.clearanceClaim
      split
      · exact h.claim ..
      · exact h
    unfold State.serviceTaken
    split
    · exact claimed.request _
    · split
      · exact claimed.setPending _
      · exact h

theorem Charged.withdrawService (h : Charged t) (c : Comp) : Charged (t.withdrawService c).1 := by
  refine h.guarded ?_
  split
  · show Charged (t.pendingWithdrawn c)
    unfold State.pendingWithdrawn
    dsimp only
    split
    · exact (h.setPending _).toRest c
    · exact h.setPending _
  · split
    · exact h
    · exact h

theorem Charged.columnRestore (h : Charged t) (n : Nat) : Charged (t.columnRestore n).1 := by
  unfold State.columnRestore
  split
  · exact h
  · refine h.check _ _ fun _ => h.check _ _ fun _ => ?_
    split
    · exact h
    · exact h.check _ _ fun _ => h.request _

theorem Charged.pulseEnds (h : Charged t) (c : Column) (p : EntryClass → Bool) (act : State → Entry → State)
    (ha : ∀ e, Charged (act t e)) : Charged (t.pulseEnds c p act) := by
  unfold State.pulseEnds
  split
  · exact h
  · split
    · exact ha _
    · exact h

/-! ### Power and the clock -/

/-- A charge table as a start leaves it is in order while no consignment names a charge (R125, R143). -/
theorem Charged.started_table {gens : Vector Nat 8} (charges : t.charges = ChargeTable.started gens)
    (bound : ∀ i, gens.get i < 256) (unnamed : ∀ n, t.openRefs n = none) : Charged t := by
  have blank : ∀ i, t.charge i = ChargeRecord.blank := fun i => by
    unfold State.charge
    rw [charges]
    exact Vector.getElem_replicate ..
  refine ⟨fun i => ?_, fun i => charges ▸ bound i, charges ▸ List.nodup_nil, fun i => ?_, fun n ref href => ?_,
    fun i live => ?_⟩
  · rw [blank]
    decide
  · rw [blank, charges]
    simp [ChargeTable.started, ChargeRecord.blank, ChargeState.isEnded]
  · rw [unnamed] at href
    cases href
  · rw [blank] at live
    cases live

/-- Every open charge reference is cleared (R143). -/
theorem forgetCharges_openRefs (s : State) (n : RecordNo) : s.forgetCharges.openRefs n = none := by
  have record : s.forgetCharges.record n = (s.record n).map fun x => { x with openRef := none } := by
    show (s.custody.records.map fun k => k.map fun x => { x with openRef := none })[n.val] = _
    rw [Vector.getElem_map]
    rfl
  unfold State.openRefs
  rw [record]
  cases s.record n <;> rfl

theorem ChargesInOrder.tryStop (h : s.ChargesInOrder) : s.tryStop.ChargesInOrder := by
  unfold State.tryStop
  split
  · have blank : Charged s.stopped.forgetCharges :=
      Charged.started_table rfl (fun i => (h.1 i).2) (forgetCharges_openRefs _)
    exact chargesInOrder_congr (t := s.stopped) blank.inOrder rfl fun running => nomatch running
  · exact h

theorem ChargesInOrder.tryStart (h : s.ChargesInOrder) (x : Straps) : (s.tryStart x).ChargesInOrder := by
  unfold State.tryStart
  split
  · refine Charged.inOrder ?_
    unfold State.start
    dsimp only
    split
    · exact Charged.started_table rfl (fun i => (h.1 i).2) (forgetCharges_openRefs _)
    · refine Charged.started_table rfl (fun i => ?_) (forgetCharges_openRefs _)
      rw [show (Vector.replicate 8 0).get i = 0 from Vector.getElem_replicate ..]
      decide
  · exact h

theorem ChargesInOrder.pfailNegated (h : s.ChargesInOrder) (x : Straps) : (s.pfailNegated x).ChargesInOrder := by
  have negated : (s.setPfail false).ChargesInOrder := chargesInOrder_congr h rfl fun running => ⟨running, rfl⟩
  unfold State.pfailNegated
  split
  · exact ChargesInOrder.event negated fun u hu => hu.markArbiter
  · exact ChargesInOrder.tryStart negated x

/-- The marks of the power domains but for RUNNING are no part of the order. -/
theorem ChargesInOrder.marks (h : s.ChargesInOrder) (p : Power) (running : p.running = s.power.running) :
    ({ s with power := p } : State).ChargesInOrder :=
  chargesInOrder_congr h rfl fun runs => ⟨running.symm.trans runs, rfl⟩

theorem ChargesInOrder.mainsReturns (h : s.ChargesInOrder) (x : Straps) : (s.mainsReturns x).ChargesInOrder := by
  unfold State.mainsReturns
  split
  · exact h
  · refine ChargesInOrder.tryStart (ChargesInOrder.marks h _ ?_) x
    rfl

theorem ChargesInOrder.resetReleased (h : s.ChargesInOrder) (x : Straps) : (s.resetReleased x).ChargesInOrder := by
  unfold State.resetReleased
  split
  · refine ChargesInOrder.tryStart (ChargesInOrder.marks h _ ?_) x
    rfl
  · exact h

theorem ChargesInOrder.custodyTicks (h : s.ChargesInOrder) : s.custodyTicks.ChargesInOrder := by
  have minute : ∀ k, ({ s with clock := k } : State).ChargesInOrder :=
    fun _ => chargesInOrder_congr h rfl fun running => ⟨running, rfl⟩
  unfold State.custodyTicks
  dsimp only
  split
  · split
    · rename_i running
      refine Charged.inOrder (Charged.complete (Charged.overstayScan (Charged.begin ?_)))
      exact Charged.of_inOrder (minute _) running
    · exact minute _
  · exact minute _

/-- A running timer does not end by a cycle, and one that stands does not start (log 4). -/
theorem down_eq_zero (left : Nat) : down left = 0 ↔ left = 0 := by
  unfold down
  split <;> omega

theorem ChargeRecord.InOrder.cycle {r : ChargeRecord} (h : r.InOrder) : r.cycle.InOrder := by
  obtain ⟨free, record, expiry, minute, cause⟩ := h
  refine ⟨fun hf => ?_, record, ?_, minute, cause⟩
  · rw [free hf]
    rfl
  · exact expiry.trans (not_congr (down_eq_zero r.expiry).symm)

/-- A cycle changes no charge but for its expiry time (R138). -/
theorem mainsCycle_charge (s : State) (i : ChargeSlot) : s.mainsCycle.charge i = (s.charge i).cycle := by
  show s.charges.cycle.recs[i.val] = _
  have recs : s.charges.cycle.recs = s.charges.recs.map ChargeRecord.cycle := by
    unfold ChargeTable.cycle
    dsimp only
    split <;> rfl
  rw [recs, Vector.getElem_map]
  rfl

theorem Charged.mainsCycle (h : Charged s) : Charged s.mainsCycle := by
  have table : s.mainsCycle.charges.gens = s.charges.gens ∧ s.mainsCycle.charges.ended = s.charges.ended := by
    show s.charges.cycle.gens = _ ∧ s.charges.cycle.ended = _
    unfold ChargeTable.cycle
    dsimp only
    split <;> exact ⟨rfl, rfl⟩
  obtain ⟨gens, ended⟩ := table
  have refOf : ∀ i, s.mainsCycle.refOf i = s.refOf i := fun i => by
    unfold State.refOf
    rw [gens]
  refine ⟨fun i => ?_, fun i => gens ▸ h.gens i, ended ▸ h.nodup, fun i => ?_, fun n ref href => ?_, fun i live => ?_⟩
  · rw [mainsCycle_charge]
    exact (h.recs i).cycle
  · rw [ended, mainsCycle_charge]
    exact h.ended i
  · rw [refOf, mainsCycle_charge]
    exact h.named n ref href
  · rw [mainsCycle_charge] at live ⊢
    rw [refOf]
    exact h.live i live

theorem ChargesInOrder.tick (h : s.ChargesInOrder) : s.tick.ChargesInOrder := by
  unfold State.tick
  dsimp only
  split
  · rename_i running
    have order : Charged { s with clock := s.clock.cycle } := (Charged.of_inOrder h running).of_eq rfl rfl
    exact order.mainsCycle.inOrder
  · exact chargesInOrder_congr h rfl fun running => ⟨running, rfl⟩

/-! ### Every command -/

/-- Every command keeps the charges in order. -/
theorem ChargesInOrder.exec (h : s.ChargesInOrder) (i : Instr) : ∃ t, exec i s = .next t ∧ t.ChargesInOrder := by
  have same : ∀ t : State, t.charges = s.charges → t.custody.records = s.custody.records →
      t.power.running = s.power.running → t.ChargesInOrder :=
    fun t charges records running => chargesInOrder_congr h charges fun e => ⟨running.symm.trans e, records⟩
  cases i with
  | readNotice hd =>
    refine ⟨_, rfl, ChargesInOrder.serveLate h fun u hu => ?_⟩
    unfold State.readNotice
    split
    · exact hu.of_eq rfl rfl
    · exact hu.of_eq rfl rfl
  | portReset hd x => exact ⟨_, rfl, ChargesInOrder.portReset h ..⟩
  | lookup hd code =>
    exact ⟨_, rfl, ChargesInOrder.serveLate h fun u hu => hu.guarded (hu.withCode _ fun _ _ _ hv _ => hv.addSticky _)⟩
  | quote hd code =>
    exact ⟨_, rfl, ChargesInOrder.serveLate h fun u hu =>
      hu.guarded (hu.withCode _ fun _ _ _ hv hk => hv.quoteKnown hk)⟩
  | voidQuote hd i g =>
    exact ⟨_, rfl, ChargesInOrder.serveLate h fun u hu => hu.guarded (hu.withCharge _ _ hu.voidNamed)⟩
  | collect hd code =>
    exact ⟨_, rfl, ChargesInOrder.serveLate h fun u hu =>
      hu.guarded (hu.withCode _ fun _ _ _ hv _ => hv.collectKnown ..)⟩
  | returnBegin hd n z ref =>
    exact ⟨_, rfl, ChargesInOrder.serveLate h fun u hu => hu.guarded (hu.returnBegin ..)⟩
  | returnCancel hd n x =>
    exact ⟨_, rfl, ChargesInOrder.serveLate h fun u hu => (hu.latch x).guarded ((hu.latch x).returnCancel n)⟩
  | releaseCharge hd i g =>
    exact ⟨_, rfl, ChargesInOrder.serveLate h fun u hu => hu.withCharge _ _ hu.releaseNamed⟩
  | slotWrite hd i f =>
    refine ⟨_, rfl, ChargesInOrder.serveLate h fun u hu => hu.withSlot _ fun j => ?_⟩
    unfold State.slotWrite
    split
    · exact hu
    · exact hu.check _ _ fun _ => hu.putSlot ..
  | slotRead hd i => exact ⟨_, rfl, ChargesInOrder.serveLate h fun u hu => hu.withSlot _ fun _ => hu⟩
  | handOver hd i n =>
    exact ⟨_, rfl, ChargesInOrder.serveLate h fun u hu => hu.withSlot _ fun j => hu.check _ _ fun _ =>
      hu.check _ _ fun _ => (Charged.foldl State.handSlot (fun _ _ hv => hv.handSlot _) _ _ hu).emit _⟩
  | start hd i =>
    exact ⟨_, rfl, ChargesInOrder.serveLate h fun u hu => hu.withSlot _ fun j => hu.guarded (hu.check _ _ fun _ =>
      ((hu.setPointer j).setEngine _).emit _)⟩
  | resume hd => exact ⟨_, rfl, ChargesInOrder.serveLate h fun u hu => hu.engineResume⟩
  | stop hd x => exact ⟨_, rfl, ChargesInOrder.serveLate h fun u hu => (hu.latch x).engineStop⟩
  | fetchCharge hd ref => exact ⟨_, rfl, ChargesInOrder.serveLate h fun u hu => hu.fetchCharge ref⟩
  | paymentResult hd i g o x y => exact ⟨_, rfl, ChargesInOrder.serveLate h fun u hu => hu.paymentResult ..⟩
  | setCompartment hd n f z u => exact ⟨_, rfl, ChargesInOrder.serveLate h fun u hu => hu.setCompartment ..⟩
  | withholdToReview hd ok n =>
    exact ⟨_, rfl, ChargesInOrder.serveLate h fun u hu =>
      hu.guarded (hu.check _ _ fun _ => hu.withComp _ hu.withholdReview)⟩
  | withholdToOutOfService hd ok n =>
    exact ⟨_, rfl, ChargesInOrder.serveLate h fun u hu =>
      hu.guarded (hu.check _ _ fun _ => hu.withComp _ hu.withholdOos)⟩
  | resolveReviewRestore hd ok n =>
    exact ⟨_, rfl, ChargesInOrder.serveLate h fun u hu => hu.resolve _ _ hu.restore⟩
  | resolveReviewWaive hd ok n => exact ⟨_, rfl, ChargesInOrder.serveLate h fun u hu => hu.resolve _ _ hu.waive⟩
  | resolveReviewRetire hd ok n =>
    exact ⟨_, rfl, ChargesInOrder.serveLate h fun u hu => hu.resolve _ _ fun c => hu.removeHolding ..⟩
  | resolveReviewWithdraw hd ok n =>
    exact ⟨_, rfl, ChargesInOrder.serveLate h fun u hu => hu.resolve _ _ fun c => hu.outOfService ..⟩
  | returnToService hd n =>
    exact ⟨_, rfl, ChargesInOrder.serveLate h fun u hu => hu.guarded (hu.withComp _ hu.returnToService)⟩
  | amendHolding hd n sel v =>
    exact ⟨_, rfl, ChargesInOrder.serveLate h fun u hu => hu.guarded (hu.withComp _ (hu.amendHolding sel v))⟩
  | setCarrier hd i sel v =>
    refine ⟨_, rfl, ChargesInOrder.serveLate h fun u hu => ?_⟩
    unfold State.withCarrier
    split
    · exact hu
    · exact hu.check _ _ fun _ => hu.check _ _ fun _ => hu.check _ _ fun _ => hu.of_eq rfl rfl
  | readCarrier hd i =>
    refine ⟨_, rfl, ChargesInOrder.serveLate h fun u hu => ?_⟩
    unfold State.withCarrier
    split
    · exact hu
    · exact hu
  | setTariff hd x sel v b => exact ⟨_, rfl, ChargesInOrder.serveLate h fun u hu => hu.setTariff ..⟩
  | readTariff hd x =>
    refine ⟨_, rfl, ChargesInOrder.serveLate h fun u hu => ?_⟩
    unfold State.readTariff
    split
    · exact hu
    · dsimp only
      split
      · exact hu
      · exact hu
  | setMasks hd x =>
    refine ⟨_, rfl, ChargesInOrder.serveLate h fun u hu => ?_⟩
    unfold State.setMasks
    split
    · exact hu
    · exact hu.of_eq rfl rfl
  | clearConditions hd x =>
    refine ⟨_, rfl, ChargesInOrder.serveLate h fun u hu => ?_⟩
    unfold State.clearConditions
    split
    · exact hu
    · exact hu.of_eq rfl rfl
  | readConditions hd => exact ⟨_, rfl, ChargesInOrder.serveLate h fun u hu => hu⟩
  | serviceRelease hd n b =>
    refine ⟨_, rfl, ChargesInOrder.serveLate h fun u hu => hu.guarded ?_⟩
    unfold State.serviceReleaseOf
    split
    · exact hu
    · exact hu.withComp _ (hu.serviceRelease _)
  | withdrawService hd n =>
    exact ⟨_, rfl, ChargesInOrder.serveLate h fun u hu => hu.withComp _ hu.withdrawService⟩
  | testPulse hd n =>
    exact ⟨_, rfl, ChargesInOrder.serveLate h fun u hu => hu.guarded (hu.withComp _ fun c => hu.check _ _ fun _ =>
      hu.check _ _ fun _ => hu.check _ _ fun _ => hu.check _ _ fun _ => hu.check _ _ fun _ => hu.request _)⟩
  | columnRestore hd n =>
    exact ⟨_, rfl, ChargesInOrder.serveLate h fun u hu => hu.guarded (hu.columnRestore n)⟩
  | setTiming hd sel v =>
    exact ⟨_, rfl, ChargesInOrder.serveLate h fun u hu =>
      hu.check _ _ fun _ => hu.check _ _ fun _ => hu.of_eq rfl rfl⟩
  | readCompartment hd n => exact ⟨_, rfl, ChargesInOrder.serveLate h fun u hu => hu.withComp _ fun _ => hu⟩
  | readConsignment hd n =>
    refine ⟨_, rfl, ChargesInOrder.serveLate h fun u hu => ?_⟩
    unfold State.readConsignment
    split
    · exact hu
    · split
      · exact hu
      · exact hu
  | readCharge hd i =>
    refine ⟨_, rfl, ChargesInOrder.serveLate h fun u hu => ?_⟩
    unfold State.readCharge
    split
    · exact hu
    · exact hu
  | readQueueQueue hd ok => exact ⟨_, rfl, ChargesInOrder.serveLate h fun u hu => hu.check _ _ fun _ => hu⟩
  | readQueueEngine hd ok => exact ⟨_, rfl, ChargesInOrder.serveLate h fun u hu => hu.check _ _ fun _ => hu⟩
  | readQueuePickup hd ok i =>
    refine ⟨_, rfl, ChargesInOrder.serveLate h fun u hu => hu.check _ _ fun _ => ?_⟩
    split
    · exact hu
    · exact hu
  | readQueueLists hd ok => exact ⟨_, rfl, ChargesInOrder.serveLate h fun u hu => hu.check _ _ fun _ => hu⟩
  | readClock hd => exact ⟨_, rfl, ChargesInOrder.serveLate h fun u hu => hu⟩
  | unknownRequestCode hd code => exact ⟨_, rfl, ChargesInOrder.serveLate h fun u hu => hu⟩
  | frameDiscarded p =>
    refine ⟨_, rfl, ?_⟩
    unfold State.discardFrame
    split
    · exact ChargesInOrder.onPort h ..
    · exact h
  | frameGapTimeout p =>
    refine ⟨_, rfl, ?_⟩
    unfold State.discardFrame
    split
    · exact ChargesInOrder.onPort h ..
    · exact h
  | responseSent p =>
    refine ⟨_, rfl, ?_⟩
    split
    · exact ChargesInOrder.onPort h ..
    · exact h
  | armingEnd col =>
    refine ⟨_, rfl, ChargesInOrder.event h fun u hu => ?_⟩
    unfold State.armingEnds
    split
    · split
      · exact hu.setColumn ..
      · exact hu
    all_goals exact hu
  | pulseGood col x =>
    exact ⟨_, rfl, ChargesInOrder.event h fun u hu => (hu.latch x).pulseEnds _ _ _ (hu.latch x).pulseGoodEnd⟩
  | pulseOpenCoil col x =>
    exact ⟨_, rfl, ChargesInOrder.event h fun u hu => (hu.latch x).pulseEnds _ _ _ (hu.latch x).pulseOpenEnd⟩
  | pulseShort col x =>
    refine ⟨_, rfl, ChargesInOrder.event h fun u hu => (hu.latch x).pulseEnds _ _ _ fun e => ?_⟩
    unfold State.shortEnd
    split
    · exact (hu.latch x).pulseShortEnd e
    · exact (hu.latch x).pulseShortEnd e
    · exact (hu.latch x).testPulseEnd ..
  | testPulseEnd col o x =>
    exact ⟨_, rfl, ChargesInOrder.event h fun u hu =>
      (hu.latch x).pulseEnds _ _ _ fun e => (hu.latch x).testPulseEnd e o⟩
  | runWindowEnd col x =>
    refine ⟨_, rfl, ChargesInOrder.event h fun u hu => ?_⟩
    unfold State.runWindowEnds
    split
    · exact (hu.latch x).disarm _
    · exact (hu.latch x).putColumn ..
    all_goals exact hu.latch x
  | recoveringEnd col =>
    refine ⟨_, rfl, ChargesInOrder.event h fun u hu => ?_⟩
    unfold State.recoveringEnds
    split
    · exact hu.setColumn ..
    all_goals exact hu
  | svcKeyOn =>
    refine ⟨_, rfl, ChargesInOrder.event h fun u hu => ?_⟩
    unfold State.keyOn
    split
    · exact hu
    · exact hu.of_eq rfl rfl
  | svcKeyOff => exact ⟨_, rfl, ChargesInOrder.event h fun u hu => hu.of_eq rfl rfl⟩
  | pfailAssert => exact ⟨_, rfl, same _ rfl rfl rfl⟩
  | pfailNegate x => exact ⟨_, rfl, ChargesInOrder.pfailNegated h x⟩
  | mainsFall => exact ⟨_, rfl, ChargesInOrder.tryStop (same _ rfl rfl rfl)⟩
  | mainsReturn x => exact ⟨_, rfl, ChargesInOrder.mainsReturns h x⟩
  | resetAssert => exact ⟨_, rfl, ChargesInOrder.tryStop (same _ rfl rfl rfl)⟩
  | resetRelease x => exact ⟨_, rfl, ChargesInOrder.resetReleased h x⟩
  | retentionLoss => exact ⟨_, rfl, same _ rfl rfl rfl⟩
  | custodyTick => exact ⟨_, rfl, ChargesInOrder.custodyTicks h⟩
  | chargeExpiry i => exact ⟨_, rfl, ChargesInOrder.event h fun u hu => hu.expireCharge i⟩
  | lockoutEnd =>
    refine ⟨_, rfl, ChargesInOrder.event h fun u hu => ?_⟩
    unfold State.lockoutEnds
    split
    · exact hu.of_eq rfl rfl
    · exact hu
  | sweepStart => exact ⟨_, rfl, ChargesInOrder.event h fun u hu => hu.of_eq rfl rfl⟩
  | sweepColumnStep x => exact ⟨_, rfl, ChargesInOrder.event h fun u hu => (hu.latch x).sweepStep⟩
  | openWindowEnd c => exact ⟨_, rfl, ChargesInOrder.event h fun u hu => hu.windowEnds c⟩
  | ajarTimerEnd c => exact ⟨_, rfl, ChargesInOrder.event h fun u hu => hu.ajarEnds c⟩

/-- Settles O59, from the order of the charges through each shared operation and each command. -/
theorem stepsKeepCharges : Obligations.StepsKeepCharges := by
  unfold Obligations.StepsKeepCharges
  intro s t h ht
  unfold step at ht
  split at ht
  · cases ht
    exact ChargesInOrder.tick h
  · rename_i c rest _
    have waiting : ({ s with pending := rest } : State).ChargesInOrder :=
      chargesInOrder_congr h rfl fun running => ⟨running, rfl⟩
    obtain ⟨u, hu, kept⟩ := ChargesInOrder.exec waiting c
    cases ht.symm.trans hu
    exact kept

end Sys2Proof.Machine
end

section
/-! SUPPORT. The requests of the console and the payment module on charges: Quote, Void Quote, Release Charge, Fetch
Charge and Payment Result (R126 to R139). -/

namespace Sys2Proof.Machine

variable {s t : State} {hd : Head} {i j : ChargeSlot} {n g : Nat} {r : ChargeRecord}

/-! ### Charge references (R126) -/

theorem chargeNamed_iff : s.chargeNamed i g = some r ↔ s.charge i = r ∧ r.state ≠ .free ∧ s.charges.gens.get i = g := by
  unfold State.chargeNamed
  dsimp only
  constructor
  · intro h
    split at h
    · rename_i named
      cases h
      exact ⟨rfl, named⟩
    · cases h
  · rintro ⟨rfl, named⟩
    exact if_pos named

theorem withCharge_named (f : ChargeSlot → ChargeRecord → State × Answer) (h : s.chargeNamed i g = some r) :
    s.withCharge i.val g f = f i r := by
  simp [State.withCharge, h]

theorem withCharge_stale (f : ChargeSlot → ChargeRecord → State × Answer) (h : s.chargeNamed i g = none) :
    s.withCharge i.val g f = s.refuses .unknown := by
  simp [State.withCharge, h]

theorem chargeSlotOf_above (h : 7 < n) : chargeSlotOf n = none := dif_neg (by omega)

theorem withCharge_above (f : ChargeSlot → ChargeRecord → State × Answer) (h : 7 < n) :
    s.withCharge n g f = s.refuses .format := by
  simp [State.withCharge, chargeSlotOf_above h]

/-- The freeing of a slot makes its references stale (R126, R131). -/
theorem freeSlot_chargeNamed (s : State) (i : ChargeSlot) (g : Nat) : (s.freeSlot i).chargeNamed i g = none := by
  have own : (s.freeSlot i).charges.recs.get i = ChargeRecord.blank := put_get_same ..
  unfold State.chargeNamed
  dsimp only
  rw [own]
  exact if_neg fun h => h.1 rfl

/-! ### Quote (R129) -/

variable {k : Consignment}

theorem voidOpen_settled (k : Consignment) (cause : EndCause) : (s.voidOpen k cause).Settled ↔ s.Settled := by
  unfold State.voidOpen
  split
  · split
    · exact endCharge_settled ..
    · exact Iff.rfl
  · exact Iff.rfl

/-- A Quote whose charge finds a slot opens it there (R128, R129). -/
theorem quoteOpens_slot {m : RecordNo} (ev : Evaluation) (h : (s.voidOpen k .requote).slotToTake = some i) :
    s.quoteOpens m k ev =
      ((s.voidOpen k .requote).openIn i m ev.dueO ev.dueK,
        accepted [.u8 i.val, .u8 (((s.voidOpen k .requote).openIn i m ev.dueO ev.dueK).charges.gens.get i),
          .u32 ev.dueO, .u32 ev.dueK, .u32 ev.total, .u32 s.clock.minute, .conds ev.raised]) := by
  simp [State.quoteOpens, h]

theorem quoteOpensACharge_known : Claims.QuoteOpensACharge := by
  intro hd text n m k i s frame service parsed unlocked found record hc hp ev hu due s1 slot s2
  have known : KnownCode hd text m k s := ⟨frame, service, ⟨n, parsed, found⟩, unlocked, record⟩
  have quiet : s2.Settled := (voidOpen_settled (s := s.knownAttempt.addSticky ev.raised) k .requote).mpr frame.1
  have own := openIn_charge_same s1 i m ev.dueO ev.dueK
  refine ⟨congrArg _ (known.answered quiet ((quoteKnown_attempt _ hc hp).trans ?_)), ?_⟩
  · have taken : (((s.knownAttempt.addSticky ev.raised).frameTaken hd.port).voidOpen k .requote).slotToTake = some i := by
      rw [voidOpen_frameTaken]
      exact slot
    rw [if_neg (Bool.eq_false_iff.mp hu), check_passes _ _ (bne_iff_ne.mpr due), quoteOpens_slot _ taken,
      voidOpen_frameTaken]
    rfl
  · rw [own]
    refine ⟨rfl, rfl, rfl, rfl, ?_⟩
    rw [openIn_gens, put_get_same]
    rfl

theorem openingAChargeWrites : Claims.OpeningAChargeWrites :=
  fun s i n o k => ⟨openIn_charge_same s i n o k, fun _ => openIn_charge_other s n o k, rfl, rfl,
    openIn_record_same s i n o k, fun _ => openIn_record_other s i o k⟩

/-- Settles O14, from the answer to a known code and what an opening writes. -/
theorem quoteOpensACharge : Obligations.QuoteOpensACharge := ⟨quoteOpensACharge_known, openingAChargeWrites⟩

/-! ### Void Quote (R130) -/

/-- The reservation that a voided charge drops is the one that waits on it (R45, R130). -/
theorem voidCharge_dropped (s : State) (i : ChargeSlot) (cause : EndCause) :
    (s.voidCharge i cause).2 = (s.charge i).record.bind s.waitingReturn := by
  cases waits : (s.charge i).record.bind s.waitingReturn with
  | some c => rw [voidCharge_some cause waits]
  | none => rw [voidCharge_none cause waits]

/-- Settles O16, by the state of the named charge. -/
theorem voidQuoteByState : Obligations.VoidQuoteByState := by
  unfold Obligations.VoidQuoteByState
  intro hd i g s frame service
  have served : ∀ {slot : Nat} {t : State} {a : Answer},
      (s.frameTaken hd.port).withCharge slot g (s.frameTaken hd.port).voidNamed = (t, a) →
      exec (.voidQuote hd slot g) s = .next (t.complete.respond hd 0x12#8 a) := fun hb =>
    congrArg _ (serve_completes frame rfl ((guarded_passes (s := s.frameTaken hd.port) service).trans hb))
  have quiet : (s.frameTaken hd.port).complete = s.frameTaken hd.port :=
    complete_settled_id (s := s.frameTaken hd.port) frame.1
  have answered : ∀ {slot : Nat} {a : Answer},
      (s.frameTaken hd.port).withCharge slot g (s.frameTaken hd.port).voidNamed = (s.frameTaken hd.port, a) →
      exec (.voidQuote hd slot g) s = .next ((s.frameTaken hd.port).respond hd 0x12#8 a) := fun hb => by
    rw [served hb, quiet]
  refine ⟨fun r named => ?_, fun stale => answered (withCharge_stale (s := s.frameTaken hd.port) _ stale),
    fun n above => answered (withCharge_above _ above)⟩
  have body := withCharge_named (s := s.frameTaken hd.port) (s.frameTaken hd.port).voidNamed named
  refine ⟨fun st => ?_, fun st => answered (body.trans ?_), fun st => answered (body.trans ?_), fun st =>
    answered (body.trans ?_)⟩
  · have dropped := voidCharge_dropped (s.frameTaken hd.port) i .voidQuote
    rw [chargeNamed_charge (s := s.frameTaken hd.port) named] at dropped
    rw [served (body.trans (by simp only [State.voidNamed, st, dropped]; rfl))]
    rfl
  · simp only [State.voidNamed, st]
    rfl
  · simp only [State.voidNamed, st]
  · unfold State.voidNamed
    rcases st with st | st | st <;> rw [st] <;> rfl

/-! ### Release Charge (R131) -/

/-- Settles O17, by whether the named charge has ended. -/
theorem releaseChargeFreesTheSlot : Obligations.ReleaseChargeFreesTheSlot := by
  unfold Obligations.ReleaseChargeFreesTheSlot
  intro hd i g s frame
  refine ⟨fun r named ends => ⟨congrArg _ (serve_done (t := s.freeSlot i) frame rfl frame.1
      ((withCharge_named (s := s.frameTaken hd.port) _ named).trans (if_pos ends))),
      ?_, rfl, rfl, fun j hj => put_get_other _ _ _ _ hj, freeSlot_chargeNamed s i g⟩,
    fun r named live => congrArg _ (serve_refuses frame rfl frame.1
      ((withCharge_named (s := s.frameTaken hd.port) _ named).trans (if_neg fun ends => ?_))),
    fun stale => congrArg _ (serve_refuses frame rfl frame.1 (withCharge_stale (s := s.frameTaken hd.port) _ stale)),
    fun n above => congrArg _ (serve_refuses frame rfl frame.1 (withCharge_above _ above))⟩
  · show ((put s.charges.recs i ChargeRecord.blank).get i).state = .free
    rw [put_get_same]
    rfl
  · rw [isLive_of_isEnded ends] at live
    cases live

end Sys2Proof.Machine
end

section
/-! SUPPORT. Fetch Charge: the charge that it takes, named and unnamed, and what it answers with (R126, R132). -/

namespace Sys2Proof.Machine

variable {s t : State} {hd : Head} {i j : ChargeSlot} {n g : Nat} {r : ChargeRecord}

/-! ### The charge that the unnamed request takes (R132) -/

/-- The order in which the unnamed request takes OPEN charges: the smaller creation second, and among equals the lower
slot. -/
def State.takenBefore (s : State) (i j : ChargeSlot) : Prop :=
  (s.charge i).creation < (s.charge j).creation ∨ ((s.charge i).creation = (s.charge j).creation ∧ i ≤ j)

theorem takenBefore_refl (s : State) (i : ChargeSlot) : s.takenBefore i i := .inr ⟨rfl, le_refl i⟩

theorem takenBefore_antisymm (a : s.takenBefore i j) (b : s.takenBefore j i) : i = j := by
  rcases a with a | ⟨a, low⟩
  · rcases b with b | ⟨b, -⟩ <;> omega
  · rcases b with b | ⟨-, high⟩
    · omega
    · exact le_antisymm low high

/-- The first of the OPEN charges of a list of slots, or none where the list has none. -/
def State.IsOldest (s : State) (l : List ChargeSlot) : Option ChargeSlot → Prop
  | none => ∀ j ∈ l, (s.charge j).state ≠ .opened
  | some i => i ∈ l ∧ (s.charge i).state = .opened ∧ ∀ j ∈ l, (s.charge j).state = .opened → s.takenBefore i j

/-- One slot more, of a higher number than those looked at. -/
def State.olderOf (s : State) (best : Option ChargeSlot) (i : ChargeSlot) : Option ChargeSlot :=
  if (s.charge i).state = .opened then
    match best with
    | none => some i
    | some j => if (s.charge i).creation < (s.charge j).creation then some i else some j
  else best

theorem oldestOpen_eq (s : State) : s.oldestOpen = (List.finRange 8).foldl s.olderOf none := rfl

/-- The look at one slot more keeps the first of those looked at. -/
theorem State.IsOldest.snoc {l : List ChargeSlot} {best : Option ChargeSlot} (h : s.IsOldest l best)
    (above : ∀ j ∈ l, j < i) : s.IsOldest (l ++ [i]) (s.olderOf best i) := by
  unfold State.olderOf
  split
  · rename_i opened
    cases best with
    | none =>
      refine ⟨by simp, opened, fun j hj open_j => ?_⟩
      rcases List.mem_append.mp hj with hj | hj
      · exact absurd open_j (h j hj)
      · rw [List.mem_singleton.mp hj]
        exact takenBefore_refl s i
    | some m =>
      obtain ⟨mem, open_m, first⟩ := h
      dsimp only
      split
      · rename_i newer
        refine ⟨by simp, opened, fun j hj open_j => ?_⟩
        rcases List.mem_append.mp hj with hj | hj
        · have before := first j hj open_j
          unfold State.takenBefore at before ⊢
          omega
        · rw [List.mem_singleton.mp hj]
          exact takenBefore_refl s i
      · rename_i older
        refine ⟨List.mem_append_left _ mem, open_m, fun j hj open_j => ?_⟩
        rcases List.mem_append.mp hj with hj | hj
        · exact first j hj open_j
        · rw [List.mem_singleton.mp hj]
          exact (Nat.lt_or_eq_of_le (Nat.not_lt.mp older)).imp_right fun same => ⟨same, (above m mem).le⟩
  · rename_i closed
    cases best with
    | none =>
      intro j hj
      rcases List.mem_append.mp hj with hj | hj
      · exact h j hj
      · exact List.mem_singleton.mp hj ▸ closed
    | some m =>
      obtain ⟨mem, open_m, first⟩ := h
      refine ⟨List.mem_append_left _ mem, open_m, fun j hj open_j => ?_⟩
      rcases List.mem_append.mp hj with hj | hj
      · exact first j hj open_j
      · exact absurd (List.mem_singleton.mp hj ▸ open_j) closed

theorem isOldest_foldl (l : List ChargeSlot) (sorted : l.Pairwise (· < ·)) :
    s.IsOldest l (l.foldl s.olderOf none) := by
  induction l using List.reverseRecOn with
  | nil => exact fun j hj => absurd hj List.not_mem_nil
  | append_singleton l i ih =>
    obtain ⟨before, -, above⟩ := List.pairwise_append.mp sorted
    rw [List.foldl_append]
    exact (ih before).snoc fun j hj => above j hj i (by simp)

theorem oldestOpen_isOldest (s : State) : s.IsOldest (List.finRange 8) s.oldestOpen := by
  rw [oldestOpen_eq]
  exact isOldest_foldl _ (List.pairwise_lt_finRange 8)

theorem oldestOpen_eq_none : s.oldestOpen = none ↔ ∀ j, (s.charge j).state ≠ .opened := by
  have oldest := oldestOpen_isOldest s
  constructor
  · intro h j
    rw [h] at oldest
    exact oldest j (List.mem_finRange j)
  · intro h
    cases found : s.oldestOpen with
    | none => rfl
    | some i =>
      rw [found] at oldest
      exact absurd oldest.2.1 (h i)

theorem oldestOpen_eq_some : s.oldestOpen = some i ↔
    (s.charge i).state = .opened ∧ ∀ j, (s.charge j).state = .opened → s.takenBefore i j := by
  have oldest := oldestOpen_isOldest s
  constructor
  · intro h
    rw [h] at oldest
    obtain ⟨-, opened, first⟩ := oldest
    exact ⟨opened, fun j => first j (List.mem_finRange j)⟩
  · rintro ⟨opened, first⟩
    cases found : s.oldestOpen with
    | none => exact absurd opened (oldestOpen_eq_none.mp found i)
    | some m =>
      rw [found] at oldest
      obtain ⟨-, open_m, first_m⟩ := oldest
      rw [takenBefore_antisymm (first_m i (List.mem_finRange i) opened) (first m open_m)]

/-! ### The answer -/

theorem fetchedCharge : Claims.FetchedCharge := by
  intro s i r head
  refine ⟨fun n k hn hk => ⟨fun x hx => ?_, fun hx => ?_⟩, fun g => chargeNamed_iff, oldestOpen_eq_some,
    oldestOpen_eq_none⟩
  · simp only [State.fetched, State.chargeForm, hn, hk, Option.bind_some, hx]
    rfl
  · simp only [State.fetched, State.chargeForm, hn, hk, Option.bind_some, hx]
    rfl

/-! ### The request -/

theorem unlessRestoring_passes (b : State × Answer) (h : s.power.restoring = false) : s.unlessRestoring b = b := by
  simp [State.unlessRestoring, h]

theorem fetchNamed_opened (h : r.state = .opened) :
    s.fetchNamed i r = (s.putCharge i { r with state := .presented }, s.fetched i r) := by
  simp [State.fetchNamed, h]

theorem fetchNamed_presented (h : r.state = .presented) : s.fetchNamed i r = (s, s.fetched i r) := by
  simp [State.fetchNamed, h]

theorem fetchNamed_ended (h : r.state.isEnded = true) : s.fetchNamed i r = s.refuseLate r.state := by
  unfold State.fetchNamed
  revert h
  cases r.state <;> simp [ChargeState.isEnded]

theorem fetchChargePresentsTheCharge_named : Claims.FetchChargePresentsTheCharge := by
  intro hd i g r s frame up
  have answered : ∀ {ref : Option (Nat × Nat)} {t : State} {a : Answer}, t.Settled →
      (s.frameTaken hd.port).fetchCharge ref = (t, a) →
      exec (.fetchCharge hd ref) s = .next (t.respond hd 0x30#8 a) :=
    fun ht hb => congrArg _ (serve_answers frame rfl hb ht)
  have named : ∀ slot, (s.frameTaken hd.port).fetchCharge (some (slot, g)) =
      (s.frameTaken hd.port).withCharge slot g (s.frameTaken hd.port).fetchNamed :=
    fun slot => unlessRestoring_passes (s := s.frameTaken hd.port) _ up
  have found : s.chargeNamed i g = some r →
      (s.frameTaken hd.port).fetchCharge (some (i.val, g)) = (s.frameTaken hd.port).fetchNamed i r :=
    fun h => (named i.val).trans (withCharge_named (s := s.frameTaken hd.port) _ h)
  have unnamed : (s.frameTaken hd.port).fetchCharge none = match s.oldestOpen with
      | some i => (s.frameTaken hd.port).fetchNamed i (s.charge i)
      | none => (s.frameTaken hd.port).refuses .unknown :=
    unlessRestoring_passes (s := s.frameTaken hd.port) _ up
  refine ⟨fun h st => ?_, fun h st => ?_, fun h st => ?_, fun oldest own st => ?_, fun none => ?_, fun stale => ?_,
    fun n above => ?_⟩
  · exact answered (t := (s.frameTaken hd.port).putCharge i _) frame.1 ((found h).trans (fetchNamed_opened st))
  · exact answered (t := s.frameTaken hd.port) frame.1 ((found h).trans (fetchNamed_presented st))
  · exact answered (t := s.frameTaken hd.port) frame.1 ((found h).trans (fetchNamed_ended st))
  · refine answered (t := (s.frameTaken hd.port).putCharge i _) frame.1 (unnamed.trans ?_)
    rw [oldest]
    dsimp only
    rw [own, fetchNamed_opened st]
    rfl
  · refine answered (t := s.frameTaken hd.port) frame.1 (unnamed.trans ?_)
    rw [none]
    rfl
  · exact answered (t := s.frameTaken hd.port) frame.1
      ((named i.val).trans (withCharge_stale (s := s.frameTaken hd.port) _ stale))
  · exact answered (t := s.frameTaken hd.port) frame.1 ((named n).trans (withCharge_above _ above))

/-- Settles O20, from the request by the state of its charge and the slot that an unnamed one takes. -/
theorem fetchChargePresentsTheCharge : Obligations.FetchChargePresentsTheCharge :=
  ⟨fetchChargePresentsTheCharge_named, fetchedCharge⟩

end Sys2Proof.Machine
end

section
/-! SUPPORT. Payment Result: the result that settles a PRESENTED charge, the results that end it DECLINED, and those
that settle nothing (R133 to R139). -/

namespace Sys2Proof.Machine

variable {s t : State} {hd : Head} {i : ChargeSlot} {n : RecordNo} {slot g o l : Nat} {r : ChargeRecord}
  {k : Consignment} {out : Option CardOutcome} {x : CardOutcome}

/-! ### The request -/

/-- A Payment Result that passes its frame's checks is its block's. -/
theorem paymentResult_served {a : Answer} (frame : s.FramePasses hd .payment 11)
    (hb : (s.frameTaken hd.port).paymentResult slot g out o l = (t, a)) :
    exec (.paymentResult hd slot g out o l) s = .next (t.complete.respond hd 0x31#8 a) :=
  congrArg _ (serve_completes frame rfl hb)

/-- A Payment Result that changes nothing but its port. -/
theorem paymentResult_answered {a : Answer} (frame : s.FramePasses hd .payment 11)
    (hb : (s.frameTaken hd.port).paymentResult slot g out o l = (s.frameTaken hd.port, a)) :
    exec (.paymentResult hd slot g out o l) s = .next ((s.frameTaken hd.port).respond hd 0x31#8 a) := by
  rw [paymentResult_served frame hb, complete_settled_id (s := s.frameTaken hd.port) frame.1]

/-- The result for a charge that is named (R133). -/
theorem paymentResult_named (up : s.power.restoring = false) (h : s.chargeNamed i g = some r) :
    s.paymentResult i.val g (some x) o l = s.resultFor x o l i r := by
  simp [State.paymentResult, up, h]

theorem paymentResult_stale (up : s.power.restoring = false) (h : s.chargeNamed i g = none) :
    s.paymentResult i.val g (some x) o l = (s, refuseWith .unknown [.mark (x == .approved)]) := by
  simp [State.paymentResult, up, h]

theorem paymentResult_restoring (h : s.power.restoring = true) :
    s.paymentResult i.val g (some x) o l = (s, refuseWith .notReady [.mark false]) := by
  simp [State.paymentResult, h]

/-- A charge slot above 7 and an outcome outside its set come before every other check (log 57). -/
theorem paymentResult_format (h : 7 < slot ∨ out = none) :
    s.paymentResult slot g out o l = (s, refuseWith .format [.mark false]) := by
  unfold State.paymentResult
  split
  · rename_i inside
    rcases h with above | outside
    · rw [chargeSlotOf_above above] at inside
      cases inside
    · cases outside
  · rfl

/-! ### A PRESENTED charge (R134, R135) -/

theorem resultFor_settles (st : r.state = .presented) :
    s.resultFor .approved r.laneO r.laneK i r = s.settleCharge i r := by
  simp [State.resultFor, st, ChargeRecord.matchesAmounts]

theorem resultFor_declined (st : r.state = .presented) :
    s.resultFor .declined o l i r = s.declineCharge i r .byModule false := by
  simp [State.resultFor, st]

theorem resultFor_mismatch (st : r.state = .presented) (differs : r.laneO ≠ o ∨ r.laneK ≠ l) :
    s.resultFor .approved o l i r = s.declineCharge i r .mismatch true := by
  have other : r.matchesAmounts o l = false := by
    unfold ChargeRecord.matchesAmounts
    rcases differs with h | h <;> simp [h]
  simp [State.resultFor, st, other]

theorem settleCharge_record (hn : r.record = some n) : s.settleCharge i r =
    (((((s.endCharge i .paid none (some s.clock.minute)).updRecord n fun k =>
      k.settled r.laneO r.laneK s.clock.minute s.tariff.bank.grace).paidReleases n).post .console (s.paidNotice i r)),
      done [.u8 ChargeState.paid.ctorIdx, .u32 (min (s.clock.minute + s.tariff.bank.grace) maxWord), .mark false]) := by
  simp [State.settleCharge, hn]

theorem paidNotice_delivery (hn : r.record = some n) (hk : s.record n = some k) (kind : k.kind = .delivery) :
    s.paidNotice i r = { s.note .chargePaid with
      ref := some (s.refOf i), cons := k.code.map ConsForm.code, amount := r.laneO + r.laneK } := by
  simp only [State.paidNotice, hn, Option.bind_some, hk, kind]
  rfl

theorem paidNotice_return (hn : r.record = some n) (hk : s.record n = some k) (kind : k.kind = .returnDrop) :
    s.paidNotice i r = { s.note .chargePaid with
      ref := some (s.refOf i), comp := k.pieces.head?, amount := r.laneO + r.laneK } := by
  simp only [State.paidNotice, hn, Option.bind_some, hk, kind]
  rfl

/-- No release is asked for a delivery (R141). -/
theorem paidReleases_delivery (hk : s.record n = some k) (kind : k.kind = .delivery) : s.paidReleases n = s := by
  simp [State.paidReleases, State.waitingReturn, hk, kind]

/-- Settles O21, from the settlement of a named charge. -/
theorem approvedResultSettlesTheCharge : Obligations.ApprovedResultSettlesTheCharge := by
  unfold Obligations.ApprovedResultSettlesTheCharge
  intro hd i g r n k s frame up named st hn hk through s1
  refine ⟨?_, fun kind => ⟨?_, paidNotice_delivery hn hk kind⟩, paidNotice_return hn hk⟩
  · have body := paymentResult_named (s := s.frameTaken hd.port) (x := .approved) (o := r.laneO) (l := r.laneK) up named
    exact paymentResult_served frame (body.trans ((resultFor_settles st).trans (settleCharge_record hn)))
  · have own := chargeNamed_charge (s := s.frameTaken hd.port) named
    have record : s1.record n = ((s.record n).map (Consignment.forget ((s.frameTaken hd.port).refOf i))).map fun k =>
        { k with paidO := min (k.paidO + r.laneO) 999999, paidK := min (k.paidK + r.laneK) 999999,
                 paidThrough := some through } := by
      refine (updRecord_record_same ..).trans (congrArg _ ?_)
      exact endCharge_record_own (s := s.frameTaken hd.port) .paid none _ (own ▸ hn)
    rw [hk] at record
    exact paidReleases_delivery record kind

/-- Settles O22, from the end of a named charge that is not settled. -/
theorem declinedResultEndsTheCharge : Obligations.DeclinedResultEndsTheCharge := by
  unfold Obligations.DeclinedResultEndsTheCharge
  intro hd i g o k r s frame up named st ended
  have body : ∀ x, (s.frameTaken hd.port).paymentResult i.val g (some x) o k =
      (s.frameTaken hd.port).resultFor x o k i r :=
    fun x => paymentResult_named (s := s.frameTaken hd.port) up named
  exact ⟨paymentResult_served frame ((body _).trans (resultFor_declined st)),
    fun differs => paymentResult_served frame ((body _).trans (resultFor_mismatch st differs))⟩

/-! ### Results that settle nothing (R133, R136, R139) -/

theorem resultFor_opened (st : r.state = .opened) :
    s.resultFor x o l i r = (s, refuseWith .notReady [.mark (x == .approved)]) := by
  simp [State.resultFor, st]

theorem resultFor_repeated (st : r.state = .paid ∨ r.state = .declined) :
    s.resultFor x o l i r = s.repeatedResult r x o l := by
  rcases st with st | st <;> simp [State.resultFor, st]

theorem resultFor_late (st : r.state = .expired ∨ r.state = .void) :
    s.resultFor x o l i r = s.lateResult i r x o l := by
  rcases st with st | st <;> simp [State.resultFor, st]

theorem lateDetail_eq (st : ChargeState) : lateDetail st = if st = .expired then .expired else .void := by
  cases st <;> rfl

/-- The LATE_PAYMENT notice of a result on an EXPIRED or VOID charge (R139). -/
def State.lateNotice (s : State) (i : ChargeSlot) (r : ChargeRecord) (x : CardOutcome) (amount : Nat) : Notice :=
  { (s.noteCharge .latePayment i).withDetail (CardOutcome.detail x) with
    cons := s.chargeCode r, qualifier := some (lateDetail r.state), amount := amount }

/-- It goes to the payment and the operations ports (R139). -/
theorem lateResult_eq : s.lateResult i r x o l =
    ((s.post .payment (s.lateNotice i r x (o + l))).post .operations (s.lateNotice i r x (o + l)),
      refuseWith .late [.u8 r.state.ctorIdx, .mark (x == .approved)]) := rfl

/-- The code that LATE_PAYMENT carries (R139, log 14). -/
theorem chargeCode_record (hn : r.record = some n) (hk : s.record n = some k) :
    s.chargeCode r = if k.code = r.code then k.code.map ConsForm.code else none := by
  simp [State.chargeCode, hn, hk]

theorem chargeCode_none (h : r.record.bind s.record = none) : s.chargeCode r = none := by
  simp [State.chargeCode, h]

/-- Settles O23, by the state of the named charge. -/
theorem resultsThatSettleNothing : Obligations.ResultsThatSettleNothing := by
  unfold Obligations.ResultsThatSettleNothing
  intro hd i g o k out s frame
  refine ⟨fun restoring => paymentResult_answered frame (paymentResult_restoring (s := s.frameTaken hd.port) restoring),
    fun up => ?_, fun n x outside => paymentResult_answered frame (paymentResult_format outside)⟩
  have body : ∀ r, s.chargeNamed i g = some r → (s.frameTaken hd.port).paymentResult i.val g (some out) o k =
      (s.frameTaken hd.port).resultFor out o k i r :=
    fun r named => paymentResult_named (s := s.frameTaken hd.port) up named
  refine ⟨fun stale => paymentResult_answered frame (paymentResult_stale (s := s.frameTaken hd.port) up stale),
    fun r named st => paymentResult_answered frame ((body r named).trans (resultFor_opened st)),
    fun r named st => paymentResult_answered frame ((body r named).trans (resultFor_repeated st)),
    fun r named st => ?_⟩
  intro n
  refine ⟨?_, fun m x => chargeCode_record, chargeCode_none⟩
  have late := (body r named).trans ((resultFor_late st).trans lateResult_eq)
  have notice : (s.frameTaken hd.port).lateNotice i r out (o + k) = n := by
    unfold State.lateNotice
    rw [lateDetail_eq]
    cases out <;> rfl
  rw [notice] at late
  rw [paymentResult_served frame late, complete_settled_id]
  exact frame.1

end Sys2Proof.Machine
end

section
/-! SUPPORT. The power events of chapter 10: the marks, the stop, the start, and the roles that a start samples. -/

namespace Sys2Proof.Machine

variable {s t : State} {x : Straps}

/-! ### The marks -/

/-- PFAIL negated on a part that runs (R169). -/
theorem pfailNegated_running (run : s.power.running = true) (x : Straps) :
    s.pfailNegated x = (s.setPfail false).event State.markArbiter := if_pos run

/-- PFAIL negated on a part that is stopped (R192). -/
theorem pfailNegated_stopped (off : s.power.running = false) (x : Straps) :
    s.pfailNegated x = (s.setPfail false).tryStart x := if_neg (by simp [off])

/-- PFAIL_ASSERT, PFAIL_NEGATE and RETENTION_LOSS on a part that runs. -/
theorem powerMarksAlone : Claims.PowerMarksAlone := by
  intro x s
  refine ⟨rfl, rfl, fun run => ?_⟩
  have pf : (s.setPfail false).Running := run
  calc exec (.pfailNegate x) s = .next (s.pfailNegated x) := rfl
    _ = .next (((s.setPfail false).markArbiter).complete) := by
      rw [pfailNegated_running run.2, event_running pf]

/-! ### The stop -/

/-- A running part stops (R190). -/
theorem tryStop_running (run : s.power.running = true) : s.tryStop = s.stopped := if_pos run

/-- A stopped part has nothing to stop. -/
theorem tryStop_stopped (off : s.power.running = false) : s.tryStop = s := if_neg (by simp [off])

/-- MAINS_FALL and RESET_ASSERT (R190, R191). -/
theorem stopKeepsTheBackupDomain : Claims.StopKeepsTheBackupDomain := by
  intro s p hp
  rcases List.mem_pair.mp hp with rfl | rfl
  case inl =>
    exact ⟨fun run => congrArg Host.Outcome.next (tryStop_running (s := { s with power := _ }) run),
      fun off => congrArg Host.Outcome.next (tryStop_stopped (s := { s with power := _ }) off)⟩
  case inr =>
    exact ⟨fun run => congrArg Host.Outcome.next (tryStop_running (s := { s with power := _ }) run),
      fun off => congrArg Host.Outcome.next (tryStop_stopped (s := { s with power := _ }) off)⟩

/-! ### The start -/

/-- The part may start: its supply is present, PFAIL is negated, RESET is released, and it is stopped (R192). -/
def State.MayStart (s : State) : Prop :=
  s.power.mains = true ∧ s.power.pfail = false ∧ s.power.resetLine = false ∧ s.power.running = false

/-- A part that may start does. -/
theorem tryStart_of_may (h : s.MayStart) (x : Straps) : s.tryStart x = s.start x := by
  obtain ⟨mains, pfail, reset, off⟩ := h
  exact if_pos (by simp [mains, pfail, reset, off])

/-- A part that may not start is left. -/
theorem tryStart_of_mayNot (h : ¬ s.MayStart) (x : Straps) : s.tryStart x = s := by
  refine if_neg fun open_ => h ?_
  simpa [State.MayStart, and_assoc] using open_

/-- The return of a supply that was absent (R192). -/
theorem mainsReturns_absent (h : s.power.mains = false) (x : Straps) : s.mainsReturns x =
    { s with power := { s.power with mains := true, opener := .mainsReturn } }.tryStart x := if_neg (by simp [h])

/-- The release of a line that was asserted (R191). -/
theorem resetReleased_asserted (h : s.power.resetLine = true) (x : Straps) : s.resetReleased x =
    { s with power := { s.power with resetLine := false, opener := .resetLine } }.tryStart x := if_pos h

/-- The three power events where they do not open the way to a start. -/
theorem powerEventsThatStartNothing : Claims.PowerEventsThatStartNothing := by
  refine fun x s => ⟨fun on => ?present, fun absent why => ?mains, fun released => ?released,
    fun asserted why => ?reset, fun off why => ?pfail⟩
  case present => exact congrArg Host.Outcome.next (if_pos on)
  case mains =>
    refine congrArg Host.Outcome.next ((mainsReturns_absent absent x).trans (tryStart_of_mayNot ?_ x))
    rintro ⟨-, pfail, reset, off⟩
    simp_all
  case released => exact congrArg Host.Outcome.next (if_neg (by simp [released]))
  case reset =>
    refine congrArg Host.Outcome.next ((resetReleased_asserted asserted x).trans (tryStart_of_mayNot ?_ x))
    rintro ⟨mains, pfail, -, off⟩
    simp_all
  case pfail =>
    refine congrArg Host.Outcome.next ((pfailNegated_stopped off x).trans (tryStart_of_mayNot ?_ x))
    rintro ⟨mains, -, reset, -⟩
    have mains' : s.power.mains = true := mains
    have reset' : s.power.resetLine = false := reset
    simp [mains', reset'] at why

/-- A consignment's open charge is forgotten with the table's (R143). -/
theorem forgetCharges_record (s : State) (r : RecordNo) :
    s.forgetCharges.record r = (s.record r).map fun k => { k with openRef := none } := by
  simp [State.forgetCharges, State.record, Vector.get_eq_getElem]

/-- What a start of an intact part leaves: the retained state with no open charge reference (R192, R143). -/
theorem start_intact (h : s.intact = true) (x : Straps) : s.start x =
    ({ s.mainsCleared (sampledPorts x) with
      power := { s.power with lastStart := s.power.opener, running := true, restoring := true } } :
        State).forgetCharges := by
  unfold State.start
  dsimp only
  rw [if_pos h]
  rfl

/-- A part that is not intact starts cold (R198). -/
theorem start_cold (h : s.intact = false) (x : Straps) : s.start x =
    ({ (s.mainsCleared (sampledPorts x)).coldStarted with
      power := { s.power with
        retentionMark := true, checkOk := true, lastStart := .cold, running := true, restoring := true } } :
        State).forgetCharges := by
  unfold State.start
  dsimp only
  rw [if_neg (by simp [h])]
  rfl

/-- A power event that opens the way to a start leaves the start of a part with the event's kind as its opener. -/
theorem start_of_powerEvent (off : s.power.running = false) (x : Straps) :
    ∀ p ∈ [(Instr.mainsReturn x, StartKind.mainsReturn,
              s.power.mains = false ∧ s.power.resetLine = false ∧ s.power.pfail = false),
            (Instr.resetRelease x, StartKind.resetLine,
              s.power.mains = true ∧ s.power.resetLine = true ∧ s.power.pfail = false),
            (Instr.pfailNegate x, s.power.opener,
              s.power.mains = true ∧ s.power.resetLine = false ∧ s.power.pfail = true)],
      p.2.2 → exec p.1 s = .next (State.start { s with power := { s.power with
        mains := true, pfail := false, resetLine := false, opener := p.2.1 } } x) := by
  intro p hp
  rcases List.mem_cons.mp hp with rfl | hp
  case inl =>
    rintro ⟨absent, reset, pfail⟩
    refine congrArg Host.Outcome.next ((mainsReturns_absent absent x).trans
      ((tryStart_of_may (by exact ⟨rfl, pfail, reset, off⟩) x).trans ?_))
    simp only [reset, pfail]
  case inr =>
    rcases List.mem_pair.mp hp with rfl | rfl
    case inl =>
      rintro ⟨mains, reset, pfail⟩
      refine congrArg Host.Outcome.next ((resetReleased_asserted reset x).trans
        ((tryStart_of_may (by exact ⟨mains, pfail, rfl, off⟩) x).trans ?_))
      simp only [mains, pfail]
    case inr =>
      rintro ⟨mains, reset, pfail⟩
      refine congrArg Host.Outcome.next ((pfailNegated_stopped off x).trans
        ((tryStart_of_may (by exact ⟨mains, rfl, reset, off⟩) x).trans ?_))
      simp only [State.setPfail, mains, reset]

/-- A consignment that a start leaves has no open charge (R143). -/
theorem forgetCharges_openRef {r : RecordNo} {k : Consignment} (h : s.forgetCharges.record r = some k) :
    k.openRef = none := by
  rw [forgetCharges_record] at h
  obtain ⟨j, -, rfl⟩ := Option.map_eq_some_iff.mp h
  rfl

/-- The three power events where they open the way to a start. -/
theorem startRestoresTheBackupDomain : Claims.StartRestoresTheBackupDomain := by
  intro x s off p hp opens
  refine ⟨_, start_of_powerEvent off x p hp opens, ?_⟩
  set u : State := { s with power := { s.power with
    mains := true, pfail := false, resetLine := false, opener := p.2.1 } } with hu
  cases whole : s.intact
  case true =>
    rw [start_intact (s := u) whole]
    exact ⟨rfl, rfl, rfl, rfl, rfl, rfl, rfl, ⟨rfl, rfl⟩, rfl, rfl, fun r k => forgetCharges_openRef,
      fun _ => ⟨rfl, rfl, rfl, forgetCharges_record _, rfl, rfl, rfl, rfl, rfl, rfl, rfl, rfl, rfl⟩, nofun⟩
  case false =>
    rw [start_cold (s := u) whole]
    refine ⟨rfl, rfl, rfl, rfl, rfl, rfl, rfl, ⟨rfl, rfl⟩, rfl, rfl, fun r k => forgetCharges_openRef, nofun,
      fun _ => ⟨rfl, fun c => Vector.getElem_replicate .., fun r => ?_, rfl, fun i => Vector.getElem_replicate .., rfl,
        fun i => Vector.getElem_replicate .., rfl, rfl, rfl, rfl, rfl, rfl⟩⟩
    rw [forgetCharges_record]
    exact congrArg (Option.map _) (Vector.getElem_replicate (a := none) ..)

/-! ### The straps -/

/-- No lower port strapped to a port's role: the port takes it (R200). -/
theorem sampledRole_alone {p : Fin 4} (h : ∀ q, q < p → (x.get q).role ≠ (x.get p).role) :
    sampledRole x p = some (x.get p).role := by
  refine if_neg fun shared => ?_
  obtain ⟨q, -, hq⟩ := List.any_eq_true.mp shared
  obtain ⟨lower, same⟩ := Bool.and_eq_true_iff.mp hq
  exact h q (of_decide_eq_true lower) (eq_of_beq same)

/-- A lower port strapped to a port's role takes it from the port (R200). -/
theorem sampledRole_shared {p q : Fin 4} (lower : q < p) (same : (x.get q).role = (x.get p).role) :
    sampledRole x p = none := by
  refine if_pos (List.any_eq_true.mpr ⟨q, List.mem_finRange q, ?_⟩)
  simp [lower, same]

/-- The ports as a start samples them. -/
theorem portsTakeTheirRoles : Claims.PortsTakeTheirRoles :=
  fun _ _ => ⟨Vector.getElem_ofFn .., sampledRole_alone, fun ⟨_, lower, same⟩ => sampledRole_shared lower same⟩

end Sys2Proof.Machine
end

section
/-! SUPPORT. The samples of the baseline sweep (R184), and what follows a complete sweep (R192, R197). -/

namespace Sys2Proof.Machine

variable {s t : State} {c : Comp}

/-! ### The baseline sweep's samples -/

/-- The baseline sample of a door found open (R184). -/
theorem baselineSample_open (fit : (s.entry c).fitted = true) (isOpen : s.doorOpen c = true) :
    s.baselineSample c = s.setDoor c (some (.opened none s.ajarFull none)) := by
  simp only [State.baselineSample, fit, isOpen, Bool.not_true, Bool.false_eq_true, if_false, if_true]

/-- The baseline sample of a door found shut (R184; log 35). -/
theorem baselineSample_shut (fit : (s.entry c).fitted = true) (isShut : s.doorOpen c = false) :
    s.baselineSample c = (s.setDoor c (some .shut)).setBaseline c
      (some { presence := s.presence c, ajar := s.ajarFull }) := by
  simp only [State.baselineSample, fit, isShut, Bool.not_true, Bool.false_eq_true, if_false]

/-- A compartment that is not fitted has no sample. -/
theorem baselineSample_unfitted (bare : (s.entry c).fitted = false) : s.baselineSample c = s :=
  if_pos (by simp [bare])

/-- The samples of a read of the baseline sweep set the door records. -/
theorem baselineReadSetsTheDoor : Claims.BaselineReadSetsTheDoor := by
  refine fun s c => ⟨fun fit isOpen => baselineSample_open fit isOpen, fun fit isShut => ?shut,
    baselineSample_unfitted, fun col first => ?read⟩
  case shut =>
    rw [baselineSample_shut fit isShut]
    exact ⟨setDoor_door_same (s := s) c (some .shut), put_get_same ..,
      fun d other => setDoor_door_other s c d (some .shut) other, rfl, rfl⟩
  case read =>
    unfold State.readColumn
    simp only [first, if_true]

/-! ### What follows a sweep -/

/-- After the baseline sweep (R184, R194). -/
theorem sweepComplete_baseline (h : s.scanner.phase = .baseline) :
    s.sweepComplete = s.reconcile.setPhase .second := by
  unfold State.sweepComplete
  rw [h]

/-- After the second sweep (R197). -/
theorem sweepComplete_second (h : s.scanner.phase = .second) :
    s.sweepComplete = s.endRestoring.setPhase .normal := by
  unfold State.sweepComplete
  rw [h]

/-- After any other sweep. -/
theorem sweepComplete_normal (h : s.scanner.phase = .normal) : s.sweepComplete = s := by
  unfold State.sweepComplete
  rw [h]

/-- The end of each kind of sweep. -/
theorem sweepsEndRestoring : Claims.SweepsEndRestoring := by
  refine fun s => ⟨fun first => ?_, fun second => sweepComplete_second second, rfl, rfl, rfl, sweepComplete_normal⟩
  rw [sweepComplete_baseline first]
  unfold State.reconcile
  generalize Comp.all.foldl State.reconcileOne s = t
  exact ⟨rfl, fun c => Vector.getElem_replicate .., rfl, rfl, rfl, rfl⟩

end Sys2Proof.Machine
end

section
/-! SUPPORT. What the custody table's door events leave of the scanner, and the INTERRUPTED notice of R194 and R195. -/

namespace Sys2Proof.Machine

variable {s t : State} {c : Comp} {x : Holding}

/-! ### The door record through the custody table's events -/

theorem enterReview_scanner (c : Comp) (k : ReviewCause) : (s.enterReview c k).scanner = s.scanner :=
  (enterReview_frame s c k).2.2.1

theorem removeHolding_scanner (c : Comp) (st : CustodyState) (k : Option OosCause) :
    (s.removeHolding c st k).scanner = s.scanner := (removeHolding_frame s c st k).2.2.1

theorem toRest_scanner (c : Comp) : (s.toRest c).scanner = s.scanner := (toRest_frame s c).2.2.1

theorem withdraw_scanner (c : Comp) : (s.withdraw c).scanner = s.scanner := (withdraw_frame s c).2.2.2.2.1

theorem setCustody_scanner (c : Comp) (st : CustodyState) : (s.setCustody c st).scanner = s.scanner := by simp

theorem outOfService_scanner (c : Comp) (k : OosCause) : (s.outOfService c k).scanner = s.scanner := by simp

/-- An OPENED event reaches no door record. -/
theorem custodyOpened_scanner (c : Comp) (k : ReleaseClass) : (s.custodyOpened c k).scanner = s.scanner := by
  unfold State.custodyOpened
  split
  · exact setCustody_scanner c .loading
  · exact (setCustody_scanner c .emptying).trans (by simp)
  · rfl

theorem lapse_scanner (c : Comp) : (s.lapse c).scanner = s.scanner := by
  unfold State.lapse
  split
  · exact toRest_scanner c
  · exact toRest_scanner c
  · exact toRest_scanner c
  · exact toRest_scanner c

theorem shutReleasing_scanner (c : Comp) (b : Bool) : (s.shutReleasing c b).scanner = s.scanner := by
  unfold State.shutReleasing
  split
  · split
    · exact enterReview_scanner c .interrupted
    · exact lapse_scanner c
  · exact lapse_scanner c

theorem reportOrigin_scanner (o : Origin) (c : Comp) (outcome : Status) (minute : Option Nat) :
    (s.reportOrigin o c outcome minute).scanner = s.scanner := by
  cases o <;> rfl

theorem shutReserved_scanner (c : Comp) (b : Bool) : (s.shutReserved c b).scanner = s.scanner := by
  cases hx : s.holding c with
  | none => rw [State.shutReserved, hx]
  | some x =>
    rw [shutReserved_some hx, reportOrigin_scanner]
    exact removeHolding_scanner c .free none

/-- A WINDOW_SHUT event reaches no door record. -/
theorem windowShut_scanner (c : Comp) (k : ReleaseClass) (b : Bool) :
    (s.custodyWindowShut c k b).scanner = s.scanner := by
  unfold State.custodyWindowShut
  split
  · rfl
  · exact shutReserved_scanner c b
  · exact shutReleasing_scanner c b
  · cases k <;> rfl

theorem forcedReserved_scanner (c : Comp) (x : Holding) : (s.forcedReserved c x).scanner = s.scanner := by
  have dropped : (s.forcedDropped c).scanner = s.scanner :=
    (removeHolding_scanner c .outOfService (some .forced)).trans (withdraw_scanner (s := s.noteForced c true) c)
  rw [forcedReserved_eq]
  generalize s.forcedDropped c = u at *
  cases x.origin with
  | slot n => exact dropped
  | console => exact dropped

theorem forcedReleasing_scanner (c : Comp) (x : Holding) : (s.forcedReleasing c x).scanner = s.scanner := by
  have reviewed : (s.forcedReview c).scanner = s.scanner :=
    (enterReview_scanner c .forced).trans (withdraw_scanner (s := s.noteForced c false) c)
  rw [forcedReleasing_eq]
  generalize s.forcedReview c = u at *
  rcases x.claimant with _ | _ | _ | _
  all_goals exact reviewed

/-- A FORCED event reaches no door record. -/
theorem custodyForced_scanner (c : Comp) : (s.custodyForced c).scanner = s.scanner := by
  unfold State.custodyForced
  split
  case h_2 => exact outOfService_scanner (s := s.noteForced c true) c .forced
  case h_3 | h_4 | h_5 => exact enterReview_scanner (s := s.noteForced c false) c .forced
  case h_8 => exact forcedReserved_scanner ..
  case h_9 => exact forcedReleasing_scanner ..
  all_goals rfl

/-! ### The INTERRUPTED notice (R194, R195) -/

theorem noteInterrupted_some {b : State} (hx : b.holding c = some x) (d : Detail) : s.noteInterrupted b c d =
    s.postBoth .operations x.originRole ((b.noteFull .interrupted c).withDetail d) := by
  rw [State.noteInterrupted, hx]

theorem noteInterrupted_frame (b : State) (d : Detail) : (s.noteInterrupted b c d).scanner = s.scanner ∧
    (s.noteInterrupted b c d).custody = s.custody ∧ (s.noteInterrupted b c d).engine = s.engine := by
  cases hx : b.holding c with
  | none =>
    rw [State.noteInterrupted, hx]
    exact ⟨rfl, rfl, rfl⟩
  | some x =>
    rw [noteInterrupted_some hx]
    obtain ⟨-, custody, -, scanner, engine⟩ :=
      postBoth_frame s .operations x.originRole ((b.noteFull .interrupted c).withDetail d)
    exact ⟨scanner, custody, engine⟩

/-- A door record is read off the scanner. -/
theorem door_congr (h : t.scanner = s.scanner) (c : Comp) : t.door c = s.door c := by
  rw [State.door, h]
  rfl

/-- An entry is read off the custody table. -/
theorem entry_of_custody (h : t.custody = s.custody) (c : Comp) : t.entry c = s.entry c := by
  rw [State.entry, h]
  rfl

end Sys2Proof.Machine
end

section
/-! SUPPORT. The reconciliation of one compartment (R194 to R196), and the statement on power and reconciliation. -/

namespace Sys2Proof.Machine

variable {s t : State} {c : Comp} {x : Holding} {f : FlightEntry} {left : Nat}

/-! ### Which case a compartment is -/

/-- A compartment that is not fitted is left. -/
theorem reconcileOne_unfitted (bare : (s.entry c).fitted = false) : s.reconcileOne c = s :=
  if_pos (by simp [bare])

/-- A release that was in flight (R194). -/
theorem reconcileOne_cut (fit : (s.entry c).fitted = true)
    (st : s.custodyState c = .reserved ∨ s.custodyState c = .releasing) (hf : s.flightOf c = some f) :
    s.reconcileOne c = s.reconcileCut c := by
  unfold State.reconcileOne
  rw [if_neg (by simp [fit])]
  rcases st with st | st
  · rw [st, hf]
  · rw [st, hf]

/-- A release that was waiting (R195). -/
theorem reconcileOne_waiting (fit : (s.entry c).fitted = true)
    (st : s.custodyState c = .reserved ∨ s.custodyState c = .releasing) (hf : s.flightOf c = none) :
    s.reconcileOne c = s.reconcileWaiting c := by
  unfold State.reconcileOne
  rw [if_neg (by simp [fit])]
  rcases st with st | st
  · rw [st, hf]
  · rw [st, hf]

/-- A pulse that was in flight on a compartment neither RESERVED nor RELEASING (R194). -/
theorem reconcileOne_flown (fit : (s.entry c).fitted = true) (nr : s.custodyState c ≠ .reserved)
    (nl : s.custodyState c ≠ .releasing) (hf : s.flightOf c = some f) : s.reconcileOne c = s.reconcileFlown c f := by
  unfold State.reconcileOne
  rw [if_neg (by simp [fit]), hf]
  split
  case h_1 st _ => exact absurd st nr
  case h_2 st _ => exact absurd st nl
  case h_3 st none => cases none
  case h_4 st none => cases none
  case h_5 same _ _ =>
    cases same
    rfl
  case h_6 none _ _ => cases none

/-- Any other compartment (R196). -/
theorem reconcileOne_rest (fit : (s.entry c).fitted = true) (nr : s.custodyState c ≠ .reserved)
    (nl : s.custodyState c ≠ .releasing) (hf : s.flightOf c = none) : s.reconcileOne c = s.reconcileRest c := by
  unfold State.reconcileOne
  rw [if_neg (by simp [fit]), hf]
  split
  case h_1 st _ => exact absurd st nr
  case h_2 st _ => exact absurd st nl
  case h_3 st _ => exact absurd st nr
  case h_4 st _ => exact absurd st nl
  case h_5 some _ _ => cases some
  case h_6 => rfl

/-! ### A release in flight (R194) -/

theorem reconcileCut_open (door : foundOpen (s.door c) = some left) :
    s.reconcileCut c = (s.setDoor c (openCustody left)).custodyOpened c .custody := by
  rw [State.reconcileCut, door]

theorem reconcileCut_shut (door : foundOpen (s.door c) = none) : s.reconcileCut c =
    ((s.setDoor c (some .shut)).custodyWindowShut c .custody true).noteInterrupted s c .cut := by
  rw [State.reconcileCut, door]

/-- The door of a release in flight that is found open. -/
theorem reconcileCut_open_door (door : foundOpen (s.door c) = some left) :
    (s.reconcileCut c).door c = some (.opened (some .custody) left none) := by
  rw [reconcileCut_open door, door_congr (custodyOpened_scanner c .custody)]
  exact setDoor_door_same ..

/-- The state of a release in flight that is found open (R13). -/
theorem reconcileCut_open_state (st : s.custodyState c = .reserved ∨ s.custodyState c = .releasing)
    (door : foundOpen (s.door c) = some left) :
    (s.reconcileCut c).custodyState c = if s.custodyState c = .reserved then .loading else .emptying := by
  obtain ⟨reserved, releasing, -, -, -⟩ := openedEventRows (s.setDoor c (openCustody left)) c .custody
  rw [reconcileCut_open door]
  rcases st with st | st
  · rw [if_pos st]
    exact congrArg CompartmentEntry.state (reserved st (.inl rfl))
  · rw [if_neg (by simp [st])]
    exact congrArg CompartmentEntry.state (releasing st (.inl rfl))

/-- The door of a release in flight that is found shut. -/
theorem reconcileCut_shut_door (door : foundOpen (s.door c) = none) : (s.reconcileCut c).door c = some .shut := by
  rw [reconcileCut_shut door, door_congr (noteInterrupted_frame s .cut).1,
    door_congr (windowShut_scanner c .custody true)]
  exact setDoor_door_same ..

/-- The entry of a release in flight that is found shut is the one that the WINDOW_SHUT event leaves. -/
theorem reconcileCut_shut_entry (door : foundOpen (s.door c) = none) : (s.reconcileCut c).entry c =
    ((s.setDoor c (some .shut)).custodyWindowShut c .custody true).entry c := by
  rw [reconcileCut_shut door, entry_of_custody (noteInterrupted_frame s .cut).2.1]

/-- A release in flight that is found shut is told INTERRUPTED after the notices of the WINDOW_SHUT event. -/
theorem reconcileCut_shut_ports (hx : s.holding c = some x) (door : foundOpen (s.door c) = none)
    (shut : ((s.setDoor c (some .shut)).custodyWindowShut c .custody true).ports = t.ports) :
    (s.reconcileCut c).ports =
      (t.postBoth .operations x.originRole ((s.noteFull .interrupted c).withDetail .cut)).ports := by
  rw [reconcileCut_shut door, noteInterrupted_some hx]
  exact postBoth_ports_congr shut ..

/-- A WINDOW_SHUT event of class CUSTODY ends a reservation or claim. -/
theorem endsWith_custody (s : State) (c : Comp) : s.endsWith c .custody = true := rfl

/-- The first cut of a release lapses its claim (R20, R24). -/
theorem cut_lapses (hx : s.holding c = some x) (st : s.custodyState c = .releasing)
    (fresh : x.releaseInterrupted = false) : s.custodyWindowShut c .custody true =
      (s.lapse c).updHolding c fun y => { y with releaseInterrupted := true } :=
  (windowShut_releasing st (endsWith_custody s c) true).trans (shutReleasing_first hx (.inr fresh))

/-- The second cut of a release in a row takes the holding to REVIEW (R20). -/
theorem cut_reviews (hx : s.holding c = some x) (st : s.custodyState c = .releasing)
    (again : x.releaseInterrupted = true) : s.custodyWindowShut c .custody true = s.enterReview c .interrupted :=
  (windowShut_releasing st (endsWith_custody s c) true).trans (shutReleasing_again hx again)

/-- A cut reservation is dropped, and its origin told (R14, R20). -/
theorem cut_drops (hx : s.holding c = some x) (st : s.custodyState c = .reserved) :
    s.custodyWindowShut c .custody true = ((s.removeHolding c .free none).post x.origin.role
      ((s.noteFull .notOpened c).withDetail .interrupted)).reportOrigin x.origin c .notOpened none :=
  (windowShut_reserved st (endsWith_custody s c) true).trans (shutReserved_some hx true)

/-- The entry that a first cut leaves. -/
theorem cut_lapses_entry {r : RestState} (hx : s.holding c = some x) (st : s.custodyState c = .releasing)
    (fresh : x.releaseInterrupted = false) (rest : x.rest = some r) : (s.custodyWindowShut c .custody true).entry c =
      { s.entry c with
        state := RestState.custody r
        holding := some { x with claimant := none, releaseInterrupted := true } } := by
  have lapsed := (lapse_entry c).trans (toRest_entry_same _ _ _ _ hx rest)
  rw [cut_lapses hx st fresh, updHolding_entry_same, State.holding, lapsed]
  rfl

/-- The entry that a cut reservation leaves. -/
theorem cut_drops_entry (hx : s.holding c = some x) (st : s.custodyState c = .reserved) :
    (s.custodyWindowShut c .custody true).entry c =
      { s.entry c with state := .free, cause := none, holding := none } := by
  rw [cut_drops hx st, reportOrigin_entry]
  exact removeHolding_entry_same _ _ _ _ _ hx

theorem cut_drops_ports (hx : s.holding c = some x) (st : s.custodyState c = .reserved) :
    (s.custodyWindowShut c .custody true).ports =
      (s.post x.origin.role ((s.noteFull .notOpened c).withDetail .interrupted)).ports := by
  rw [cut_drops hx st, reportOrigin_ports]
  exact post_ports_congr (removeHolding_ports ..) ..

theorem cut_lapses_ports (hx : s.holding c = some x) (st : s.custodyState c = .releasing)
    (fresh : x.releaseInterrupted = false) : (s.custodyWindowShut c .custody true).ports = (s.lapse c).ports := by
  rw [cut_lapses hx st fresh]
  rfl

/-- A release in flight that is found shut for the first time: its holding is back at rest, marked. -/
theorem reconcileCut_shut_lapsed {r : RestState} (hx : s.holding c = some x) (st : s.custodyState c = .releasing)
    (door : foundOpen (s.door c) = none) (fresh : x.releaseInterrupted = false) (rest : x.rest = some r) :
    (s.reconcileCut c).entry c = { s.entry c with
      state := RestState.custody r
      holding := some { x with claimant := none, releaseInterrupted := true } } :=
  (reconcileCut_shut_entry door).trans (cut_lapses_entry (s := s.setDoor c (some .shut)) hx st fresh rest)

/-- A release in flight that is found shut a second time takes its holding to REVIEW. -/
theorem reconcileCut_shut_reviewed (hx : s.holding c = some x) (st : s.custodyState c = .releasing)
    (door : foundOpen (s.door c) = none) (again : x.releaseInterrupted = true) :
    (s.reconcileCut c).custodyState c = .review := by
  rw [State.custodyState, reconcileCut_shut_entry door, cut_reviews (s := s.setDoor c (some .shut)) hx st again]
  exact congrArg CompartmentEntry.state (enterReview_entry_same (s.setDoor c (some .shut)) c .interrupted x hx)

/-- A reservation in flight that is found shut is dropped. -/
theorem reconcileCut_shut_dropped (hx : s.holding c = some x) (st : s.custodyState c = .reserved)
    (door : foundOpen (s.door c) = none) : (s.reconcileCut c).entry c =
      { s.entry c with state := .free, cause := none, holding := none } :=
  (reconcileCut_shut_entry door).trans (cut_drops_entry (s := s.setDoor c (some .shut)) hx st)

/-! ### A release that was waiting (R195) -/

theorem reconcileWaiting_open (door : foundOpen (s.door c) = some left) :
    s.reconcileWaiting c = (s.setDoor c (some (.forced none))).custodyForced c := by
  rw [State.reconcileWaiting, door]

theorem reconcileWaiting_shut (door : foundOpen (s.door c) = none) :
    s.reconcileWaiting c = ((s.setDoor c (some .shut)).revert c).noteInterrupted s c .reverted := by
  rw [State.reconcileWaiting, door]

theorem revert_reserved (st : s.custodyState c = .reserved) : s.revert c = s.removeHolding c .free none := by
  rw [State.revert, st]

theorem revert_releasing (st : s.custodyState c = .releasing) : s.revert c = s.toRest c := by
  rw [State.revert, st]

/-- A reversion reaches no door record and no port (R195). -/
theorem revert_frame (c : Comp) : (s.revert c).scanner = s.scanner ∧ (s.revert c).ports = s.ports := by
  unfold State.revert
  split
  case h_1 => exact ⟨removeHolding_scanner c .free none, removeHolding_ports ..⟩
  all_goals exact ⟨toRest_scanner c, toRest_ports c⟩

theorem reconcileWaiting_shut_door (door : foundOpen (s.door c) = none) :
    (s.reconcileWaiting c).door c = some .shut := by
  rw [reconcileWaiting_shut door, door_congr (noteInterrupted_frame s .reverted).1, door_congr (revert_frame c).1]
  exact setDoor_door_same ..

theorem reconcileWaiting_shut_entry (door : foundOpen (s.door c) = none) :
    (s.reconcileWaiting c).entry c = ((s.setDoor c (some .shut)).revert c).entry c := by
  rw [reconcileWaiting_shut door, entry_of_custody (noteInterrupted_frame s .reverted).2.1]

/-- A reservation whose release was waiting is removed (R195). -/
theorem reconcileWaiting_shut_removed (hx : s.holding c = some x) (st : s.custodyState c = .reserved)
    (door : foundOpen (s.door c) = none) : (s.reconcileWaiting c).entry c =
      { s.entry c with state := .free, cause := none, holding := none } := by
  rw [reconcileWaiting_shut_entry door, revert_reserved (s := s.setDoor c (some .shut)) st]
  exact removeHolding_entry_same _ _ _ _ x hx

/-- A claim whose release was waiting is over, its holding back at rest (R195). -/
theorem reconcileWaiting_shut_rested {r : RestState} (hx : s.holding c = some x)
    (st : s.custodyState c = .releasing) (door : foundOpen (s.door c) = none) (rest : x.rest = some r) :
    (s.reconcileWaiting c).entry c =
      { s.entry c with state := RestState.custody r, holding := some { x with claimant := none } } := by
  rw [reconcileWaiting_shut_entry door, revert_releasing (s := s.setDoor c (some .shut)) st]
  exact toRest_entry_same _ _ x _ hx rest

theorem reconcileWaiting_shut_ports (hx : s.holding c = some x) (door : foundOpen (s.door c) = none) :
    (s.reconcileWaiting c).ports =
      (s.postBoth .operations x.originRole ((s.noteFull .interrupted c).withDetail .reverted)).ports := by
  rw [reconcileWaiting_shut door, noteInterrupted_some hx]
  have reverted : ((s.setDoor c (some .shut)).revert c).ports = s.ports := (revert_frame c).2
  exact postBoth_ports_congr reverted ..

/-- The door of a compartment that is found FORCED (R17). -/
theorem foundForced_door (c : Comp) :
    ((s.setDoor c (some (.forced none))).custodyForced c).door c = some (.forced none) := by
  rw [door_congr (custodyForced_scanner c)]
  exact setDoor_door_same ..

/-! ### Any other compartment (R196) -/

theorem reconcileRest_moving_open (st : s.custodyState c = .loading ∨ s.custodyState c = .emptying)
    (door : foundOpen (s.door c) = some left) : s.reconcileRest c = s.setDoor c (openCustody left) := by
  unfold State.reconcileRest
  rcases st with st | st
  · rw [st, door]
  · rw [st, door]

theorem reconcileRest_moving_shut (st : s.custodyState c = .loading ∨ s.custodyState c = .emptying)
    (door : foundOpen (s.door c) = none) : s.reconcileRest c = s.setDoor c (s.openPending c) := by
  unfold State.reconcileRest
  rcases st with st | st
  · rw [st, door]
  · rw [st, door]

theorem reconcileRest_open (nl : s.custodyState c ≠ .loading) (ne : s.custodyState c ≠ .emptying)
    (door : foundOpen (s.door c) = some left) :
    s.reconcileRest c = (s.setDoor c (some (.forced none))).custodyForced c := by
  unfold State.reconcileRest
  rw [door]
  split
  case h_1 st _ => exact absurd st nl
  case h_2 st _ => exact absurd st ne
  case h_3 none => cases none
  case h_4 none => cases none
  case h_5 => rfl
  case h_6 none _ _ => cases none

theorem reconcileRest_shut (nl : s.custodyState c ≠ .loading) (ne : s.custodyState c ≠ .emptying)
    (door : foundOpen (s.door c) = none) : s.reconcileRest c = s.setDoor c (some .shut) := by
  unfold State.reconcileRest
  rw [door]
  split
  case h_1 some => cases some
  case h_2 some => cases some
  case h_3 st _ => exact absurd st nl
  case h_4 st _ => exact absurd st ne
  case h_5 some _ _ => cases some
  case h_6 => rfl

/-- The states in which no deposit, removal or release is under way. -/
def CustodyState.Stationary (st : CustodyState) : Prop :=
  st.isRest = true ∨ st = .review ∨ st = .outOfService ∨ st = .free

theorem CustodyState.Stationary.ne {st : CustodyState} (h : st.Stationary) :
    st ≠ .reserved ∧ st ≠ .releasing ∧ st ≠ .loading ∧ st ≠ .emptying := by
  rcases h with rest | rfl | rfl | rfl
  · rcases (isRest_iff st).mp rest with rfl | rfl | rfl
    all_goals decide
  all_goals decide

/-- A door found open where nothing was under way is FORCED (R196). -/
theorem reconcileOne_stationary_open (fit : (s.entry c).fitted = true) (st : (s.custodyState c).Stationary)
    (hf : s.flightOf c = none) (door : foundOpen (s.door c) = some left) :
    s.reconcileOne c = (s.setDoor c (some (.forced none))).custodyForced c := by
  obtain ⟨nr, nl, nload, nempty⟩ := st.ne
  rw [reconcileOne_rest fit nr nl hf, reconcileRest_open nload nempty door]

/-- A door found shut where nothing was under way (R196). -/
theorem reconcileOne_stationary_shut (fit : (s.entry c).fitted = true) (st : (s.custodyState c).Stationary)
    (hf : s.flightOf c = none) (door : foundOpen (s.door c) = none) : s.reconcileOne c = s.setDoor c (some .shut) := by
  obtain ⟨nr, nl, nload, nempty⟩ := st.ne
  rw [reconcileOne_rest fit nr nl hf, reconcileRest_shut nload nempty door]

/-- A deposit or removal in progress (R196). -/
theorem reconcileOne_moving (fit : (s.entry c).fitted = true)
    (st : s.custodyState c = .loading ∨ s.custodyState c = .emptying) (hf : s.flightOf c = none) :
    s.reconcileOne c = s.reconcileRest c := by
  refine reconcileOne_rest fit ?_ ?_ hf
  all_goals rcases st with st | st
  all_goals simp [st]

/-! ### The statement -/

/-- Whom a release in flight that is found shut is told to (R14, R20, R24, R194). -/
theorem reconcileCut_shut_told (hx : s.holding c = some x) (door : foundOpen (s.door c) = none) :
    let cut := fun u : State =>
      (u.postBoth .operations x.originRole ((s.noteFull .interrupted c).withDetail .cut)).ports
    (s.custodyState c = .reserved → (s.reconcileCut c).ports =
      cut (s.post x.origin.role ((s.noteFull .notOpened c).withDetail .interrupted))) ∧
    (s.custodyState c = .releasing →
      (x.releaseInterrupted = true → (s.reconcileCut c).ports =
        cut (s.post .operations ((s.noteCode .review c).withDetail .interrupted))) ∧
      (x.releaseInterrupted = false →
        (x.claimant = some .customer → (s.reconcileCut c).ports = cut (s.post .console (s.noteFull .notOpened c))) ∧
        (x.claimant = some .service → (s.reconcileCut c).ports =
          cut (s.post .operations ((s.noteCode .serviceDone c).withDetail .notOpened))) ∧
        (x.claimant = some .carrier → (s.reconcileCut c).ports = cut s ∧
          (s.reconcileCut c).engine = (s.reportClaim c .notOpened).engine))) := by
  intro cut
  let u := s.setDoor c (some .shut)
  have hu : u.holding c = some x := hx
  refine ⟨fun st => ?dropped, fun st => ⟨fun again => ?reviewed, fun fresh => ?lapsed⟩⟩
  case dropped => exact reconcileCut_shut_ports hx door (cut_drops_ports hu st)
  case reviewed =>
    refine reconcileCut_shut_ports hx door ?_
    rw [cut_reviews hu st again]
    exact enterReview_ports u c .interrupted
  case lapsed =>
    have ports : (u.custodyWindowShut c .custody true).ports = (u.lapse c).ports := cut_lapses_ports hu st fresh
    refine ⟨fun who => ?customer, fun who => ?service, fun who => ⟨?carrier, ?engine⟩⟩
    case customer =>
      refine reconcileCut_shut_ports hx door (ports.trans ?_)
      rw [lapse_customer hu who]
      exact post_ports_congr (toRest_ports c) ..
    case service =>
      refine reconcileCut_shut_ports hx door (ports.trans ?_)
      rw [lapse_service hu who]
      exact post_ports_congr (toRest_ports c) ..
    case carrier =>
      refine reconcileCut_shut_ports hx door (ports.trans ?_)
      rw [lapse_carrier hu who]
      exact toRest_ports c
    case engine =>
      rw [reconcileCut_shut door, (noteInterrupted_frame s .cut).2.2, cut_lapses hu st fresh, lapse_carrier hu who]
      exact reportClaim_engine_congr (toRest_engine c) ..

/-- A release that was waiting and whose door is found open: what the FORCED event does to the compartment (R17). -/
theorem foundForced_entry (hx : s.holding c = some x) :
    let t := (s.setDoor c (some (.forced none))).custodyForced c
    (s.custodyState c = .reserved → t.entry c =
      { s.entry c with state := .outOfService, cause := some .forced, holding := none }) ∧
    ((s.custodyState c).isRest = true ∨ s.custodyState c = .releasing → t.entry c = { s.entry c with
      state := .review, holding := some { x.addCause .forced with claimant := none } }) ∧
    (s.custodyState c = .review ∨ s.custodyState c = .outOfService → t.entry c =
      { s.entry c with holding := some (x.addCause .forced) }) := by
  intro t
  obtain ⟨-, held, -⟩ := forcedRows (s.setDoor c (some (.forced none))) c
  obtain ⟨review, -, kept, reserved, -⟩ := held x hx
  exact ⟨fun st => (reserved st).1, review, fun st => (kept st).1⟩

/-- The reconciliation of a compartment with a holding. -/
theorem reconciliationRows : Claims.ReconciliationRows := by
  intro s c x fit hx t
  obtain ⟨forcedReserved, forcedReview, forcedKept⟩ := foundForced_entry hx
  refine ⟨fun f left st hf door => ?cutOpen, fun f r st hf door rest => ?cutShut, fun f hf door => ?cutPorts,
    fun st door => ?reserved, fun r st hf door rest => ?releasing, fun st hf door => ?reverted,
    fun left st hf door => ?waitingOpen, fun left st hf door => ?movingOpen, fun b st hf door pending => ?movingShut,
    fun left hf door => ?foundOpen, fun st hf door => ?foundShut⟩
  case cutOpen =>
    rw [show t = _ from reconcileOne_cut fit st hf]
    exact ⟨reconcileCut_open_door door, reconcileCut_open_state st door⟩
  case cutShut =>
    rw [show t = _ from reconcileOne_cut fit (.inr st) hf]
    refine ⟨reconcileCut_shut_door door, ?state, fun fresh => ?holding⟩
    case holding => exact congrArg CompartmentEntry.holding (reconcileCut_shut_lapsed hx st door fresh rest)
    case state =>
      cases once : x.releaseInterrupted
      case false => exact congrArg CompartmentEntry.state (reconcileCut_shut_lapsed hx st door once rest)
      case true => exact reconcileCut_shut_reviewed hx st door once
  case cutPorts =>
    obtain ⟨dropped, lapsed⟩ := reconcileCut_shut_told hx door
    refine ⟨fun st => ?_, fun st => ?_⟩
    · rw [show t = _ from reconcileOne_cut fit (.inl st) hf]
      exact dropped st
    · rw [show t = _ from reconcileOne_cut fit (.inr st) hf]
      exact lapsed st
  case reserved =>
    cases hf : s.flightOf c with
    | some f =>
      rw [show t = _ from reconcileOne_cut fit (.inl st) hf]
      exact ⟨reconcileCut_shut_door door, reconcileCut_shut_dropped hx st door⟩
    | none =>
      rw [show t = _ from reconcileOne_waiting fit (.inl st) hf]
      exact ⟨reconcileWaiting_shut_door door, reconcileWaiting_shut_removed hx st door⟩
  case releasing =>
    rw [show t = _ from reconcileOne_waiting fit (.inr st) hf]
    exact ⟨reconcileWaiting_shut_door door, reconcileWaiting_shut_rested hx st door rest⟩
  case reverted =>
    rw [show t = _ from reconcileOne_waiting fit st hf]
    exact reconcileWaiting_shut_ports hx door
  case waitingOpen =>
    rw [show t = _ from reconcileOne_waiting fit st hf, reconcileWaiting_open door]
    exact ⟨foundForced_door c, forcedReserved, fun st => forcedReview (.inr st)⟩
  case movingOpen => exact (reconcileOne_moving fit st hf).trans (reconcileRest_moving_open st door)
  case movingShut =>
    rw [show t = _ from reconcileOne_moving fit st hf, reconcileRest_moving_shut st door, State.openPending, pending]
  case foundOpen =>
    refine ⟨fun rest => ?_, fun st => ?_⟩
    · rw [show t = _ from reconcileOne_stationary_open fit (.inl rest) hf door]
      exact ⟨foundForced_door c, forcedReview (.inl rest)⟩
    · rw [show t = _ from reconcileOne_stationary_open fit (.inr (st.imp_right .inl)) hf door]
      exact ⟨foundForced_door c, forcedKept st⟩
  case foundShut => exact reconcileOne_stationary_shut fit (st.imp_right (Or.imp_right .inl)) hf door

/-- The reconciliation of a compartment without a holding. -/
theorem reconciliationOfEmptyCompartments : Claims.ReconciliationOfEmptyCompartments := by
  intro s c empty t
  refine ⟨reconcileOne_unfitted, fun fit hf st => ?_⟩
  have still : (s.custodyState c).Stationary := .inr (.inr st.symm)
  refine ⟨reconcileOne_stationary_shut fit still hf, fun left door => ?_⟩
  obtain ⟨free, -, outOfService, -⟩ := forcedRows (s.setDoor c (some (.forced none))) c
  rw [show t = _ from reconcileOne_stationary_open fit still hf door]
  exact ⟨foundForced_door c, fun st => (free st).1, fun st => (outOfService st empty).1⟩

/-- The reconciliation of a flight record entry of a compartment neither RESERVED nor RELEASING. -/
theorem reconciliationOfFlownPulses : Claims.ReconciliationOfFlownPulses := by
  intro s c f fit hf nr nl nf t
  have flown : t = s.reconcileFlown c f := reconcileOne_flown fit nr nl hf
  rw [flown, State.reconcileFlown]
  refine ⟨fun service => ?service, fun test => ?test, fun ns nt => ?other⟩
  case service =>
    rw [service]
    refine ⟨fun left door => ?_, fun door => ?_⟩
    · rw [door]
      rfl
    · rw [door]
      have told : (s.setDoor c (some .shut)).custodyWindowShut c .service true =
          (s.setDoor c (some .shut)).serviceDone (s.setDoor c (some .shut)) c .notOpened :=
        (windowShut_else (s := s.setDoor c (some .shut)) nf (.inr ⟨nr, nl⟩) true).trans (if_pos rfl)
      dsimp only
      rw [told]
      exact ⟨setDoor_door_same (s := s) c (some .shut), rfl, rfl⟩
  case test =>
    have clock : (s.reconcileRest c).clock = s.clock := (Inner.reconcileRest c (Inner.refl s)).clock
    rw [test]
    simp only [State.testResult, State.note, Notice.withDetail, clock]
  case other =>
    cases purpose : f.purpose
    case service => exact absurd purpose ns
    case test => exact absurd purpose nt
    all_goals rfl

/-- Settles O56, from the statements on the power events, the start, the baseline sweep and the reconciliation. -/
theorem powerAndReconciliation : Obligations.PowerAndReconciliation :=
  ⟨powerMarksAlone, stopKeepsTheBackupDomain, startRestoresTheBackupDomain, powerEventsThatStartNothing,
    portsTakeTheirRoles, baselineReadSetsTheDoor, sweepsEndRestoring, reconciliationRows,
    reconciliationOfEmptyCompartments, reconciliationOfFlownPulses⟩

end Sys2Proof.Machine
end

section
/-! SUPPORT. What a change inside a step that begins and ends no pulse leaves of the sequencer. `NoPulse s t` says that
the entries in flight and their flight record are those of s, that a column at a pulse is still at one, and that the
bounds of the queue have been kept; `Calm s t` adds that a part in RESTORING whose queue and what feeds it are empty is
still so. The custody table's and the scanner's operations are `Calm`; those that only a part in service makes are
`NoPulse`. -/

namespace Sys2Proof.Machine

/-- The part is in RESTORING, with the queue and what feeds it empty (R170, R193). -/
def State.AtRest (s : State) : Prop := s.power.restoring = true ∧ s.RestoringQuiet

/-- No pulse begins or ends from s to t. A field that a proof leaves out is of a part that the change does not write. -/
structure NoPulse (s t : State) : Prop where
  bound : s.QueueBounded → t.QueueBounded := by exact id
  distinct : s.OneEntryEach → t.OneEntryEach := by exact id
  fewer : t.flying.length ≤ s.flying.length := by exact Nat.le_refl _
  flying : s.OneEntryEach → t.flying = s.flying := by exact fun _ => rfl
  budget : t.seq.budget = s.seq.budget := by exact rfl
  columns : ∀ col, (s.column col).atPulse = true → (t.column col).atPulse = true := by exact fun _ => id
  flight : t.seq.flight = s.seq.flight := by exact rfl
  phase : t.scanner.phase = s.scanner.phase := by exact rfl
  running : t.power.running = s.power.running := by exact rfl
  restoring : t.power.restoring = s.power.restoring := by exact rfl
  acts : ∀ col, .columnActs col ∈ t.signals → .columnActs col ∈ s.signals := by exact fun _ => id

/-- No pulse begins or ends, and RESTORING stays quiet. -/
structure Calm (s t : State) : Prop extends NoPulse s t where
  rest : s.AtRest → t.AtRest := by exact id

variable {s t u : State}

theorem NoPulse.refl (s : State) : NoPulse s s := {}

theorem NoPulse.trans (a : NoPulse s t) (b : NoPulse t u) : NoPulse s u where
  bound := b.bound ∘ a.bound
  distinct := b.distinct ∘ a.distinct
  fewer := b.fewer.trans a.fewer
  flying one := (b.flying (a.distinct one)).trans (a.flying one)
  budget := b.budget.trans a.budget
  columns col := b.columns col ∘ a.columns col
  flight := b.flight.trans a.flight
  phase := b.phase.trans a.phase
  running := b.running.trans a.running
  restoring := b.restoring.trans a.restoring
  acts col := a.acts col ∘ b.acts col

theorem Calm.refl (s : State) : Calm s s := {}

theorem Calm.trans (a : Calm s t) (b : Calm t u) : Calm s u := ⟨a.toNoPulse.trans b.toNoPulse, b.rest ∘ a.rest⟩

theorem NoPulse.calm (a : NoPulse s t) (b : Calm t u) : NoPulse s u := a.trans b.toNoPulse

/-- Outside RESTORING there is no rest to keep. -/
theorem NoPulse.busy (h : NoPulse s t) (busy : ¬ s.AtRest) : Calm s t := ⟨h, fun rest => absurd rest busy⟩

/-- A fold of such changes. -/
theorem NoPulse.foldl {α : Type} (f : State → α → State) (hf : ∀ u x, NoPulse s u → NoPulse s (f u x)) :
    ∀ (l : List α) (u : State), NoPulse s u → NoPulse s (l.foldl f u)
  | [], _, h => h
  | x :: l, u, h => NoPulse.foldl f hf l (f u x) (hf u x h)

theorem Calm.foldl {α : Type} (f : State → α → State) (hf : ∀ u x, Calm s u → Calm s (f u x)) :
    ∀ (l : List α) (u : State), Calm s u → Calm s (l.foldl f u)
  | [], _, h => h
  | x :: l, u, h => Calm.foldl f hf l (f u x) (hf u x h)

/-! ### Other blocks -/

/-- A consequence is noted, but for a column's act after its pulse. -/
theorem NoPulse.emit (h : NoPulse s t) (g : Signal) (other : ∀ col, g ≠ .columnActs col) : NoPulse s (t.emit g) :=
  h.trans { acts := fun col noted =>
    (List.mem_append.mp noted).resolve_right fun same => other col (List.mem_singleton.mp same).symm }

theorem Calm.emit (h : Calm s t) (g : Signal) (other : ∀ col, g ≠ .columnActs col) : Calm s (t.emit g) :=
  h.trans ⟨(NoPulse.refl t).emit g other, id⟩

@[simp] theorem Calm.markArbiter (h : Calm s t) : Calm s t.markArbiter := h.trans {}
@[simp] theorem Calm.latch (h : Calm s t) (x : Sense) : Calm s (t.latch x) := h.trans {}
@[simp] theorem Calm.onPort (h : Calm s t) (p : Fin 4) (f : PortUnit → PortUnit) : Calm s (t.onPort p f) := h.trans {}
@[simp] theorem Calm.post (h : Calm s t) (r : Role) (n : Notice) : Calm s (t.post r n) := h.trans {}
@[simp] theorem Calm.updHolding (h : Calm s t) (c : Comp) (f : Holding → Holding) : Calm s (t.updHolding c f) :=
  h.trans {}
@[simp] theorem Calm.addCause (h : Calm s t) (c : Comp) (k : ReviewCause) : Calm s (t.addCause c k) := h.updHolding ..
@[simp] theorem Calm.putRecord (h : Calm s t) (n : RecordNo) (k : Option Consignment) : Calm s (t.putRecord n k) :=
  h.trans {}
@[simp] theorem Calm.updRecord (h : Calm s t) (n : RecordNo) (f : Consignment → Consignment) :
    Calm s (t.updRecord n f) := h.trans {}
@[simp] theorem Calm.raiseLive (h : Calm s t) (i : Fin 8) (n : Nat) : Calm s (t.raiseLive i n) := h.trans {}
@[simp] theorem Calm.putSlot (h : Calm s t) (i : RingSlot) (x : Slot) : Calm s (t.putSlot i x) := h.trans {}
@[simp] theorem Calm.setDoor (h : Calm s t) (c : Comp) (d : Option Door) : Calm s (t.setDoor c d) := h.trans {}
@[simp] theorem Calm.setOwed (h : Calm s t) (col : Column) (b : Bool) : Calm s (t.setOwed col b) := h.trans {}
@[simp] theorem Calm.serviceDone (h : Calm s t) (b : State) (c : Comp) (d : Detail) : Calm s (t.serviceDone b c d) :=
  h.post ..
@[simp] theorem Calm.noteForced (h : Calm s t) (c : Comp) (b : Bool) : Calm s (t.noteForced c b) := h.post ..
@[simp] theorem Calm.testResult (h : Calm s t) (c : Comp) (d : Detail) (q : Option Detail) :
    Calm s (t.testResult c d q) := h.post ..
@[simp] theorem Calm.departed (h : Calm s t) : Calm s t.departed := (h.emit .departed (by simp)).markArbiter

@[simp] theorem Calm.postBoth (h : Calm s t) (a b : Role) (n : Notice) : Calm s (t.postBoth a b n) := by
  unfold State.postBoth
  split
  · exact h.post ..
  · exact (h.post ..).post ..

@[simp] theorem Calm.setEntry (h : Calm s t) (c : Comp) (e : CompartmentEntry) : Calm s (t.setEntry c e) := by
  have written : Calm s (t.putEntry c e) := h.trans {}
  unfold State.setEntry
  split
  · exact written.emit _ (by simp)
  · exact written

@[simp] theorem Calm.setCustody (h : Calm s t) (c : Comp) (st : CustodyState) : Calm s (t.setCustody c st) :=
  h.setEntry ..

/-! ### The window and the charges -/

/-- A window that is empty stays empty. -/
theorem Calm.setWindow (h : Calm s t) (w : List WindowRecord) (empty : t.engine.window = [] → w = []) :
    Calm s (t.setWindow w) :=
  h.trans { rest := fun ⟨restoring, queue, pending, paid, window, rest⟩ =>
    ⟨restoring, queue, pending, paid, empty window, rest⟩ }

@[simp] theorem Calm.reportDrop (h : Calm s t) (n : RingSlot) (c : Comp) (o : Status) (m : Option Nat) :
    Calm s (t.reportDrop n c o m) :=
  (h.setWindow _ fun none => by rw [none]; rfl).emit _ (by simp)

@[simp] theorem Calm.reportClaim (h : Calm s t) (c : Comp) (e : ClaimEnd) : Calm s (t.reportClaim c e) :=
  (h.setWindow _ fun none => by rw [none]; rfl).emit _ (by simp)

@[simp] theorem Calm.reportOrigin (h : Calm s t) (o : Origin) (c : Comp) (st : Status) (m : Option Nat) :
    Calm s (t.reportOrigin o c st m) := by
  cases o with
  | slot n => exact h.reportDrop ..
  | console => exact h

/-- At rest no charge is live (R125). -/
theorem State.AtRest.not_live (h : t.AtRest) (i : ChargeSlot) : (t.charge i).state.isLive = false := by
  obtain ⟨-, -, -, -, -, -, free⟩ := h
  rw [free i]
  rfl

theorem NoPulse.endCharge (h : NoPulse s t) (i : ChargeSlot) (st : ChargeState) (k : Option EndCause) (m : Option Nat) :
    NoPulse s (t.endCharge i st k m) := by
  unfold State.endCharge
  dsimp only
  split
  · exact h.trans {}
  · exact h.trans {}

/-- The charge that a consignment's open charge reference finds in a live state is live (R126, R127). -/
theorem openChargeIs_live {k : Consignment} {ref : ChargeRef} {st : ChargeState} (href : k.openRef = some ref)
    (found : t.openChargeIs k st = true) (live : st.isLive = true) : (t.charge ref.slot).state.isLive = true := by
  obtain ⟨ref', r, named, hr, rfl⟩ := (openChargeIs_iff k st).mp found
  cases href.symm.trans named
  rw [chargeNamed_charge hr]
  exact live

@[simp] theorem Calm.voidOpen (h : Calm s t) (k : Consignment) (cause : EndCause) : Calm s (t.voidOpen k cause) := by
  unfold State.voidOpen
  split
  · rename_i ref href
    split
    · rename_i found
      refine h.trans (((NoPulse.refl t).endCharge ..).busy fun rest => ?_)
      simpa [rest.not_live] using openChargeIs_live href found rfl
    · exact h
  · exact h

@[simp] theorem Calm.voidRetired (h : Calm s t) (k : Consignment) : Calm s (t.voidRetired k) := by
  unfold State.voidRetired
  split
  · rename_i ref href
    split
    · rename_i found
      refine h.trans (((NoPulse.refl t).endCharge ..).busy fun rest => ?_)
      rcases (Bool.or_eq_true ..).mp found with opened | presented
      · simpa [rest.not_live] using openChargeIs_live href opened rfl
      · simpa [rest.not_live] using openChargeIs_live href presented rfl
    · exact h
  · exact h

/-! ### Columns and the queue -/

@[simp] theorem Calm.tellScanner (h : Calm s t) (col : Column) : Calm s (t.tellScanner col) := by
  unfold State.tellScanner
  split
  · exact h.emit _ (by simp)
  · exact h

/-- A column's state changes, and a column at a pulse is still at one. -/
theorem Calm.putColumn (h : Calm s t) (col : Column) (st : ColumnState)
    (kept : (t.column col).atPulse = true → st.atPulse = true) : Calm s (t.putColumn col st) :=
  have columns : ∀ d, (t.column d).atPulse = true →
      ((t.putColumn col st).column d).atPulse = true := fun d pulse => by
    by_cases same : d = col
    · subst same
      rw [putColumn_column_same]
      exact kept pulse
    · rw [putColumn_column_other _ _ _ _ same]
      exact pulse
  h.trans { columns := columns }

theorem Calm.setColumn (h : Calm s t) (col : Column) (st : ColumnState)
    (kept : (t.column col).atPulse = true → st.atPulse = true) : Calm s (t.setColumn col st) :=
  ((h.putColumn col st kept).markArbiter).tellScanner col

/-- An ARMED column disarms (R152). -/
theorem Calm.disarm (h : Calm s t) {col : Column} {run : Nat} (armed : t.column col = .armed run) :
    Calm s (t.disarm col) := h.setColumn _ _ fun pulse => by rw [armed] at pulse; cases pulse

@[simp] theorem Calm.disarmIfLast (h : Calm s t) (col : Column) : Calm s (t.disarmIfLast col) := by
  unfold State.disarmIfLast
  split
  · rename_i armed
    split
    · exact h
    · exact h.disarm armed
  all_goals exact h

/-- Where every compartment has one entry, no entry in flight has the compartment of a queued one (R147). -/
theorem flying_comp_ne {e f : Entry} (one : t.OneEntryEach) (queued : e ∈ t.seq.queue) (waits : e.inFlight = false)
    (flies : f ∈ t.flying) : f.comp ≠ e.comp := by
  obtain ⟨there, flown⟩ := List.mem_filter.mp flies
  intro same
  cases List.inj_on_of_nodup_map one there queued same
  rw [waits] at flown
  cases flown

/-- The entry of a compartment that has none in flight leaves the queue. -/
theorem Calm.dropEntry (h : Calm s t) (c : Comp) (queued : s.OneEntryEach → ∀ f ∈ s.flying, f.comp ≠ c) :
    Calm s (t.dropEntry c) where
  toNoPulse :=
    { h.toNoPulse with
      bound := fun le => (List.length_filter_le _ _).trans (h.bound le)
      distinct := fun one => (List.filter_sublist.map _).nodup (h.distinct one)
      fewer := ((List.filter_sublist.filter _).length_le).trans h.fewer
      flying := fun one => by
        have dropped : (t.dropEntry c).flying = t.flying.filter fun f => f.comp != c := List.filter_comm ..
        rw [dropped, h.flying one, List.filter_eq_self]
        simpa using queued one }
  rest := fun rest => by
    obtain ⟨restoring, queue, others⟩ := h.rest rest
    refine ⟨restoring, ?_, others⟩
    show t.seq.queue.filter _ = []
    rw [queue]
    rfl

@[simp] theorem Calm.withdraw (h : Calm s t) (c : Comp) : Calm s (t.withdraw c) := by
  unfold State.withdraw
  split
  · rename_i found
    refine h.trans ((((Calm.refl t).dropEntry c fun one f flies => ?_).departed).disarmIfLast _)
    unfold State.withdrawalFinds State.entryOf at found
    split at found
    · cases found
    · rename_i e he
      have comp : e.comp = c := by simpa using List.find?_some he
      rw [← comp]
      refine flying_comp_ne one (List.mem_of_find?_eq_some he) ?_ flies
      simpa using found
  all_goals exact h

/-- A pending service set that is empty stays empty. -/
theorem Calm.setPending (h : Calm s t) (l : List Comp) (empty : t.seq.pendingService = [] → l = []) :
    Calm s (t.setPending l) :=
  h.trans { rest := fun ⟨restoring, queue, pending, others⟩ => ⟨restoring, queue, empty pending, others⟩ }

theorem Calm.unpend (h : Calm s t) (c : Comp) : Calm s (t.setPending (t.seq.pendingService.filter (· != c))) :=
  h.setPending _ fun none => by rw [none]; rfl

end Sys2Proof.Machine
end

section
/-! SUPPORT. `Calm` for the operations of the custody table, of the scanner and for failed entries: none of them begins
or ends a pulse, and none of them queues a release. -/

namespace Sys2Proof.Machine

variable {s t : State}

/-! ### The custody table -/

@[simp] theorem Calm.leaveRecord (h : Calm s t) (n : RecordNo) (c : Comp) : Calm s (t.leaveRecord n c) := by
  have lowered : ∀ i, Calm s (t.lowerLive i) := fun _ => h.trans {}
  unfold State.leaveRecord
  split
  · exact h
  · dsimp only
    split
    · exact ((lowered _).voidRetired _).trans { rest := fun ⟨restoring, queue, pending, paid, others⟩ =>
        ⟨restoring, queue, pending, (congrArg (List.filter _) paid).trans rfl, others⟩ }
    · exact (lowered _).putRecord ..

@[simp] theorem Calm.removeHolding (h : Calm s t) (c : Comp) (st : CustodyState) (k : Option OosCause) :
    Calm s (t.removeHolding c st k) := by
  unfold State.removeHolding
  split
  · exact h
  · exact (h.setEntry ..).leaveRecord ..

@[simp] theorem Calm.outOfService (h : Calm s t) (c : Comp) (k : OosCause) : Calm s (t.outOfService c k) :=
  h.setEntry ..

@[simp] theorem Calm.enterReview (h : Calm s t) (c : Comp) (k : ReviewCause) : Calm s (t.enterReview c k) :=
  ((h.updHolding ..).setCustody ..).post ..

@[simp] theorem Calm.toRest (h : Calm s t) (c : Comp) : Calm s (t.toRest c) := by
  unfold State.toRest
  split
  · exact (h.updHolding ..).setCustody ..
  · exact h

@[simp] theorem Calm.claim (h : Calm s t) (c : Comp) (w : Claimant) : Calm s (t.claim c w) :=
  (h.updHolding ..).setCustody ..

@[simp] theorem Calm.lapse (h : Calm s t) (c : Comp) : Calm s (t.lapse c) := by
  unfold State.lapse
  split <;> simp [h]

@[simp] theorem Calm.custodyOpened (h : Calm s t) (c : Comp) (k : ReleaseClass) : Calm s (t.custodyOpened c k) := by
  unfold State.custodyOpened
  split <;> simp [h]

@[simp] theorem Calm.shutReleasing (h : Calm s t) (c : Comp) (b : Bool) : Calm s (t.shutReleasing c b) := by
  unfold State.shutReleasing
  split
  · split <;> simp [h]
  · exact h.lapse c

@[simp] theorem Calm.shutReserved (h : Calm s t) (c : Comp) (b : Bool) : Calm s (t.shutReserved c b) := by
  unfold State.shutReserved
  split
  · exact h
  · exact ((h.removeHolding ..).post ..).reportOrigin ..

@[simp] theorem Calm.custodyWindowShut (h : Calm s t) (c : Comp) (k : ReleaseClass) (b : Bool) :
    Calm s (t.custodyWindowShut c k b) := by
  unfold State.custodyWindowShut
  split
  case h_4 => cases k <;> simp [h]
  all_goals simp [h]

@[simp] theorem Calm.inspect (h : Calm s t) (c : Comp) (p : Presence) : Calm s (t.inspect c p).1 := by
  have foreign : Calm s (t.foreignObject c) := (h.outOfService ..).post ..
  have missing : Calm s (t.missing c) := by
    unfold State.missing
    dsimp only
    split <;> simp [h]
  unfold State.inspect
  repeat' split
  all_goals simp [h, foreign, missing]

@[simp] theorem Calm.custodyInspection (h : Calm s t) (c : Comp) (p : Presence) (b : Bool) :
    Calm s (t.custodyInspection c p b) := by
  unfold State.custodyInspection
  dsimp only
  split <;> simp [h]

@[simp] theorem Calm.depositDone (h : Calm s t) (c : Comp) (x : Holding) : Calm s (t.depositDone c x) := by
  have deposited := fun f st => (h.updHolding c f).setCustody c st
  unfold State.depositDone
  dsimp only
  split <;> simp [deposited]

@[simp] theorem Calm.depositEmpty (h : Calm s t) (c : Comp) (x : Holding) : Calm s (t.depositEmpty c x) := by
  have removed := h.removeHolding c .free none
  unfold State.depositEmpty
  split <;> simp [removed]

@[simp] theorem Calm.removalDone (h : Calm s t) (c : Comp) (x : Holding) : Calm s (t.removalDone c x) := by
  have removed := h.removeHolding c .free none
  unfold State.removalDone
  dsimp only
  split <;> simp [removed]

@[simp] theorem Calm.removalIncomplete (h : Calm s t) (c : Comp) (x : Holding) : Calm s (t.removalIncomplete c x) := by
  have rested := (h.toRest c).updHolding c fun x => { x with collectIncomplete := true }
  unfold State.removalIncomplete
  dsimp only
  split <;> simp [rested]

@[simp] theorem Calm.custodyClosure (h : Calm s t) (c : Comp) (p : Presence) (k : OpeningKind) :
    Calm s (t.custodyClosure c p k) := by
  unfold State.custodyClosure
  repeat' split
  all_goals simp [h]

@[simp] theorem Calm.forcedReserved (h : Calm s t) (c : Comp) (x : Holding) : Calm s (t.forcedReserved c x) := by
  have removed := ((h.noteForced c true).withdraw c).removeHolding c .outOfService (some .forced)
  unfold State.forcedReserved
  dsimp only
  split <;> simp [removed]

@[simp] theorem Calm.forcedReleasing (h : Calm s t) (c : Comp) (x : Holding) : Calm s (t.forcedReleasing c x) := by
  have reviewed := (((h.noteForced c false).withdraw c).unpend c).enterReview c .forced
  unfold State.forcedReleasing
  dsimp only
  split <;> simp [reviewed]

@[simp] theorem Calm.custodyForced (h : Calm s t) (c : Comp) : Calm s (t.custodyForced c) := by
  unfold State.custodyForced
  split <;> simp [h]

@[simp] theorem Calm.custodyFailed (h : Calm s t) (c : Comp) (f : Failure) : Calm s (t.custodyFailed c f) := by
  have reserved : ∀ x, Calm s (t.failReserved c f x) := fun x => by
    unfold State.failReserved
    cases f <;> exact (h.removeHolding ..).reportOrigin ..
  have faulted := (h.updHolding c fun x => { x with claimant := none }).outOfService c .lockFault
  have rested := h.toRest c
  have releasing : ∀ x, Calm s (t.failReleasing c f x) := fun x => by
    unfold State.failReleasing
    cases f <;> dsimp only <;> split <;> simp [faulted, rested]
  unfold State.custodyFailed
  split
  · exact reserved _
  · exact releasing _
  all_goals cases f <;> simp [h]

@[simp] theorem Calm.dropReserved (h : Calm s t) (c : Comp) : Calm s (t.dropReserved c) := by
  unfold State.dropReserved
  split
  · exact (h.removeHolding ..).reportOrigin ..
  · exact h

@[simp] theorem Calm.feeCondition (h : Calm s t) (k : Consignment) (c : Option Comp) (x : CondSet) (d : Detail) :
    Calm s (t.feeCondition k c x d) := by
  refine (Calm.foldl _ (fun u p hu => ?_) _ _ h).post ..
  unfold State.feeConditionPiece
  split <;> simp [hu]

@[simp] theorem Calm.overstayScan (h : Calm s t) : Calm s t.overstayScan := by
  refine Calm.foldl _ (fun u c hu => ?_) _ _ h
  have overstayed := fun f => (hu.updHolding c f).setCustody c .overstayed
  unfold State.scanOne
  dsimp only
  repeat' split
  all_goals simp [hu, overstayed]

/-! ### Failed entries -/

@[simp] theorem Calm.failEntry (h : Calm s t) (e : Entry) (f : Failure) : Calm s (t.failEntry e f) :=
  ((h.custodyFailed ..).postBoth ..).departed

/-- The queued entries of a column fail, and those in flight stay (R159). -/
@[simp] theorem Calm.failColumn (h : Calm s t) (col : Column) : Calm s (t.failColumn col) := by
  have queued : ∀ l : List Entry, (∀ e ∈ l, e ∈ t.seq.queue ∧ e.inFlight = false) → ∀ u, Calm t u →
      Calm t (l.foldl (fun u e => (u.dropEntry e.comp).failEntry e .columnDown) u) := by
    intro l
    induction l with
    | nil => exact fun _ _ hu => hu
    | cons e l ih =>
      intro waiting u hu
      obtain ⟨there, waits⟩ := waiting e (List.mem_cons_self ..)
      exact ih (fun f hf => waiting f (List.mem_cons_of_mem _ hf)) _
        ((hu.dropEntry e.comp fun one f flies => flying_comp_ne one there waits flies).failEntry ..)
  refine h.trans (queued _ (fun e he => ?_) t (.refl t))
  obtain ⟨there, target⟩ := List.mem_filter.mp he
  exact ⟨there, by simpa using ((Bool.and_eq_true ..).mp target).2⟩

/-! ### The scanner -/

@[simp] theorem Calm.applySample (h : Calm s t) (c : Comp) : Calm s (t.applySample c) := by
  have fitting : Calm s (t.fittingRead c) := by
    unfold State.fittingRead
    repeat' split
    all_goals simp [h]
  have confirmed : ∀ k, Calm s (t.confirmClosure c k) := fun k => (h.setDoor ..).custodyClosure ..
  unfold State.applySample
  split <;> simp [h, fitting, confirmed]

theorem Calm.baselineSample (h : Calm s t) (c : Comp) : Calm s (t.baselineSample c) := by
  unfold State.baselineSample
  split
  · exact h
  · split
    · exact h.setDoor ..
    · exact (h.setDoor c (some .shut)).trans {}

@[simp] theorem Calm.readColumn (h : Calm s t) (col : Column) : Calm s (t.readColumn col) := by
  refine Calm.foldl _ (fun u p hu => ?_) _ _ (h.setOwed col false)
  split
  · exact hu.baselineSample _
  · exact hu.applySample _

@[simp] theorem Calm.owedRead (h : Calm s t) (col : Column) : Calm s (t.owedRead col) := by
  unfold State.owedRead
  split
  · exact h.readColumn col
  · exact h

@[simp] theorem Calm.noteInterrupted (h : Calm s t) (b : State) (c : Comp) (d : Detail) :
    Calm s (t.noteInterrupted b c d) := by
  unfold State.noteInterrupted
  split <;> simp [h]

@[simp] theorem Calm.reconcileRest (h : Calm s t) (c : Comp) : Calm s (t.reconcileRest c) := by
  unfold State.reconcileRest
  split <;> simp [h]

/-- The reconciliation of one compartment (R194 to R196). -/
theorem Calm.reconcileOne (h : Calm s t) (c : Comp) : Calm s (t.reconcileOne c) := by
  have shut := h.setDoor c (some .shut)
  have cut : Calm s (t.reconcileCut c) := by
    unfold State.reconcileCut
    split
    · exact (h.setDoor ..).custodyOpened ..
    · exact (shut.custodyWindowShut ..).noteInterrupted ..
  have waiting : Calm s (t.reconcileWaiting c) := by
    unfold State.reconcileWaiting State.revert
    split
    · exact (h.setDoor ..).custodyForced c
    · refine Calm.noteInterrupted ?_ ..
      split
      · exact shut.removeHolding ..
      all_goals exact shut.toRest c
  have flown : ∀ f, Calm s (t.reconcileFlown c f) := fun f => by
    unfold State.reconcileFlown
    repeat' split
    all_goals simp [h]
  unfold State.reconcileOne
  repeat' split
  all_goals simp [h, cut, waiting, flown]

theorem Calm.advanceSweep (h : Calm s t) : Calm s t.advanceSweep := by
  unfold State.advanceSweep
  split
  · exact h.trans {}
  · exact h.trans {}

theorem Calm.takeColumn (h : Calm s t) : Calm s t.takeColumn := by
  unfold State.takeColumn
  dsimp only
  split
  · exact h.setOwed ..
  · exact h.readColumn _

theorem Calm.windowEnds (h : Calm s t) (c : Comp) : Calm s (t.windowEnds c) := by
  unfold State.windowEnds
  split <;> simp [h]

theorem Calm.ajarEnds (h : Calm s t) (c : Comp) : Calm s (t.ajarEnds c) := by
  unfold State.ajarEnds
  split <;> simp [h]

end Sys2Proof.Machine
end

section
/-! SUPPORT. `NoPulse` for release requests and the manifest engine, and `Calm` for the consequences of a step: a part
at rest in RESTORING has nothing that would feed, start, retire, offer or move. -/

namespace Sys2Proof.Machine

variable {s t : State}

/-! ### Requests -/

/-- An entry that is not in flight joins a queue that has room and no entry of its compartment (R146). -/
theorem NoPulse.join (h : NoPulse s t) (e : Entry) (waits : e.inFlight = false)
    (room : t.seq.queue.length < Config.queueCap) (new : t.hasEntry e.comp = false) : NoPulse s (t.join e) := by
  have joins := Inner.join e waits room new (Inner.refl t)
  have flying : (t.join e).flying = t.flying := by
    show (t.seq.queue ++ [e]).filter (·.inFlight) = t.seq.queue.filter (·.inFlight)
    simp [waits]
  exact h.trans { bound := joins.queue, distinct := joins.distinct, fewer := flying ▸ Nat.le_refl _
                  flying := fun _ => flying }

/-- A release request, taken or refused (R146). -/
theorem NoPulse.request (h : NoPulse s t) (e : Entry) (waits : e.inFlight = false) : NoPulse s (t.request e) := by
  unfold State.request
  split
  · exact h
  · exact h
  · rename_i taken
    obtain ⟨new, room⟩ := requestAnswer_taken taken
    split
    · exact h.calm ((Calm.refl t).failEntry ..)
    · exact h.join e waits room new

/-! ### The manifest engine -/

theorem NoPulse.setEngine (h : NoPulse s t) (e : EngineState) : NoPulse s (t.setEngine e) := h.trans {}

theorem NoPulse.started (h : NoPulse s t) (rs : List WindowRecord) : NoPulse s (t.started rs) := h.trans {}

theorem NoPulse.afterStart (h : NoPulse s t) : NoPulse s t.afterStart :=
  ((h.emit .feed (by simp)).emit .retire (by simp)).emit .look (by simp)

@[simp] theorem Calm.reserve (h : Calm s t) (c : Comp) (x : Holding) : Calm s (t.reserve c x) := h.setEntry ..

theorem Calm.commitGroup (h : Calm s t) (n : RecordNo) (i : Fin 8) (code cod : Nat) (ps : List Placed) :
    Calm s (t.commitGroup n i code cod ps) := by
  unfold State.commitGroup
  dsimp only
  exact (Calm.foldl _ (fun _ _ hu => hu.reserve ..) _ _ (h.trans {})).raiseLive ..

theorem NoPulse.startPlaced (h : NoPulse s t) (d : Descriptor) (i : Fin 8) (ps : List Placed) (n : RecordNo) :
    NoPulse s (t.startPlaced d i ps n) := by
  unfold State.startPlaced
  dsimp only
  refine NoPulse.foldl _ (fun _ _ hu => hu.request _ rfl) _ _ (NoPulse.started ?_ _)
  refine h.calm (Calm.commitGroup ?_ ..)
  split
  · exact .refl t
  · exact {}

theorem NoPulse.startGroup (h : NoPulse s t) (n : Nat) : NoPulse s (t.startGroup n) := by
  unfold State.startGroup
  dsimp only
  refine NoPulse.afterStart ?_
  split
  · exact h.started _
  · split
    · exact h.started _
    · exact h.startPlaced ..
    · exact h.started _

theorem NoPulse.startRecall (h : NoPulse s t) : NoPulse s t.startRecall := by
  have claimed : ∀ rs c, NoPulse s ((t.started rs).claim c .carrier) := fun rs c =>
    (h.started rs).calm ((Calm.refl _).claim ..)
  have recalled : ∀ d ref i, NoPulse s (t.recallFrom d ref i) := fun d ref i => by
    unfold State.recallFrom
    dsimp only
    split
    · exact (claimed _ _).request _ rfl
    · split
      · exact h.started _
      · exact h.started _
  unfold State.startRecall
  dsimp only
  refine NoPulse.afterStart ?_
  split
  · exact h.started _
  · split
    · exact h.started _
    · exact h.started _
    · split
      · exact recalled ..
      · exact h.started _

theorem NoPulse.startPickup (h : NoPulse s t) : NoPulse s t.startPickup := by
  unfold State.startPickup
  dsimp only
  refine NoPulse.afterStart ?_
  split
  · exact h.started _
  · exact h.started _
  · split
    · exact (h.started _).calm (Calm.foldl _ (fun _ _ hu => hu.claim ..) _ _ (.refl _))
    · exact h.started _

theorem NoPulse.suspend (h : NoPulse s t) (i : RingSlot) : NoPulse s (t.suspend i) :=
  (h.setEngine _).calm ((Calm.refl _).post ..)

theorem NoPulse.lookDrop (h : NoPulse s t) : NoPulse s t.lookDrop := by
  unfold State.lookDrop
  dsimp only
  split
  · split
    · exact h.suspend _
    · split
      · exact (h.started _).afterStart
      · exact h
    · split
      · exact h.startGroup _
      · exact h
  · split
    · exact (h.started _).afterStart
    · exact h

/-- An engine that is not STOPPED is not at rest. -/
theorem not_atRest_of_engine (h : t.engine.state ≠ .stopped) : ¬ t.AtRest :=
  fun ⟨_, _, _, _, _, stopped, _⟩ => h stopped

theorem Calm.lookNow (h : Calm s t) : Calm s t.lookNow := by
  have start := NoPulse.refl t
  unfold State.lookNow
  dsimp only
  split
  · exact h
  · rename_i running
    refine h.trans (NoPulse.busy ?_ (not_atRest_of_engine fun stopped => running (by rw [stopped]; decide)))
    split
    · exact start.suspend _
    · split
      · exact start.lookDrop
      · split
        · exact start.startRecall
        · exact start
      · split
        · exact start.startPickup
        · exact start

theorem NoPulse.retireAll : ∀ (l : List WindowRecord) (t : State), NoPulse s t → NoPulse s (State.retireAll l t)
  | [], _, h => h
  | r :: l, t, h => by
    unfold State.retireAll
    split
    · refine NoPulse.retireAll l _ ?_
      unfold State.retireOne
      dsimp only
      split
      · exact h.trans {}
      · exact h.trans {}
    · exact h

/-- A part at rest has nothing to retire (R86). -/
theorem retireNow_atRest (h : t.AtRest) : t.retireNow = t := by
  obtain ⟨-, -, -, -, window, stopped, -⟩ := h
  have none : State.retireAll t.engine.window t = t := by
    rw [window]
    rfl
  unfold State.retireNow
  dsimp only
  rw [none, stopped]

theorem Calm.retireNow (h : Calm s t) : Calm s t.retireNow := by
  by_cases rest : t.AtRest
  · rw [retireNow_atRest rest]
    exact h
  · refine h.trans (NoPulse.busy ?_ rest)
    have retired := NoPulse.retireAll t.engine.window t (.refl t)
    unfold State.retireNow
    dsimp only
    split
    · split
      · exact retired.trans {}
      · exact retired
    · split
      · exact retired.emit _ (by simp)
      · exact retired
    all_goals exact retired

/-- A window that is not empty is not at rest. -/
theorem not_atRest_of_window {r : WindowRecord} (h : r ∈ t.engine.window) : ¬ t.AtRest :=
  fun ⟨_, _, _, _, window, _⟩ => by rw [window] at h; cases h

theorem Calm.feedOne (h : Calm s t) : Calm s t.feedOne := by
  unfold State.feedOne
  split
  · exact h
  · rename_i c found
    have busy : ¬ t.AtRest := by
      unfold State.feedNow at found
      split at found
      · obtain ⟨r, there, -⟩ := List.exists_of_findSome?_eq_some found
        exact not_atRest_of_window there
      · cases found
    have fed : ∀ w, NoPulse t (t.setWindow w) := fun _ => {}
    exact h.trans ((((fed _).request _ rfl).emit .feed (by simp)).busy busy)

/-- Stop withdraws queued entries and drops their reservations (R88). -/
theorem Calm.engineStop (h : Calm s t) : Calm s t.engineStop := by
  have stops : t.engine.state ≠ .stopped →
      Calm s ((t.engine.window.foldl State.stopRecord (t.setEngine .stopping)).emit .retire) := fun runs => by
    have records : Calm (t.setEngine .stopping) (t.engine.window.foldl State.stopRecord (t.setEngine .stopping)) := by
      refine Calm.foldl _ (fun u r hu => ?_) _ _ (.refl _)
      unfold State.stopRecord
      split
      · split
        · exact (hu.withdraw _).dropReserved _
        · exact hu
        · exact hu
      · exact hu
    exact h.trans (((((NoPulse.refl t).setEngine .stopping).calm records).emit .retire (by simp)).busy
      (not_atRest_of_engine runs))
  unfold State.engineStop
  split
  · rename_i running
    exact stops (by rw [running]; decide)
  · rename_i suspended
    exact stops (by rw [suspended]; decide)
  · exact h
  · exact h

/-! ### The consequences of a step -/

theorem Calm.offerPaid (h : Calm s t) : Calm s t.offerPaid := by
  unfold State.offerPaid
  split
  · exact h
  · rename_i waiting
    have busy : ¬ t.AtRest := fun ⟨_, _, _, paid, _⟩ => by rw [paid] at waiting; cases waiting
    split
    · exact h
    · split
      · have offered : ∀ l, NoPulse t { t with paidReturns := l } := fun _ => {}
        exact h.trans (((offered _).request _ rfl).busy busy)
      · exact h
      · exact h

theorem NoPulse.movePass : ∀ (l : List Comp) (t : State), NoPulse s t → NoPulse s (State.movePass l t)
  | [], _, h => h
  | c :: l, t, h => by
    have left : ∀ l, NoPulse s (t.setPending l) := fun _ => h.trans {}
    unfold State.movePass
    split
    · exact h
    · split
      · exact NoPulse.movePass l _ ((left _).calm ((Calm.refl _).failEntry ..))
      · split
        · exact NoPulse.movePass l _ h
        · exact NoPulse.movePass l _ ((left _).request _ rfl)

theorem Calm.movePending (h : Calm s t) : Calm s t.movePending := by
  unfold State.movePending
  split
  · by_cases rest : t.AtRest
    · obtain ⟨-, -, pending, -⟩ := id rest
      rw [pending]
      exact h
    · exact h.trans ((NoPulse.movePass _ t (.refl t)).busy rest)
  · exact h

/-- What a departure tells is no column's act. -/
theorem Calm.tellDeparture (h : Calm s t) : Calm s t.tellDeparture := by
  have told : ∀ order col, Signal.columnActs col ∉ (askOrders order).flatMap Asker.signals := by decide
  have acts : ∀ order col, .columnActs col ∈ t.signals ++ (askOrders order).flatMap Asker.signals →
      .columnActs col ∈ t.signals := fun order col noted => (List.mem_append.mp noted).resolve_right (told order col)
  unfold State.tellDeparture
  split
  · exact h.trans { acts := acts _ }
  · exact h.trans { acts := acts _ }

/-- A consequence begins and ends no pulse, but for a column's act after its pulse. -/
theorem Calm.work (h : Calm s t) (g : Signal) (other : ∀ col, g ≠ .columnActs col) : Calm s (t.work g) := by
  cases g with
  | departed => exact h.tellDeparture
  | feed => exact h.feedOne
  | look => exact h.lookNow
  | retire => exact h.retireNow
  | offerPaid => exact h.offerPaid
  | movePending => exact h.movePending
  | owedRead col => exact h.owedRead col
  | columnActs col => exact absurd rfl (other col)

end Sys2Proof.Machine
end

section
/-! SUPPORT. The arbiter: what makes an entry eligible or holds it back, its choice, what it takes, and its look at the
end of a step (R153 to R156). -/

namespace Sys2Proof.Machine

variable {s : State} {e : Entry}

/-! ### Eligibility and hold (R154, R156) -/

/-- The budget is open and PFAIL is negated (R154). -/
theorem budgetOpen_iff : s.budgetOpen = true ↔ s.flying.length < s.seq.budget ∧ s.power.pfail = false := by
  simp [State.budgetOpen]

/-- The column states that admit an entry (R154, R161). -/
theorem columnAdmits_iff : s.columnAdmits e = true ↔
    if e.cls = .test ∧ e.restore = true then s.column e.comp.column = .disabled
    else s.column e.comp.column = .idle ∨ ∃ run, s.column e.comp.column = .armed run := by
  unfold State.columnAdmits
  by_cases restore : e.cls = .test ∧ e.restore = true
  · rw [if_pos restore]
    split <;> simp [*]
  · have other : (e.cls == .test && e.restore) = false := by simpa using restore
    rw [if_neg restore]
    split <;> simp [*]

theorem armingOrArmed_iff (st : ColumnState) :
    st.armingOrArmed = true ↔ (∃ left, st = .arming left) ∨ ∃ run, st = .armed run := by
  cases st <;> simp [ColumnState.armingOrArmed]

/-- The pairing condition of a CUSTODY entry (R154). -/
theorem pairingHolds_custody (cls : e.cls = .custody) :
    s.pairingHolds e = true ↔ ∀ f ∈ s.flying, f.cls = .custody := by
  simp [State.pairingHolds, cls]

/-- The pairing condition of a SERVICE or TEST entry (R154). -/
theorem pairingHolds_other (cls : e.cls ≠ .custody) : s.pairingHolds e = true ↔
    s.flying = [] ∧ ∀ c, c ≠ e.comp.column → (s.column c).armingOrArmed = false := by
  have alone : s.pairingHolds e = (s.flying.isEmpty && (List.finRange 9).all fun c =>
      decide (c = e.comp.column) || !(s.column c).armingOrArmed) := by
    unfold State.pairingHolds
    split
    · rename_i custody
      exact absurd custody cls
    · rfl
    · rfl
  simp [alone, Classical.or_iff_not_imp_left]

/-- What makes an entry eligible (R154). -/
theorem eligible_iff : s.eligible e = true ↔
    e.inFlight = false ∧ s.budgetOpen = true ∧ s.columnAdmits e = true ∧ s.pairingHolds e = true := by
  simp [State.eligible, and_assoc]

/-- What holds an entry back by its pairing condition alone (R156). -/
theorem heldByPairing_iff : s.heldByPairing e = true ↔
    e.inFlight = false ∧ s.budgetOpen = true ∧ s.columnAdmits e = true ∧ e.cls ≠ .custody ∧
      s.pairingHolds e = false := by
  simp [State.heldByPairing, and_assoc]

theorem arbiterTakesEligibleEntries : Claims.ArbiterTakesEligibleEntries := by
  intro s e
  refine ⟨choice_mem, ?_⟩
  rw [eligible_iff, budgetOpen_iff, columnAdmits_iff, and_assoc]
  refine and_congr_right fun _ => and_congr_right fun _ => and_congr_right fun _ => and_congr_right fun _ => ?_
  by_cases cls : e.cls = .custody
  · rw [pairingHolds_custody cls]
    exact ⟨fun all => ⟨fun _ => all, fun other => absurd cls other⟩, fun ⟨all, _⟩ => all cls⟩
  · have idle (c : Column) : (s.column c).armingOrArmed = false ↔
        (∀ left, s.column c ≠ .arming left) ∧ ∀ run, s.column c ≠ .armed run := by
      rw [← Bool.not_eq_true, armingOrArmed_iff]
      push Not
      rfl
    rw [pairingHolds_other cls]
    simp only [idle]
    exact ⟨fun alone => ⟨fun custody => absurd custody cls, fun _ => alone⟩, fun ⟨_, alone⟩ => alone cls⟩

/-! ### The choice (R155, R156) -/

/-- Where no entry is held for, the arbiter's three tests are taken in their order (R155). -/
theorem arbiterTests : Claims.ArbiterTests := by
  intro s free eligible counted armed
  have choice : s.choice = match counted.head? with
      | some e => some e
      | none => match armed.head? with
        | some e => some e
        | none => eligible.head? := by
    unfold State.choice
    rw [if_neg (by simp [free]), List.head?_filter, List.head?_filter]
    rfl
  rw [choice]
  cases counted with
  | cons x l => rfl
  | nil => cases armed <;> rfl

/-- Entries of which none is queued with the count 4 (R156). -/
theorem find_counted_none {l : List Entry} (none : ∀ x ∈ l, x.inFlight = true ∨ x.passOver ≠ 4) :
    l.find? (fun x => decide (x.passOver = Config.passOverLimit) && !x.inFlight) = Option.none := by
  rw [List.find?_eq_none]
  intro x hx
  rcases none x hx with flies | other
  · simp [flies]
  · simp [Config.passOverLimit, other]

/-- The first queued entry with the count 4 is the one that is looked at (R156). -/
theorem arbiterHeld_of_first {older younger : List Entry} (queue : s.seq.queue = older ++ e :: younger)
    (waits : e.inFlight = false) (count : e.passOver = 4) (first : ∀ x ∈ older, x.inFlight = true ∨ x.passOver ≠ 4) :
    s.arbiterHeld = s.heldByPairing e := by
  have found : s.seq.queue.find? (fun x => decide (x.passOver = Config.passOverLimit) && !x.inFlight) = some e := by
    rw [queue, List.find?_append, find_counted_none first, Option.none_or, List.find?_cons_of_pos]
    simp [Config.passOverLimit, count, waits]
  unfold State.arbiterHeld
  rw [found]

theorem pairingHoldsTheArbiter : Claims.PairingHoldsTheArbiter := by
  refine ⟨fun s e => ?_, fun s older younger e queue waits count first => ?_, fun s none => ?_⟩
  · rw [heldByPairing_iff, budgetOpen_iff, columnAdmits_iff, and_assoc]
    refine and_congr_right fun _ => and_congr_right fun _ => and_congr_right fun _ => ?_
    rw [and_left_comm]
    refine and_congr_right fun cls => and_congr_right fun _ => ?_
    rw [← Bool.not_eq_true, pairingHolds_other cls, Classical.not_and_iff_not_or_not]
    simp
  · have held := arbiterHeld_of_first queue waits count first
    refine ⟨fun back => ⟨held.trans back, ?_⟩, held.trans⟩
    unfold State.choice
    rw [if_pos (held.trans back)]
  · unfold State.arbiterHeld
    rw [find_counted_none none]

/-! ### The taking (R150, R155, R156, R168) -/

/-- The queue after the first entry of a compartment is taken (R155, R156). -/
theorem passOver_append (counts : Entry → Bool) (younger : List Entry) : ∀ older : List Entry,
    (∀ x ∈ older, x.comp ≠ e.comp) → passOver counts e.comp (older ++ e :: younger) =
      older.map (fun x => if counts x then { x with passOver := min 4 (x.passOver + 1) } else x) ++
        { e with inFlight := true } :: younger
  | [], _ => by simp [passOver]
  | x :: older, other => by
    have ih := passOver_append counts younger older fun y hy => other y (List.mem_cons_of_mem _ hy)
    simp only [List.cons_append, passOver, if_neg (other x (List.mem_cons_self ..)), ih, List.map_cons,
      Config.passOverLimit]

/-- A change of a column leaves the flight record. -/
theorem setColumn_flight (s : State) (col : Column) (st : ColumnState) :
    (s.setColumn col st).seq.flight = s.seq.flight := by
  unfold State.setColumn State.tellScanner
  split <;> rfl

/-- Another column is read as before. -/
theorem setColumn_column_other (s : State) {col d : Column} (st : ColumnState) (other : d ≠ col) :
    (s.setColumn col st).column d = s.column d := by
  have written : (s.putColumn col st).markArbiter.column d = s.column d := putColumn_column_other _ _ _ _ other
  unfold State.setColumn State.tellScanner
  split <;> exact written

/-- The state in which the taken entry's column is changed: the entry is in flight, with its flight record entry (R155,
R168). -/
def State.taken (s : State) (e : Entry) : State :=
  { s with seq := { s.seq with
      queue := passOver (fun x => s.eligible x || s.heldByPairing x) e.comp s.seq.queue
      flight := s.seq.flight ++ [e.flown] } }

/-- The column of the entry taken pulses at once when it is ARMED, with the run that is left of it (R150). -/
theorem take_armed {run : Nat} (armed : s.column e.comp.column = .armed run) :
    s.take e = (s.taken e).setColumn e.comp.column (.pulsing run (msUnits s.seq.pulseLength)) := by
  unfold State.take
  dsimp only
  rw [armed]
  rfl

/-- Otherwise the column arms (R150). -/
theorem take_arms (other : ∀ run, s.column e.comp.column ≠ .armed run) :
    s.take e = (s.taken e).setColumn e.comp.column (.arming (msUnits 30)) := by
  unfold State.take
  dsimp only
  split
  · rename_i run armed
    exact absurd armed (other run)
  all_goals rfl

/-- Whatever its column does, the entry taken and the flight record are so (R155, R168). -/
theorem take_eq (s : State) (e : Entry) : ∃ st : ColumnState, st.atPulse = true ∧
    s.take e = (s.taken e).setColumn e.comp.column st := by
  by_cases armed : ∃ run, s.column e.comp.column = .armed run
  · obtain ⟨run, armed⟩ := armed
    exact ⟨_, rfl, take_armed armed⟩
  · exact ⟨_, rfl, take_arms fun run h => armed ⟨run, h⟩⟩

theorem takingCountsPassOvers : Claims.TakingCountsPassOvers := by
  intro s older younger e queue first
  obtain ⟨st, -, taken⟩ := take_eq s e
  refine ⟨?_, ?_, fun run armed => ?_, fun other => ?_, fun d other => ?_⟩
  · rw [(take_seq e).1, queue, passOver_append _ _ _ first]
    simp only [Bool.or_eq_true]
  · rw [taken, setColumn_flight]
    rfl
  · rw [take_armed armed, setColumn_column_same]
  · rw [take_arms other, setColumn_column_same]
  · rw [taken, setColumn_column_other _ _ other]
    rfl

/-! ### The look (R155, log 9) -/

/-- Each choice takes one entry more, so after n of them none is left or n more entries are in flight (R153). -/
theorem arbitrate_ends : ∀ (n : Nat) (s : State), s.OneEntryEach → s.seq.budget ≤ s.flying.length + n →
    (State.arbitrate n s).choice = none
  | 0, s, _, full => choice_none_of_full full
  | n + 1, s, one, room => by
    unfold State.arbitrate
    split
    · assumption
    · rename_i e chosen
      obtain ⟨flying, budget, one'⟩ := take_flying chosen one
      exact arbitrate_ends n _ one' (by omega)

theorem arbiterLooksUntilNoneIsLeft : Claims.ArbiterLooksUntilNoneIsLeft := by
  intro s
  have looks : s.arbiterDue = true → s.arbiterLooks = State.arbitrate 3 s := fun due => if_pos due
  refine ⟨fun idle => ?_, looks, fun n => ⟨fun none => ?_, fun e chosen => ?_⟩, rfl, fun due one budget => ?_⟩
  · unfold State.arbiterLooks
    rw [if_neg (by simp [idle])]
  · unfold State.arbitrate
    rw [none]
  · rw [State.arbitrate, chosen]
  · rw [looks due]
    exact arbitrate_ends 3 s one (by omega)

end Sys2Proof.Machine
end

section
/-! SUPPORT. The pulses in progress in order, through the ends of pulses, the consequences of a step and the arbiter's
look (R153, R168). Between the end of a pulse and its column's act no entry in flight stands on that column. -/

namespace Sys2Proof.Machine

variable {s t : State} {col : Column} {e : Entry}

/-- No entry in flight stands on the column. -/
def State.ColumnClear (s : State) (col : Column) : Prop := ∀ e ∈ s.flying, e.comp.column ≠ col

/-- Inside a step: the pulses are in order, and a column that has still to act after its pulse is clear. -/
structure State.Pulsed (s : State) : Prop where
  order : s.PulsesInOrder
  acts : ∀ col, .columnActs col ∈ s.signals → s.ColumnClear col

/-! ### Where no pulse begins or ends -/

/-- The order lies in the entries in flight, the columns at a pulse, the flight record, the sweep's phase and
RESTORING. -/
theorem pulsesInOrder_of_same (h : s.PulsesInOrder) (one : t.OneEntryEach) (flying : t.flying = s.flying)
    (columns : ∀ col, (s.column col).atPulse = true → (t.column col).atPulse = true)
    (flight : t.seq.flight = s.seq.flight) (phase : t.scanner.phase = s.scanner.phase)
    (running : t.power.running = true → s.power.running = true)
    (restoring : t.power.restoring = s.power.restoring)
    (rest : s.power.running = true → s.AtRest → t.AtRest) : t.PulsesInOrder := by
  obtain ⟨-, apart, pulses, record⟩ := h
  refine ⟨one, flying ▸ apart, fun e flies => ?_, fun runs => ?_⟩
  · rw [flying] at flies ⊢
    obtain ⟨pulse, alone⟩ := pulses e flies
    exact ⟨columns _ pulse, alone⟩
  · obtain ⟨flown, sweeps, quiet⟩ := record (running runs)
    rw [flying, flight, phase, restoring]
    exact ⟨flown, sweeps, fun restores => (rest (running runs) ⟨restores, quiet restores⟩).2⟩

theorem Calm.order (h : Calm s t) (order : s.PulsesInOrder) : t.PulsesInOrder :=
  pulsesInOrder_of_same order (h.distinct order.1) (h.flying order.1) h.columns h.flight h.phase
    (fun runs => h.running.symm.trans runs) h.restoring fun _ => h.rest

theorem NoPulse.clear (h : NoPulse s t) (one : s.OneEntryEach) (clear : s.ColumnClear col) : t.ColumnClear col := by
  unfold State.ColumnClear
  rw [h.flying one]
  exact clear

theorem Calm.pulsed (h : Calm s t) (p : s.Pulsed) : t.Pulsed :=
  ⟨h.order p.order, fun col noted => h.clear p.order.1 (p.acts col (h.acts col noted))⟩

/-- A column that is clear is to act after its pulse. -/
theorem State.Pulsed.emitActs (p : t.Pulsed) (clear : t.ColumnClear col) : (t.emit (.columnActs col)).Pulsed :=
  ⟨p.order, fun d noted => by
    rcases List.mem_append.mp noted with before | now
    · exact p.acts d before
    · cases List.mem_singleton.mp now
      exact clear⟩

/-- A column that is clear takes any state. -/
theorem State.Pulsed.putColumn (p : t.Pulsed) (clear : t.ColumnClear col) (st : ColumnState) :
    (t.putColumn col st).Pulsed := by
  obtain ⟨⟨one, apart, pulses, record⟩, acts⟩ := p
  refine ⟨⟨one, apart, fun e flies => ?_, record⟩, acts⟩
  obtain ⟨pulse, alone⟩ := pulses e flies
  rw [putColumn_column_other _ _ _ _ (clear e flies)]
  exact ⟨pulse, alone⟩

theorem State.Pulsed.setColumn (p : t.Pulsed) (clear : t.ColumnClear col) (st : ColumnState) :
    (t.setColumn col st).Pulsed := ((Calm.refl _).markArbiter.tellScanner col).pulsed (p.putColumn clear st)

theorem setColumn_flying (s : State) (col : Column) (st : ColumnState) : (s.setColumn col st).flying = s.flying :=
  congrArg (List.filter _) (setColumn_seq col st).1

theorem columnAfterPulse_flying (s : State) (col : Column) : (s.columnAfterPulse col).flying = s.flying := by
  unfold State.columnAfterPulse
  split
  · split
    · exact setColumn_flying ..
    · exact setColumn_flying ..
  all_goals rfl

theorem columnAfterPulse_clear (col : Column) {d : Column} (clear : s.ColumnClear d) :
    (s.columnAfterPulse col).ColumnClear d := by
  unfold State.ColumnClear
  rw [columnAfterPulse_flying]
  exact clear

theorem State.Pulsed.columnAfterPulse (p : t.Pulsed) (clear : t.ColumnClear col) : (t.columnAfterPulse col).Pulsed := by
  unfold State.columnAfterPulse
  split
  · split
    · exact p.setColumn clear _
    · exact p.setColumn clear _
  all_goals exact p

/-! ### The ends of pulses -/

theorem leavesQueue_flying (s : State) (c : Comp) : (s.leavesQueue c).flying = s.flying.filter fun f => f.comp != c :=
  List.filter_comm ..

/-- The entry that leaves the queue at the end of its pulse was the one in flight on its column (R153, R168). -/
theorem State.Pulsed.leavesQueue (p : s.Pulsed) (flies : e ∈ s.flying) :
    (s.leavesQueue e.comp).Pulsed ∧ (s.leavesQueue e.comp).ColumnClear e.comp.column := by
  have flying := leavesQueue_flying s e.comp
  have stays {f : Entry} (hf : f ∈ (s.leavesQueue e.comp).flying) : f ∈ s.flying ∧ f.comp ≠ e.comp := by
    rw [flying] at hf
    simpa using List.mem_filter.mp hf
  obtain ⟨⟨one, apart, pulses, record⟩, acts⟩ := p
  refine ⟨⟨⟨(List.filter_sublist.map _).nodup one, ?_, fun f hf => ?_, fun runs => ?_⟩, fun col noted f hf => ?_⟩,
    fun f hf same => ?_⟩
  · rw [flying]
    exact (List.filter_sublist.map _).nodup apart
  · obtain ⟨there, other⟩ := stays hf
    obtain ⟨pulse, alone⟩ := pulses f there
    refine ⟨pulse, fun cls => ?_⟩
    rw [alone cls] at flies
    exact absurd (congrArg Entry.comp (List.mem_singleton.mp flies)) other.symm
  · obtain ⟨flown, sweeps, quiet⟩ := record runs
    refine ⟨fun phase => ?_, sweeps, fun restores => ?_⟩
    · rw [flying]
      have landed := (flown phase).filter fun f => f.comp != e.comp
      rwa [List.filter_map] at landed
    · obtain ⟨queue, -⟩ := quiet restores
      exact absurd (List.mem_filter.mp flies).1 (by simp [queue])
  · exact acts col noted f (stays hf).1
  · obtain ⟨there, other⟩ := stays hf
    exact other (congrArg Entry.comp (List.inj_on_of_nodup_map apart there flies same))

/-- An entry whose pulse is in progress is in flight on its column (R153). -/
theorem pulsingEntry_flying (h : s.pulsingEntry col = some e) : e ∈ s.flying ∧ e.comp.column = col := by
  unfold State.pulsingEntry State.flyingOn at h
  split at h
  · obtain ⟨flies, stands⟩ : e.inFlight = true ∧ e.comp.column = col := by simpa using List.find?_some h
    exact ⟨List.mem_filter.mpr ⟨List.mem_of_find?_eq_some h, flies⟩, stands⟩
  · cases h

theorem State.Pulsed.pulseGoodEnd (p : s.Pulsed) (flies : e ∈ s.flying) : (s.pulseGoodEnd e).Pulsed := by
  obtain ⟨left, clear⟩ := p.leavesQueue flies
  have told : Calm (s.leavesQueue e.comp) ((s.leavesQueue e.comp).doorReleased e.comp e.cls.release).departed := by
    refine Calm.departed ?_
    unfold State.doorReleased
    split
    · exact (Calm.refl _).setDoor ..
    all_goals exact .refl _
  exact (told.pulsed left).emitActs (told.clear left.order.1 clear)

theorem State.Pulsed.pulseOpenEnd (p : s.Pulsed) (flies : e ∈ s.flying) : (s.pulseOpenEnd e).Pulsed := by
  obtain ⟨left, clear⟩ := p.leavesQueue flies
  have there := (List.mem_filter.mp flies).1
  unfold State.pulseOpenEnd
  dsimp only
  split
  · have one := (Inner.requeue e there (Inner.refl s)).distinct p.order.1
    refine State.Pulsed.emitActs ⟨pulsesInOrder_of_same left.order one rfl (fun _ => id) rfl rfl id rfl ?_, left.acts⟩
      clear
    intro runs rest
    obtain ⟨-, -, -, record⟩ := p.order
    obtain ⟨-, -, quiet⟩ := record runs
    obtain ⟨queue, -⟩ := quiet rest.1
    exact absurd there (by simp [queue])
  · have failed := (Calm.refl (s.leavesQueue e.comp)).failEntry e .lockFault
    exact (failed.pulsed left).emitActs (failed.clear left.order.1 clear)

theorem State.Pulsed.pulseShortEnd (p : s.Pulsed) (flies : e ∈ s.flying) : (s.pulseShortEnd e).Pulsed := by
  obtain ⟨left, clear⟩ := p.leavesQueue flies
  have ends := (((Calm.refl ((s.leavesQueue e.comp).putColumn e.comp.column .disabled)).failEntry e
    .columnDown).failColumn e.comp.column).tellScanner e.comp.column
  exact ends.pulsed (left.putColumn clear .disabled)

theorem State.Pulsed.testPulseEnd (p : s.Pulsed) (flies : e ∈ s.flying) (o : PulseOutcome) :
    (s.testPulseEnd e o).Pulsed := by
  obtain ⟨left, clear⟩ := p.leavesQueue flies
  have tells : ∀ d q, Calm (s.leavesQueue e.comp) ((s.leavesQueue e.comp).testResult e.comp d q).departed :=
    fun _ _ => ((Calm.refl _).testResult ..).departed
  have told := fun d q => (tells d q).pulsed left
  have stays := fun d q => (tells d q).clear left.order.1 clear
  have disabled : ∀ u : State, u.Pulsed → u.ColumnClear e.comp.column →
      (((u.putColumn e.comp.column .disabled).failColumn e.comp.column).tellScanner e.comp.column).Pulsed :=
    fun u hu hc => (((Calm.refl _).failColumn _).tellScanner _).pulsed (hu.putColumn hc _)
  unfold State.testPulseEnd
  dsimp only
  split
  · exact disabled _ (told ..) (stays _ _)
  · exact disabled _ (told ..) (stays _ _)
  · exact (told ..).setColumn (stays _ _) _
  · exact (told ..).emitActs (stays _ _)
  · exact (told ..).emitActs (stays _ _)

theorem State.Pulsed.shortEnd (p : s.Pulsed) (flies : e ∈ s.flying) : (s.shortEnd e).Pulsed := by
  unfold State.shortEnd
  split
  · exact p.pulseShortEnd flies
  · exact p.pulseShortEnd flies
  · exact p.testPulseEnd flies _

/-- The end of a pulse acts on the entry in flight on the column (R157 to R159). -/
theorem State.Pulsed.pulseEnds (p : t.Pulsed) (admits : EntryClass → Bool) (act : State → Entry → State)
    (ends : ∀ e ∈ t.flying, (act t e).Pulsed) : (t.pulseEnds col admits act).Pulsed := by
  unfold State.pulseEnds
  split
  · exact p
  · rename_i e found
    split
    · exact ends e (pulsingEntry_flying found).1
    · exact p

/-! ### The consequences of a step (log 10) -/

/-- A consequence is worked while the others wait. -/
theorem State.Pulsed.settle : ∀ (n : Nat) (s : State), s.Pulsed → (State.settle n s).Pulsed
  | 0, s, p => ⟨p.order, fun _ noted => nomatch noted⟩
  | n + 1, s, p => by
    cases signals : s.signals with
    | nil => rwa [settle_nil n signals]
    | cons g rest =>
      rw [settle_cons n signals]
      have alone : State.Pulsed { s with signals := [] } := ⟨p.order, fun _ noted => nomatch noted⟩
      have worked : ((State.work { s with signals := [] } g).Pulsed ∧
          ∀ col, s.ColumnClear col → (State.work { s with signals := [] } g).ColumnClear col) := by
        by_cases acts : ∃ col, g = .columnActs col
        · obtain ⟨col, rfl⟩ := acts
          have clear : s.ColumnClear col := p.acts col (by simp [signals])
          exact ⟨alone.columnAfterPulse clear, fun d hd => columnAfterPulse_clear col hd⟩
        · have calm := (Calm.refl { s with signals := [] }).work g fun col same => acts ⟨col, same⟩
          exact ⟨calm.pulsed alone, fun col clear => calm.clear alone.order.1 clear⟩
      refine State.Pulsed.settle n _ ⟨worked.1.order, fun col noted => ?_⟩
      rcases List.mem_append.mp noted with now | before
      · exact worked.1.acts col now
      · exact worked.2 col (p.acts col (by simp [signals, before]))

/-! ### The arbiter's look -/

/-- Taking an entry changes no entry that is in flight: those it passes over are eligible or held back, so queued
(R155, R156). -/
theorem taken_flying_passed (s : State) (l : List Entry) :
    (l.map fun x => if s.eligible x = true ∨ s.heldByPairing x = true then
        { x with passOver := min 4 (x.passOver + 1) } else x).filter (·.inFlight) = l.filter (·.inFlight) := by
  induction l with
  | nil => rfl
  | cons x l ih =>
    rw [List.map_cons, List.filter_cons, List.filter_cons, ih]
    split
    · rename_i counts
      have waits : x.inFlight = false := by
        rcases counts with eligible | held
        · exact eligible_queued eligible
        · exact (heldByPairing_iff.mp held).1
      simp [waits]
    · rfl

/-- The entry taken joins those in flight (R153, R155). -/
theorem take_flying_perm (one : s.OneEntryEach) (queued : e ∈ s.seq.queue) (waits : e.inFlight = false) :
    (s.take e).flying.Perm ({ e with inFlight := true } :: s.flying) := by
  obtain ⟨older, younger, queue⟩ := List.append_of_mem queued
  have first : ∀ x ∈ older, x.comp ≠ e.comp := by
    intro x hx same
    rw [State.OneEntryEach, queue, List.map_append, List.nodup_append] at one
    exact one.2.2 _ (List.mem_map_of_mem hx) _ (List.mem_map_of_mem (List.mem_cons_self ..)) same
  obtain ⟨taken, -⟩ := takingCountsPassOvers s older younger e queue first
  unfold State.flying
  rw [taken, queue, List.filter_append, List.filter_append, taken_flying_passed]
  simp only [List.filter_cons, waits, if_true, Bool.false_eq_true, if_false]
  exact List.perm_middle

/-- A column that admits an entry is at no pulse (R150, R154). -/
theorem columnAdmits_not_atPulse (h : s.columnAdmits e = true) : (s.column e.comp.column).atPulse = false := by
  unfold State.columnAdmits at h
  split at h <;> simp_all [ColumnState.atPulse]

/-- The arbiter's choice keeps the pulses in order: its column is at no pulse, and it flies beside those of its class
alone, or by itself (R153 to R155, R168). -/
theorem take_pulsesInOrder (h : s.PulsesInOrder) (chosen : s.choice = some e) : (s.take e).PulsesInOrder := by
  obtain ⟨queued, eligible⟩ := choice_mem chosen
  obtain ⟨waits, -, admits, pairing⟩ := eligible_iff.mp eligible
  obtain ⟨one, apart, pulses, record⟩ := h
  obtain ⟨-, -, one'⟩ := take_flying chosen one
  have flying := take_flying_perm one queued waits
  obtain ⟨st, pulse, taken⟩ := take_eq s e
  have column : (s.take e).column e.comp.column = st := by rw [taken, setColumn_column_same]
  have others : ∀ d, d ≠ e.comp.column → (s.take e).column d = s.column d := fun d other => by
    rw [taken, setColumn_column_other _ _ other]
    rfl
  have clear : s.ColumnClear e.comp.column := fun f flies same => by
    have atPulse := (pulses f flies).1
    rw [same, columnAdmits_not_atPulse admits] at atPulse
    cases atPulse
  refine ⟨one', ?_, fun f flies => ⟨?_, fun cls => ?_⟩, fun runs => ?_⟩
  · refine (flying.map fun f => f.comp.column).nodup_iff.mpr (List.nodup_cons.mpr ⟨fun stands => ?_, apart⟩)
    obtain ⟨f, flies, same⟩ := List.mem_map.mp stands
    exact clear f flies same
  · rcases List.mem_cons.mp (flying.mem_iff.mp flies) with rfl | flew
    · rw [column]
      exact pulse
    · rw [others _ (clear f flew)]
      exact (pulses f flew).1
  · by_cases custody : e.cls = .custody
    · rcases List.mem_cons.mp (flying.mem_iff.mp flies) with rfl | flew
      · exact absurd custody cls
      · exact absurd ((pairingHolds_custody custody).mp pairing f flew) cls
    · obtain ⟨none, -⟩ := (pairingHolds_other custody).mp pairing
      rw [none] at flying
      have only := List.perm_singleton.mp flying
      rw [only] at flies ⊢
      rw [List.mem_singleton.mp flies]
  · have kept : (s.take e).scanner = s.scanner ∧ (s.take e).power = s.power := by
      obtain ⟨-, -, -, -, scanner, -⟩ := setColumn_frame (s.taken e) e.comp.column st
      rw [taken]
      exact ⟨scanner, (Inner.setColumn _ st (Inner.refl (s.taken e))).power⟩
    obtain ⟨flown, sweeps, quiet⟩ := record (by rw [← kept.2]; exact runs)
    rw [kept.1, kept.2]
    refine ⟨fun phase => ?_, sweeps, fun restores => ?_⟩
    · rw [show (s.take e).seq.flight = s.seq.flight ++ [e.flown] by rw [taken, setColumn_flight]; rfl]
      exact (List.perm_append_singleton ..).trans (((flown phase).cons _).trans (flying.map Entry.flown).symm)
    · obtain ⟨queue, -⟩ := quiet restores
      exact absurd queued (by simp [queue])

theorem arbitrate_pulsesInOrder : ∀ (n : Nat) (s : State), s.PulsesInOrder → (State.arbitrate n s).PulsesInOrder
  | 0, _, h => h
  | n + 1, s, h => by
    unfold State.arbitrate
    split
    · exact h
    · rename_i chosen
      exact arbitrate_pulsesInOrder n _ (take_pulsesInOrder h chosen)

/-- The end of a step keeps the pulses in order (log 10). -/
theorem State.Pulsed.complete (p : s.Pulsed) : s.complete.PulsesInOrder := by
  have settled := (p.settle settleFuel).order
  show State.PulsesInOrder (State.begin _)
  unfold State.arbiterLooks
  split
  · exact arbitrate_pulsesInOrder 3 _ settled
  · exact settled

end Sys2Proof.Machine
end

section
/-! SUPPORT. `Calm` and `NoPulse` for the changes that requests make: a request that a part in RESTORING takes queues no
release and opens no charge (R31, R193). -/

namespace Sys2Proof.Machine

variable {s t : State} {b : State × Answer}

/-! ### The common checks -/

/-- A request that is refused in RESTORING may do elsewhere what begins and ends no pulse (R193). -/
theorem Calm.unlessRestoring (hb : NoPulse t b.1) : Calm t (t.unlessRestoring b).1 := by
  unfold State.unlessRestoring
  split
  · exact .refl t
  · rename_i served
    exact hb.busy fun rest => served rest.1

theorem Calm.guarded (hb : NoPulse t b.1) : Calm t (t.guarded b).1 := by
  refine Calm.unlessRestoring ?_
  unfold State.unlessUncommissioned
  split
  · exact hb
  · exact .refl t

/-! ### Charges -/

theorem NoPulse.voidCharge (h : NoPulse s t) (i : ChargeSlot) (k : EndCause) : NoPulse s (t.voidCharge i k).1 := by
  unfold State.voidCharge
  dsimp only
  split
  · exact (h.endCharge ..).calm ((Calm.refl _).dropReserved _)
  · exact h.endCharge ..

theorem Calm.voidAll : ∀ (l : List ChargeSlot) (t : State), Calm s t → Calm s (State.voidAll l t).1
  | [], _, h => h
  | i :: l, t, h => by
    unfold State.voidAll
    split
    · rename_i opened
      refine Calm.voidAll l _ (h.trans (((NoPulse.refl t).voidCharge ..).busy fun rest => ?_))
      have free := rest.not_live i
      rw [opened] at free
      cases free
    · exact Calm.voidAll l _ h

theorem NoPulse.dropForCharge (h : NoPulse s t) (r : ChargeRecord) (d : Detail) : NoPulse s (t.dropForCharge r d) := by
  unfold State.dropForCharge
  split
  · exact h.calm (((Calm.refl t).dropReserved _).post ..)
  · exact h

theorem Calm.expireCharge (h : Calm s t) (i : ChargeSlot) : Calm s (t.expireCharge i) := by
  unfold State.expireCharge
  split
  · rename_i live
    refine h.trans ((NoPulse.dropForCharge ?_ _ _).busy fun rest => by simp [rest.not_live] at live)
    exact ((NoPulse.refl t).endCharge ..).calm ((Calm.refl _).postBoth ..)
  · exact h

/-- A slot that is freed is FREE, and the others are as they were (R131). -/
theorem Calm.releaseNamed (h : Calm s t) (i : ChargeSlot) (r : ChargeRecord) : Calm s (t.releaseNamed i r).1 := by
  unfold State.releaseNamed
  split
  · refine h.trans { rest := fun ⟨restoring, queue, pending, paid, window, stopped, free⟩ =>
      ⟨restoring, queue, pending, paid, window, stopped, fun j => ?_⟩ }
    by_cases same : j = i
    · subst same
      exact congrArg ChargeRecord.state (putCharge_charge_same t j ChargeRecord.blank)
    · exact (congrArg ChargeRecord.state (put_get_other t.charges.recs i j ChargeRecord.blank same)).trans (free j)
  · exact h

/-! ### The console -/

theorem Calm.resetRole (h : Calm s t) (r : Option Role) : Calm s (t.resetRole r).1 := by
  unfold State.resetRole
  split
  · exact Calm.voidAll _ _ h
  · exact h.engineStop
  all_goals exact h

theorem NoPulse.stopForConditions (h : NoPulse s t) (k : Consignment) (ev : Evaluation) (d : Detail) :
    NoPulse s (t.stopForConditions k ev d).1 := h.calm ((Calm.refl t).feeCondition ..)

theorem NoPulse.quoteKnown (n : RecordNo) (k : Consignment) : NoPulse s (s.quoteKnown n k).1 := by
  have evaluated : NoPulse s (s.addSticky (s.evaluate k).raised) := {}
  refine check_keeps (.refl s) _ _ fun _ => check_keeps (.refl s) _ _ fun _ => ?_
  dsimp only
  split
  · exact evaluated.stopForConditions ..
  · refine check_keeps evaluated _ _ fun _ => ?_
    unfold State.quoteOpens
    dsimp only
    split
    · exact evaluated
    · exact (evaluated.calm ((Calm.refl _).voidOpen k .requote)).trans {}

theorem NoPulse.collectKnown (n : RecordNo) (k : Consignment) : NoPulse s (s.collectKnown n k).1 := by
  have evaluated : NoPulse s (s.addSticky (s.evaluate k).raised) := {}
  refine check_keeps (.refl s) _ _ fun _ => check_keeps (.refl s) _ _ fun _ => ?_
  dsimp only
  split
  · exact evaluated.stopForConditions ..
  · split
    · exact evaluated
    · unfold State.collectClaims
      split
      · exact evaluated
      · refine check_keeps evaluated _ _ fun _ => check_keeps evaluated _ _ fun _ => ?_
        exact NoPulse.foldl _ (fun _ _ hu => hu.request _ rfl) _ _ (evaluated.calm
          ((Calm.foldl (fun u c => u.claim c .customer) (fun _ _ hu => hu.claim ..) _ _ (.refl _)).voidOpen ..))

theorem NoPulse.voidNamed (h : NoPulse s t) (i : ChargeSlot) (r : ChargeRecord) : NoPulse s (t.voidNamed i r).1 := by
  unfold State.voidNamed
  split
  · exact h.voidCharge ..
  all_goals exact h

theorem NoPulse.returnBegin (h : NoPulse s t) (carrier : Nat) (z : Option SizeClass) (ref : Text) :
    NoPulse s (t.returnBegin carrier z ref).1 := by
  have committed : ∀ n i c z r, NoPulse s (t.commitReturn n i c z r) := fun n i c z r =>
    h.calm ((((Calm.refl t).putRecord ..).reserve ..).raiseLive ..)
  have opened {u : State} (hu : NoPulse s u) (i : ChargeSlot) (n : RecordNo) (o k : Nat) :
      NoPulse s (u.openIn i n o k) := hu.trans {}
  unfold State.returnBegin
  split
  · exact h
  · refine check_keeps h _ _ fun _ => ?_
    split
    · refine check_keeps h _ _ fun _ => check_keeps h _ _ fun _ => check_keeps h _ _ fun _ => ?_
      split
      · refine check_keeps h _ _ fun _ => ?_
        unfold State.returnAccepted
        dsimp only
        split
        · exact (committed ..).request _ rfl
        · split
          · exact h
          · exact opened (committed ..) ..
      all_goals exact h
    all_goals exact h

theorem NoPulse.returnCancel (h : NoPulse s t) (n : Nat) : NoPulse s (t.returnCancel n).1 := by
  unfold State.returnCancel
  split
  · exact h
  · split
    · exact h
    · split
      · exact h
      · unfold State.returnCancelOf
        split
        · exact h
        · exact check_keeps h _ _ fun _ => check_keeps h _ _ fun _ => check_keeps h _ _ fun _ =>
            h.calm ((((Calm.refl t).withdraw _).voidOpen ..).dropReserved _)

/-! ### The courier and the payment module -/

theorem Calm.handOver (h : Calm s t) (i : RingSlot) (n : Nat) : Calm s (t.handOver i n).1 :=
  check_keeps h _ _ fun _ => check_keeps h _ _ fun _ =>
    (Calm.foldl State.handSlot (fun _ _ hu => hu.putSlot ..) _ _ h).emit .look (by simp)

theorem Calm.engineStart (i : RingSlot) : Calm t (t.engineStart i).1 := by
  have started : NoPulse t ((t.setPointer i).setEngine .running) := {}
  exact Calm.guarded (check_keeps (.refl t) _ _ fun _ => started.emit .look (by simp))

theorem Calm.engineResume : Calm t t.engineResume.1 := by
  refine Calm.unlessRestoring ?_
  split
  · exact ((NoPulse.refl t).setEngine .running).emit .look (by simp)
  all_goals exact .refl t

theorem NoPulse.fetchNamed (h : NoPulse s t) (i : ChargeSlot) (r : ChargeRecord) : NoPulse s (t.fetchNamed i r).1 := by
  unfold State.fetchNamed
  split
  · exact h.trans {}
  all_goals exact h

theorem Calm.fetchCharge (ref : Option (Nat × Nat)) : Calm t (t.fetchCharge ref).1 := by
  have same := NoPulse.refl t
  refine Calm.unlessRestoring ?_
  split
  · exact withCharge_keeps same _ _ fun _ _ => same.fetchNamed ..
  · split
    · exact same.fetchNamed ..
    · exact same

theorem NoPulse.paidReleases (h : NoPulse s t) (n : RecordNo) : NoPulse s (t.paidReleases n) := by
  unfold State.paidReleases
  split
  · unfold State.releasePaidReturn
    split
    · exact h.request _ rfl
    all_goals exact h.trans {}
  · exact h

theorem NoPulse.resultFor (h : NoPulse s t) (o : CardOutcome) (x y : Nat) (i : ChargeSlot) (r : ChargeRecord) :
    NoPulse s (t.resultFor o x y i r).1 := by
  have ended := fun st k m => h.endCharge i st k m
  have declined : ∀ k b, NoPulse s (t.declineCharge i r k b).1 := fun k b =>
    ((ended ..).calm ((Calm.refl _).post ..)).dropForCharge ..
  have late : NoPulse s (t.lateResult i r o x y).1 := by
    unfold State.lateResult
    dsimp only
    exact h.calm ((Calm.refl t).postBoth ..)
  have settled : NoPulse s (t.settleCharge i r).1 := by
    unfold State.settleCharge
    refine NoPulse.calm ?_ ((Calm.refl _).post ..)
    split
    · exact ((ended ..).calm ((Calm.refl _).updRecord ..)).paidReleases _
    · exact ended ..
  unfold State.resultFor
  split
  · split
    · split
      · exact settled
      · exact declined ..
    · exact declined ..
  case h_2 | h_3 | h_4 => exact h
  all_goals exact late

/-- A Payment Result is refused in RESTORING (R133). -/
theorem Calm.paymentResult (slot gen : Nat) (o : Option CardOutcome) (x y : Nat) :
    Calm t (t.paymentResult slot gen o x y).1 := by
  unfold State.paymentResult
  split
  · split
    · exact .refl t
    · rename_i served
      refine NoPulse.busy ?_ fun rest => served rest.1
      split
      · exact .refl t
      · exact (NoPulse.refl t).resultFor ..
  · exact .refl t

/-! ### Operations -/

theorem Calm.setCompartment (n : Nat) (f : Option Bool) (z : Option SizeClass) (v : Option UseClass) :
    Calm t (t.setCompartment n f z v).1 := by
  have same := Calm.refl t
  refine unlessRestoring_keeps same ?_
  split
  · refine check_keeps same _ _ fun _ => ?_
    unfold State.fitComp
    dsimp only
    split
    · exact same.setEntry ..
    · exact (same.setEntry ..).setDoor ..
  · exact same

theorem Calm.withholdReview (h : Calm s t) (c : Comp) : Calm s (t.withholdReview c).1 := by
  unfold State.withholdReview
  split
  · exact h
  · split
    case h_1 | h_2 | h_3 => exact h.enterReview ..
    case h_4 => exact h.addCause ..
    all_goals exact h

theorem Calm.withholdOos (h : Calm s t) (c : Comp) : Calm s (t.withholdOos c).1 := by
  unfold State.withholdOos
  split
  case h_1 | h_2 | h_3 | h_4 | h_5 => exact h.outOfService ..
  all_goals exact h

theorem Calm.restore (h : Calm s t) (c : Comp) : Calm s (t.restore c) := (h.updHolding ..).toRest c

theorem Calm.waive (h : Calm s t) (c : Comp) : Calm s (t.waive c) := by
  unfold State.waive
  split
  · exact (h.updRecord ..).restore c
  · exact h.restore c

theorem Calm.returnToService (h : Calm s t) (c : Comp) : Calm s (t.returnToService c).1 := by
  refine check_keeps h _ _ fun _ => check_keeps h _ _ fun _ => check_keeps h _ _ fun _ => ?_
  unfold State.returned
  split
  · exact h.setEntry ..
  · exact (h.restore c).trans {}

theorem Calm.amendHolding (h : Calm s t) (sel : BitVec 16) (v : AmendFields) (c : Comp) :
    Calm s (t.amendHolding sel v c).1 := by
  unfold State.amendHolding
  split
  · exact h
  · refine check_keeps h _ _ fun _ => ?_
    have written := fun f n g => (h.updHolding c f).updRecord n g
    unfold State.amended State.restMoves
    split
    · exact (written ..).setCustody ..
    · exact (written ..).setCustody ..
    · exact written ..

theorem NoPulse.serviceReleaseOf (h : NoPulse s t) (n : Nat) (clearance : Option Bool) :
    NoPulse s (t.serviceReleaseOf n clearance).1 := by
  have claimed : ∀ c x, NoPulse s (t.clearanceClaim c x) := fun c x => by
    unfold State.clearanceClaim
    split
    · exact h.calm ((Calm.refl t).claim ..)
    · exact h
  unfold State.serviceReleaseOf
  split
  · exact h
  · refine withComp_keeps h _ fun c => check_keeps h _ _ fun _ => check_keeps h _ _ fun _ => ?_
    split
    · exact h
    · refine check_keeps h _ _ fun _ => ?_
      unfold State.serviceTaken
      split
      · exact (claimed ..).request _ rfl
      · split
        · exact (claimed ..).trans {}
        · exact h

theorem Calm.withdrawService (h : Calm s t) (c : Comp) : Calm s (t.withdrawService c).1 := by
  have left := h.unpend c
  refine guarded_keeps h ?_
  split
  · unfold State.pendingWithdrawn
    dsimp only
    split
    · exact left.toRest c
    · exact left
  · split
    · exact h
    · exact h

theorem NoPulse.testPulse (h : NoPulse s t) (c : Comp) : NoPulse s (t.testPulse c).1 :=
  check_keeps h _ _ fun _ => check_keeps h _ _ fun _ => check_keeps h _ _ fun _ => check_keeps h _ _ fun _ =>
    check_keeps h _ _ fun _ => h.request _ rfl

theorem NoPulse.columnRestore (h : NoPulse s t) (n : Nat) : NoPulse s (t.columnRestore n).1 := by
  unfold State.columnRestore
  split
  · exact h
  · refine check_keeps h _ _ fun _ => check_keeps h _ _ fun _ => ?_
    split
    · exact h
    · exact check_keeps h _ _ fun _ => h.request _ rfl

/-! ### Settings and reads -/

theorem Calm.readNotice (p : Fin 4) : Calm t (t.readNotice p).1 := by
  unfold State.readNotice
  split
  · exact {}
  · exact {}

theorem Calm.setTariff (n : Nat) (sel : BitVec 16) (v : ClassValues) (x : BankValues) :
    Calm t (t.setTariff n sel v x).1 := by
  unfold State.setTariff
  split
  · exact check_keeps (.refl t) _ _ fun _ => {}
  · split
    · exact check_keeps (.refl t) _ _ fun _ => check_keeps (.refl t) _ _ fun _ => {}
    · exact .refl t

theorem Calm.setMasks (x : Byte) : Calm t (t.setMasks x).1 := by
  unfold State.setMasks
  split
  · exact .refl t
  · exact {}

theorem Calm.clearConditions (x : Byte) : Calm t (t.clearConditions x).1 := by
  unfold State.clearConditions
  split
  · exact .refl t
  · exact {}

theorem Calm.readTariff (n : Nat) : Calm t (t.readTariff n).1 := by
  unfold State.readTariff
  split
  · exact .refl t
  · dsimp only
    split
    · exact .refl t
    · exact .refl t

theorem Calm.readConsignment (n : Nat) : Calm t (t.readConsignment n).1 := by
  unfold State.readConsignment
  split
  · exact .refl t
  · split
    · exact .refl t
    · exact .refl t

theorem Calm.readCharge (n : Nat) : Calm t (t.readCharge n).1 := by
  unfold State.readCharge
  split
  · exact .refl t
  · exact .refl t

theorem Calm.readPickup (ok : Bool) (n : Nat) : Calm t (t.readPickup ok n).1 := by
  refine check_keeps (.refl t) _ _ fun _ => ?_
  split
  · exact .refl t
  · exact .refl t

/-! ### The sequencer's events -/

theorem Calm.armingEnds (h : Calm s t) (col : Column) : Calm s (t.armingEnds col) := by
  unfold State.armingEnds
  split
  · split
    · exact h.setColumn _ _ fun _ => rfl
    · exact h
  all_goals exact h

theorem Calm.runWindowEnds (h : Calm s t) (col : Column) : Calm s (t.runWindowEnds col) := by
  unfold State.runWindowEnds
  split
  · rename_i armed
    exact h.disarm armed
  · exact h.putColumn _ _ fun _ => rfl
  all_goals exact h

theorem Calm.recoveringEnds (h : Calm s t) (col : Column) : Calm s (t.recoveringEnds col) := by
  unfold State.recoveringEnds
  split
  · rename_i recovering
    exact h.setColumn _ _ fun pulse => by rw [recovering] at pulse; cases pulse
  all_goals exact h

theorem Calm.keyOn (h : Calm s t) : Calm s t.keyOn := by
  have keyed : Calm t (t.setKey true) := {}
  unfold State.keyOn
  split
  · exact h
  · exact (h.trans keyed).emit .movePending (by simp)

end Sys2Proof.Machine
end

section
/-! SUPPORT. What every command leaves of the sequencer's bounds and of its pulses. `SeqInside` speaks of what happens
inside a step, where a column may have to act after its pulse; `SeqKept` of a whole step. -/

namespace Sys2Proof.Machine

variable {s t u : State}

/-- Inside a step: the queue's bound, its compartments, the coil budget and the pulses are kept. -/
structure SeqInside (s t : State) : Prop where
  bound : s.QueueBounded → t.QueueBounded := by exact id
  distinct : s.OneEntryEach → t.OneEntryEach := by exact id
  budget : s.BudgetKept → t.BudgetKept := by exact id
  pulsed : s.Pulsed → t.Pulsed

/-- Between steps: the same four are kept. -/
structure SeqKept (s t : State) : Prop where
  bound : s.QueueBounded → t.QueueBounded := by exact id
  distinct : s.OneEntryEach → t.OneEntryEach := by exact id
  budget : s.BudgetKept → t.BudgetKept := by exact id
  pulses : s.PulsesInOrder → t.PulsesInOrder := by exact id

theorem SeqKept.refl (s : State) : SeqKept s s := {}

theorem SeqKept.trans (a : SeqKept s t) (b : SeqKept t u) : SeqKept s u :=
  ⟨b.bound ∘ a.bound, b.distinct ∘ a.distinct, b.budget ∘ a.budget, b.pulses ∘ a.pulses⟩

theorem SeqInside.trans (a : SeqInside s t) (b : SeqInside t u) : SeqInside s u :=
  ⟨b.bound ∘ a.bound, b.distinct ∘ a.distinct, b.budget ∘ a.budget, b.pulsed ∘ a.pulsed⟩

theorem SeqInside.of_calm (h : Calm s t) : SeqInside s t where
  bound := h.bound
  distinct := h.distinct
  budget := fun ⟨fits, least, most⟩ => by
    rw [State.BudgetKept, h.budget]
    exact ⟨h.fewer.trans fits, least, most⟩
  pulsed := h.pulsed

/-- A set of entries in flight that grows no further than the budget keeps within it. -/
theorem budgetKept_of_inner (h : Inner s t) (kept : s.BudgetKept) : t.BudgetKept := by
  obtain ⟨fits, least, most⟩ := kept
  rw [State.BudgetKept, h.budget]
  exact ⟨h.flying.trans (max_le fits le_rfl), least, most⟩

theorem SeqInside.of_inner (h : Inner s t) (pulsed : s.Pulsed → t.Pulsed) : SeqInside s t :=
  ⟨h.queue, h.distinct, budgetKept_of_inner h, pulsed⟩

/-- The end of the step: its consequences, and the arbiter's look (log 10). -/
theorem SeqInside.complete (h : SeqInside s.begin t) : SeqKept s t.complete :=
  have ends : Inner t t.complete := (Inner.refl t).complete
  { bound := ends.queue ∘ h.bound
    distinct := ends.distinct ∘ h.distinct
    budget := budgetKept_of_inner ends ∘ h.budget
    pulses := fun order => (h.pulsed ⟨order, fun _ noted => nomatch noted⟩).complete }

/-- Ports are no part of the sequencer. -/
theorem SeqKept.onPort (h : SeqKept s t) (p : Fin 4) (f : PortUnit → PortUnit) : SeqKept s (t.onPort p f) := h.trans {}

/-! ### Frames and events -/

/-- A frame keeps what its block's change keeps (R202 to R204). -/
theorem SeqKept.serveLate {hd : Head} {code : Byte} {carried : Role → Bool} {n : Nat} {late : State → List Field}
    {body : State → State × Answer} (hb : ∀ u, SeqInside u (body u).1) :
    SeqKept s (s.serveLate hd code carried n late body) := by
  have taken : SeqKept s (s.begin.frameTaken hd.port) := SeqKept.onPort {} ..
  unfold State.serveLate
  dsimp only
  split
  · exact .refl s
  · split
    · exact taken.onPort ..
    · split
      · exact taken.onPort ..
      · split
        · exact taken.onPort ..
        · exact ((SeqInside.of_calm ((Calm.refl s.begin).onPort ..)).trans (hb _)).complete.trans {}

theorem SeqKept.serveCalm {hd : Head} {code : Byte} {carried : Role → Bool} {n : Nat} {late : State → List Field}
    {body : State → State × Answer} (hb : ∀ u, Calm u (body u).1) :
    SeqKept s (s.serveLate hd code carried n late body) := .serveLate fun u => .of_calm (hb u)

/-- An event keeps what its change keeps. -/
theorem SeqKept.event {f : State → State} (hf : ∀ u, SeqInside u (f u)) : SeqKept s (s.event f) := by
  unfold State.event
  split
  · exact (hf _).complete
  · exact .refl s

theorem SeqKept.eventCalm {f : State → State} (hf : ∀ u, Calm u (f u)) : SeqKept s (s.event f) :=
  .event fun u => .of_calm (hf u)

/-- A Port Reset changes ports, charges and the engine (R207). -/
theorem SeqKept.portReset (hd : Head) (x : Sense) : SeqKept s (s.portReset hd x) := by
  have taken : SeqKept s (s.begin.frameTaken hd.port) := SeqKept.onPort {} ..
  unfold State.portReset
  dsimp only
  split
  · exact .refl s
  · split
    · exact taken.onPort ..
    · split
      · exact taken.onPort ..
      · have arrived : Calm s.begin (s.begin.frameTaken hd.port) := (Calm.refl _).onPort ..
        have reset := ((arrived.latch x).onPort hd.port PortUnit.reset).resetRole
        exact (SeqInside.of_calm (reset _)).complete.onPort ..

theorem SeqKept.discardFrame (p : Fin 4) : SeqKept s (s.discardFrame p) := by
  unfold State.discardFrame
  split
  · exact SeqKept.onPort {} ..
  · exact .refl s

/-! ### The ends of pulses -/

/-- The end of a pulse acts on the entry in flight on its column, which stands in the queue (R157 to R159). -/
theorem SeqInside.pulseEnds {act : State → Entry → State} (col : Column) (admits : EntryClass → Bool) (x : Sense)
    (ends : ∀ u : State, ∀ e ∈ u.flying, Inner u (act u e))
    (pulsed : ∀ u : State, u.Pulsed → ∀ e ∈ u.flying, (act u e).Pulsed) :
    SeqInside s ((s.latch x).pulseEnds col admits act) := by
  refine (SeqInside.of_calm ((Calm.refl s).latch x)).trans (.of_inner ?_ fun p => p.pulseEnds _ _ (pulsed _ p))
  unfold State.pulseEnds
  split
  · exact .refl _
  · rename_i e found
    split
    · exact ends _ e (pulsingEntry_flying found).1
    · exact .refl _

/-! ### Settings, the limiter and codes -/

theorem Calm.addSticky (h : Calm s t) (x : CondSet) : Calm s (t.addSticky x) := h.trans {}

/-- A request with a code sets the limiter and nothing else before its own change (R32 to R34). -/
theorem NoPulse.withCode {body : State → RecordNo → Consignment → State × Answer} (code : Text)
    (hb : ∀ u n k, NoPulse u (body u n k).1) : NoPulse s (s.withCode code body).1 :=
  have attempted (x : Limiter) : NoPulse s { s with limiter := x } := {}
  withCode_keeps (.refl s) code (attempted _) fun n k => (attempted _).trans (hb _ n k)

/-- The check of a coil budget against the in-flight set (R166). -/
theorem budgetFits_iff (sel : BitVec 16) (v : TimingFields) :
    (!(sel.getLsbD 1 && decide (clampRange 1 3 v.budget < s.flying.length))) = true ↔
      (sel.getLsbD 1 = true → s.flying.length ≤ clampRange 1 3 v.budget) := by
  cases sel.getLsbD 1 <;> simp

/-- A coil budget that the request takes is 1 to 3, and no smaller than the in-flight set (R166). -/
theorem SeqInside.setTiming (sel : BitVec 16) (v : TimingFields) : SeqInside s (s.setTiming sel v).1 := by
  have same : SeqInside s s := .of_calm (.refl s)
  refine check_keeps same _ _ fun _ => check_keeps same _ _ fun room =>
    { budget := fun ⟨fits, least, most⟩ => ?_, pulsed := fun p => ⟨p.order, p.acts⟩ }
  show s.flying.length ≤ budgetWritten sel v s.seq.budget ∧ _ ≤ budgetWritten _ _ _ ∧ budgetWritten _ _ _ ≤ _
  unfold budgetWritten pick
  split
  · rename_i written
    exact ⟨(budgetFits_iff sel v).mp room written, le_max_left .., max_le (by decide) (min_le_right ..)⟩
  · exact ⟨fits, least, most⟩

theorem Calm.lockoutEnds (h : Calm s t) : Calm s t.lockoutEnds := by
  unfold State.lockoutEnds
  split
  · exact h.trans {}
  · exact h

/-! ### The sweep -/

/-- The reconciliation clears the flight record, over a queue that RESTORING has kept empty (R168, R193, R197). -/
theorem State.Pulsed.reconciled (p : s.Pulsed) (baseline : s.scanner.phase = .baseline) :
    (s.reconcile.setPhase .second).Pulsed := by
  have each : Calm s (Comp.all.foldl State.reconcileOne s) :=
    Calm.foldl _ (fun _ _ hu => hu.reconcileOne _) _ _ (.refl s)
  have phase := each.phase.trans baseline
  have after := each.pulsed p
  unfold State.reconcile
  generalize Comp.all.foldl State.reconcileOne s = u at phase after
  obtain ⟨⟨one, apart, pulses, record⟩, acts⟩ := after
  refine ⟨⟨one, apart, pulses, fun runs => ?_⟩, acts⟩
  obtain ⟨-, sweeps, quiet⟩ := record runs
  have restores : u.power.restoring = true := sweeps (by rw [phase]; decide)
  obtain ⟨queue, -⟩ := quiet restores
  refine ⟨fun _ => ?_, fun _ => restores, quiet⟩
  show List.Perm [] ((u.seq.queue.filter (·.inFlight)).map Entry.flown)
  rw [queue]
  exact .nil

/-- RESTORING ends with the second sweep: the flight record is in order already (R168, R197). -/
theorem State.Pulsed.restored (p : s.Pulsed) (second : s.scanner.phase = .second) :
    (s.endRestoring.setPhase .normal).Pulsed := by
  obtain ⟨⟨one, apart, pulses, record⟩, acts⟩ := p
  refine ⟨⟨one, apart, pulses, fun runs => ?_⟩, acts⟩
  obtain ⟨flown, -⟩ := record runs
  exact ⟨fun _ => flown (by rw [second]; decide), fun other => absurd rfl other, fun restores => nomatch restores⟩

theorem SeqInside.sweepComplete (s : State) : SeqInside s s.sweepComplete := by
  unfold State.sweepComplete
  split
  · rename_i baseline
    exact .of_inner ((Inner.refl s).reconcile.setPhase _) fun p => p.reconciled baseline
  · rename_i second
    exact { pulsed := fun p => p.restored second }
  · exact .of_calm (.refl s)

theorem SeqInside.sweepStep (s : State) : SeqInside s s.sweepStep := by
  have advanced : SeqInside s s.takeColumn.advanceSweep := .of_calm (Calm.refl s).takeColumn.advanceSweep
  unfold State.sweepStep
  dsimp only
  split
  · exact .of_calm (.refl s)
  · split
    · exact advanced
    · exact advanced.trans (.sweepComplete _)

/-! ### Power and the clock -/

/-- A sequencer that has started has an empty queue and a coil budget of 2 (R145, R166). -/
theorem SeqKept.of_started {flight : List FlightEntry} (seq : t.seq = Sequencer.started flight)
    (record : t.power.running = true → t.scanner.phase = .baseline ∧ t.power.restoring = true ∧ t.RestoringQuiet) :
    SeqKept s t := by
  have queue : t.seq.queue = [] := by rw [seq]; rfl
  have budget : t.seq.budget = 2 := by rw [seq]; rfl
  have flying : t.flying = [] := by rw [State.flying, queue]; rfl
  have one : t.OneEntryEach := by rw [State.OneEntryEach, queue]; exact .nil
  refine ⟨fun _ => ?_, fun _ => one, fun _ => ?_, fun _ => ⟨one, ?_, fun e flies => ?_, fun runs => ?_⟩⟩
  · rw [State.QueueBounded, queue]
    exact Nat.zero_le _
  · rw [State.BudgetKept, budget, flying]
    decide
  · rw [flying]
    exact .nil
  · rw [flying] at flies
    cases flies
  · obtain ⟨phase, restoring, quiet⟩ := record runs
    exact ⟨fun later => absurd phase later, fun _ => restoring, fun _ => quiet⟩

theorem SeqKept.stopped (s u : State) : SeqKept s u.stopped := .of_started rfl fun runs => nomatch runs

/-- A start leaves the sequencer, the charges, the engine and the list of paid returns as R192 gives them. -/
theorem SeqKept.start (s u : State) (x : Straps) : SeqKept s (u.start x) := by
  have quiet : ∀ i : ChargeSlot, ((Vector.replicate 8 ChargeRecord.blank).get i).state = .free := by decide
  cases kind : u.intact with
  | true =>
    rw [start_intact kind]
    exact .of_started rfl fun _ => ⟨rfl, rfl, rfl, rfl, rfl, rfl, rfl, quiet⟩
  | false =>
    rw [start_cold kind]
    exact .of_started rfl fun _ => ⟨rfl, rfl, rfl, rfl, rfl, rfl, rfl, quiet⟩

theorem SeqKept.tryStart (h : SeqKept s t) (x : Straps) : SeqKept s (t.tryStart x) := by
  unfold State.tryStart
  split
  · exact .start ..
  · exact h

theorem SeqKept.tryStop (h : SeqKept s t) : SeqKept s t.tryStop := by
  unfold State.tryStop
  split
  · exact .stopped ..
  · exact h

theorem SeqKept.pfailNegated (s : State) (x : Straps) : SeqKept s (s.pfailNegated x) := by
  have negated : SeqKept s (s.setPfail false) := {}
  unfold State.pfailNegated
  split
  · exact negated.trans (.eventCalm fun u => (Calm.refl u).markArbiter)
  · exact negated.tryStart x

theorem SeqKept.mainsReturns (s : State) (x : Straps) : SeqKept s (s.mainsReturns x) := by
  unfold State.mainsReturns
  split
  · exact .refl s
  · exact SeqKept.tryStart {} x

theorem SeqKept.resetReleased (s : State) (x : Straps) : SeqKept s (s.resetReleased x) := by
  unfold State.resetReleased
  split
  · exact SeqKept.tryStart {} x
  · exact .refl s

theorem SeqKept.custodyTicks (s : State) : SeqKept s s.custodyTicks := by
  have ticked (k : Clock) : SeqKept s { s with clock := k } := {}
  unfold State.custodyTicks
  dsimp only
  split
  · split
    · exact (ticked _).trans (SeqInside.of_calm (Calm.refl _).overstayScan).complete
    · exact ticked _
  · exact ticked _

/-- A cycle moves a column's timers, and the column stays in its state (R150 to R152). -/
theorem mainsCycle_column (s : State) (col : Column) : s.mainsCycle.column col = (s.column col).cycle := by
  show (s.seq.columns.map ColumnState.cycle)[col.val] = _
  rw [Vector.getElem_map]
  rfl

theorem cycle_atPulse (st : ColumnState) : st.cycle.atPulse = st.atPulse := by
  cases st <;> simp only [ColumnState.cycle, ColumnState.atPulse]

theorem Calm.mainsCycle (s : State) : Calm s s.mainsCycle where
  columns col pulse := by
    rw [mainsCycle_column, cycle_atPulse]
    exact pulse
  rest := fun ⟨restoring, queue, pending, paid, window, stopped, free⟩ =>
    ⟨restoring, queue, pending, paid, window, stopped, fun i => by
      rw [mainsCycle_charge]
      exact free i⟩

theorem SeqKept.tick (s : State) : SeqKept s s.tick := by
  have clocked : SeqKept s { s with clock := s.clock.cycle } := {}
  unfold State.tick
  dsimp only
  split
  · obtain ⟨bound, distinct, budget, -⟩ := SeqInside.of_calm (Calm.mainsCycle { s with clock := s.clock.cycle })
    exact clocked.trans ⟨bound, distinct, budget, (Calm.mainsCycle _).order⟩
  · exact clocked

end Sys2Proof.Machine
end

section
/-! The obligations on every step: the release queue's bounds, the coil budget and the pulses in progress. -/

namespace Sys2Proof.Machine

variable {s t : State}

/-! ### Every command -/

/-- Every command keeps the bounds of the sequencer and its pulses. -/
theorem exec_seqKept (c : Instr) (s : State) : ∃ t, exec c s = .next t ∧ SeqKept s t := by
  cases c with
  | readNotice hd => exact ⟨_, rfl, .serveCalm fun _ => .readNotice _⟩
  | portReset hd x => exact ⟨_, rfl, .portReset hd x⟩
  | lookup hd code =>
    exact ⟨_, rfl, .serveCalm fun u => .guarded (.withCode _ fun v _ _ =>
      (NoPulse.refl v).calm ((Calm.refl v).addSticky _))⟩
  | quote hd code => exact ⟨_, rfl, .serveCalm fun u => .guarded (.withCode _ fun _ _ _ => .quoteKnown ..)⟩
  | collect hd code => exact ⟨_, rfl, .serveCalm fun u => .guarded (.withCode _ fun _ _ _ => .collectKnown ..)⟩
  | voidQuote hd i g =>
    exact ⟨_, rfl, .serveCalm fun u => .guarded (withCharge_keeps (.refl u) _ _ fun _ _ =>
      (NoPulse.refl u).voidNamed ..)⟩
  | returnBegin hd n z ref => exact ⟨_, rfl, .serveCalm fun u => .guarded ((NoPulse.refl u).returnBegin ..)⟩
  | returnCancel hd n x =>
    exact ⟨_, rfl, .serveCalm fun u => ((Calm.refl u).latch x).trans (.guarded ((NoPulse.refl _).returnCancel n))⟩
  | releaseCharge hd i g =>
    exact ⟨_, rfl, .serveCalm fun u => withCharge_keeps (.refl u) _ _ fun _ _ => (Calm.refl u).releaseNamed ..⟩
  | slotWrite hd i f =>
    refine ⟨_, rfl, .serveCalm fun u => withSlot_keeps (.refl u) _ fun _ => ?_⟩
    unfold State.slotWrite
    split
    · exact .refl u
    · exact check_keeps (.refl u) _ _ fun _ => (Calm.refl u).putSlot ..
  | slotRead hd i => exact ⟨_, rfl, .serveCalm fun u => withSlot_keeps (.refl u) _ fun _ => .refl u⟩
  | handOver hd i n => exact ⟨_, rfl, .serveCalm fun u => withSlot_keeps (.refl u) _ fun _ => (Calm.refl u).handOver ..⟩
  | start hd i => exact ⟨_, rfl, .serveCalm fun u => withSlot_keeps (.refl u) _ fun _ => .engineStart _⟩
  | resume hd => exact ⟨_, rfl, .serveCalm fun _ => .engineResume⟩
  | stop hd x => exact ⟨_, rfl, .serveCalm fun u => ((Calm.refl u).latch x).engineStop⟩
  | fetchCharge hd ref => exact ⟨_, rfl, .serveCalm fun _ => .fetchCharge ref⟩
  | paymentResult hd i g o x y => exact ⟨_, rfl, .serveCalm fun _ => .paymentResult ..⟩
  | setCompartment hd n f z v => exact ⟨_, rfl, .serveCalm fun _ => .setCompartment ..⟩
  | withholdToReview hd ok n =>
    exact ⟨_, rfl, .serveCalm fun u => guarded_keeps (.refl u) (check_keeps (.refl u) _ _ fun _ =>
      withComp_keeps (.refl u) _ fun _ => (Calm.refl u).withholdReview _)⟩
  | withholdToOutOfService hd ok n =>
    exact ⟨_, rfl, .serveCalm fun u => guarded_keeps (.refl u) (check_keeps (.refl u) _ _ fun _ =>
      withComp_keeps (.refl u) _ fun _ => (Calm.refl u).withholdOos _)⟩
  | resolveReviewRestore hd ok n =>
    exact ⟨_, rfl, .serveCalm fun u => resolve_keeps (.refl u) _ _ fun _ => (Calm.refl u).restore _⟩
  | resolveReviewWaive hd ok n =>
    exact ⟨_, rfl, .serveCalm fun u => resolve_keeps (.refl u) _ _ fun _ => (Calm.refl u).waive _⟩
  | resolveReviewRetire hd ok n =>
    exact ⟨_, rfl, .serveCalm fun u => resolve_keeps (.refl u) _ _ fun _ => (Calm.refl u).removeHolding ..⟩
  | resolveReviewWithdraw hd ok n =>
    exact ⟨_, rfl, .serveCalm fun u => resolve_keeps (.refl u) _ _ fun _ => (Calm.refl u).outOfService ..⟩
  | returnToService hd n =>
    exact ⟨_, rfl, .serveCalm fun u => guarded_keeps (.refl u) (withComp_keeps (.refl u) _ fun _ =>
      (Calm.refl u).returnToService _)⟩
  | amendHolding hd n sel v =>
    exact ⟨_, rfl, .serveCalm fun u => guarded_keeps (.refl u) (withComp_keeps (.refl u) _ fun _ =>
      (Calm.refl u).amendHolding ..)⟩
  | setCarrier hd i sel v =>
    exact ⟨_, rfl, .serveCalm fun u => withCarrier_keeps (.refl u) _ fun _ => check_keeps (.refl u) _ _ fun _ =>
      check_keeps (.refl u) _ _ fun _ => check_keeps (.refl u) _ _ fun _ => {}⟩
  | readCarrier hd i => exact ⟨_, rfl, .serveCalm fun u => withCarrier_keeps (.refl u) _ fun _ => .refl u⟩
  | setTariff hd n sel v b => exact ⟨_, rfl, .serveCalm fun _ => .setTariff ..⟩
  | readTariff hd n => exact ⟨_, rfl, .serveCalm fun _ => .readTariff n⟩
  | setMasks hd x => exact ⟨_, rfl, .serveCalm fun _ => .setMasks x⟩
  | clearConditions hd x => exact ⟨_, rfl, .serveCalm fun _ => .clearConditions x⟩
  | readConditions hd => exact ⟨_, rfl, .serveCalm fun u => .refl u⟩
  | serviceRelease hd n b => exact ⟨_, rfl, .serveCalm fun u => .guarded ((NoPulse.refl u).serviceReleaseOf ..)⟩
  | withdrawService hd n =>
    exact ⟨_, rfl, .serveCalm fun u => withComp_keeps (.refl u) _ fun _ => (Calm.refl u).withdrawService _⟩
  | testPulse hd n =>
    exact ⟨_, rfl, .serveCalm fun u => .guarded (withComp_keeps (.refl u) _ fun _ => (NoPulse.refl u).testPulse _)⟩
  | columnRestore hd n => exact ⟨_, rfl, .serveCalm fun u => .guarded ((NoPulse.refl u).columnRestore n)⟩
  | setTiming hd sel v => exact ⟨_, rfl, .serveLate fun _ => .setTiming ..⟩
  | readCompartment hd n => exact ⟨_, rfl, .serveCalm fun u => withComp_keeps (.refl u) _ fun _ => .refl u⟩
  | readConsignment hd n => exact ⟨_, rfl, .serveCalm fun _ => .readConsignment n⟩
  | readCharge hd i => exact ⟨_, rfl, .serveCalm fun _ => .readCharge i⟩
  | readQueueQueue hd ok | readQueueEngine hd ok | readQueueLists hd ok =>
    exact ⟨_, rfl, .serveCalm fun u => check_keeps (.refl u) _ _ fun _ => .refl u⟩
  | readQueuePickup hd ok i => exact ⟨_, rfl, .serveCalm fun _ => .readPickup ok i⟩
  | readClock hd => exact ⟨_, rfl, .serveCalm fun u => .refl u⟩
  | unknownRequestCode hd code => exact ⟨_, rfl, .serveCalm fun u => .refl u⟩
  | frameDiscarded p => exact ⟨_, rfl, .discardFrame p⟩
  | frameGapTimeout p => exact ⟨_, rfl, .discardFrame p⟩
  | responseSent p =>
    refine ⟨_, rfl, ?_⟩
    split
    · exact SeqKept.onPort {} ..
    · exact .refl s
  | armingEnd col => exact ⟨_, rfl, .eventCalm fun u => (Calm.refl u).armingEnds col⟩
  | pulseGood col x =>
    exact ⟨_, rfl, .event fun u => .pulseEnds _ _ _ (fun v e _ => (Inner.refl v).pulseGoodEnd e)
      fun _ p _ flies => p.pulseGoodEnd flies⟩
  | pulseOpenCoil col x =>
    exact ⟨_, rfl, .event fun u => .pulseEnds _ _ _
      (fun v e flies => (Inner.refl v).pulseOpenEnd e (List.mem_filter.mp flies).1)
      fun _ p _ flies => p.pulseOpenEnd flies⟩
  | pulseShort col x =>
    exact ⟨_, rfl, .event fun u => .pulseEnds _ _ _ (fun v e _ => (Inner.refl v).shortEnd e)
      fun _ p _ flies => p.shortEnd flies⟩
  | testPulseEnd col o x =>
    exact ⟨_, rfl, .event fun u => .pulseEnds _ _ _ (fun v e _ => (Inner.refl v).testPulseEnd e o)
      fun _ p _ flies => p.testPulseEnd flies o⟩
  | runWindowEnd col x => exact ⟨_, rfl, .eventCalm fun u => ((Calm.refl u).latch x).runWindowEnds col⟩
  | recoveringEnd col => exact ⟨_, rfl, .eventCalm fun u => (Calm.refl u).recoveringEnds col⟩
  | svcKeyOn => exact ⟨_, rfl, .eventCalm fun u => (Calm.refl u).keyOn⟩
  | svcKeyOff => exact ⟨_, rfl, .eventCalm fun _ => {}⟩
  | pfailAssert => exact ⟨_, rfl, {}⟩
  | retentionLoss => exact ⟨_, rfl, {}⟩
  | mainsFall => exact ⟨_, rfl, SeqKept.tryStop {}⟩
  | resetAssert => exact ⟨_, rfl, SeqKept.tryStop {}⟩
  | pfailNegate x => exact ⟨_, rfl, .pfailNegated s x⟩
  | mainsReturn x => exact ⟨_, rfl, .mainsReturns s x⟩
  | resetRelease x => exact ⟨_, rfl, .resetReleased s x⟩
  | custodyTick => exact ⟨_, rfl, .custodyTicks s⟩
  | chargeExpiry i => exact ⟨_, rfl, .eventCalm fun u => (Calm.refl u).expireCharge i⟩
  | lockoutEnd => exact ⟨_, rfl, .eventCalm fun u => (Calm.refl u).lockoutEnds⟩
  | sweepStart => exact ⟨_, rfl, .eventCalm fun _ => {}⟩
  | sweepColumnStep x =>
    exact ⟨_, rfl, .event fun u => (SeqInside.of_calm ((Calm.refl u).latch x)).trans (.sweepStep _)⟩
  | openWindowEnd c => exact ⟨_, rfl, .eventCalm fun u => (Calm.refl u).windowEnds c⟩
  | ajarTimerEnd c => exact ⟨_, rfl, .eventCalm fun u => (Calm.refl u).ajarEnds c⟩

/-- Every step keeps the bounds of the sequencer and its pulses. -/
theorem step_seqKept (h : step s = .next t) : SeqKept s t := by
  unfold step at h
  split at h
  · cases h
    exact .tick s
  · rename_i c rest _
    obtain ⟨u, hu, kept⟩ := exec_seqKept c { s with pending := rest }
    cases h.symm.trans hu
    exact SeqKept.trans {} kept

/-- Settles O6: requests join where there is room, for compartments that have no entry; every other change of the queue
takes entries out of it, or puts one back in its place. -/
theorem stepsKeepReleaseQueue : Obligations.StepsKeepReleaseQueue := fun _ _ bound distinct h =>
  ⟨(step_seqKept h).bound bound, (step_seqKept h).distinct distinct⟩

/-- Settles O7: only the arbiter puts entries in flight, within the budget, and Set Timing takes no budget below their
number. -/
theorem stepsKeepCoilBudget : Obligations.StepsKeepCoilBudget := fun _ _ kept h => (step_seqKept h).budget kept

theorem stepsKeepPulses : Claims.StepsKeepPulses := fun _ _ order h => (step_seqKept h).pulses order

/-- Settles O52, from what the arbiter chooses, tests and counts, and from what every step keeps of the pulses. -/
theorem arbiterAndPulses : Obligations.ArbiterAndPulses :=
  ⟨arbiterTakesEligibleEntries, arbiterLooksUntilNoneIsLeft, arbiterTests, takingCountsPassOvers,
    pairingHoldsTheArbiter, stepsKeepPulses⟩

end Sys2Proof.Machine
end

section
/-! The obligations on Set Timing and on the columns' drivers. -/

namespace Sys2Proof.Machine

variable {s : State} {hd : Head} {col : Column} {c : Comp}

/-! ### Set Timing (R166) -/

/-- Settles O12, by the two checks: the select field names settings alone, and a written budget holds the in-flight
set. -/
theorem setTimingWritesTheSettings : Obligations.SetTimingWritesTheSettings := by
  intro h sel v s frame
  have named_iff := selectsOnly_iff sel 4
  have fits_iff := budgetFits_iff (s := s.frameTaken h.port) sel v
  refine ⟨fun named fits => congrArg _ (serve_completes frame rfl ?_),
    fun named written exceeds => congrArg _ (serveOps_refuses frame ?_),
    fun other => congrArg _ (serveOps_refuses frame ?_)⟩
  · exact (check_passes _ _ (named_iff.mpr named)).trans (check_passes _ _ (fits_iff.mpr fits))
  · refine (check_passes _ _ (named_iff.mpr named)).trans (check_fails _ _ ?_)
    exact Bool.eq_false_iff.mpr fun fits => Nat.not_le.mpr exceeds (fits_iff.mp fits written)
  · exact check_fails _ _ (Bool.eq_false_iff.mpr fun named => Nat.not_le.mpr (named_iff.mp named) other)

/-! ### The ends of a column's timers (R150 to R152) -/

theorem armingEnds_arming {left : Nat} (arming : s.column col = .arming left) (taken : (s.flyingOn col).isSome = true) :
    s.armingEnds col = s.pulseStarts col (msUnits 600) := by
  unfold State.armingEnds
  rw [arming]
  exact if_pos taken

theorem runWindowEnds_armed {run : Nat} (armed : s.column col = .armed run) : s.runWindowEnds col = s.disarm col := by
  unfold State.runWindowEnds
  rw [armed]

theorem runWindowEnds_pulsing {run left : Nat} (pulsing : s.column col = .pulsing run left) :
    s.runWindowEnds col = s.putColumn col (.pulsing 0 left) := by
  unfold State.runWindowEnds
  rw [pulsing]

theorem recoveringEnds_recovering {left : Nat} (recovering : s.column col = .recovering left) :
    s.recoveringEnds col = s.setColumn col .idle := by
  unfold State.recoveringEnds
  rw [recovering]

theorem columnTimersEnd : Claims.ColumnTimersEnd := fun _ x s run =>
  ⟨fun _ arming taken => exec_event rfl run (armingEnds_arming arming taken),
    fun _ armed => exec_event rfl run (runWindowEnds_armed (s := s.latch x) armed),
    fun _ _ pulsing => exec_event_quiet rfl run (runWindowEnds_pulsing (s := s.latch x) pulsing) run.1,
    fun _ recovering => exec_event rfl run (recoveringEnds_recovering recovering)⟩

theorem columnAfterPulseRows : Claims.ColumnAfterPulseRows := by
  intro s col run left pulsing
  have acts : s.columnAfterPulse col =
      if !(s.targeted col) || run == 0 then s.disarm col else s.setColumn col (.armed run) := by
    unfold State.columnAfterPulse
    rw [pulsing]
  refine ⟨fun none => acts.trans (if_pos ?_), fun passed => acts.trans (if_pos ?_),
    fun targeted runs => acts.trans (if_neg ?_)⟩
  · rw [none]
    rfl
  · simp [passed]
  · simp [targeted, runs]

/-! ### The drive outputs (R149, R150, R213) -/

theorem lockDrive_pulsing {run left : Nat} (pulsing : s.column c.column = .pulsing run left) :
    s.lockDrive c = (s.seq.queue.find? fun e => e.inFlight && e.comp == c).map fun e => e.cls.current := by
  unfold State.lockDrive State.flying
  rw [pulsing, List.find?_filter]
  simp only [Bool.decide_and, Bool.decide_eq_true]

theorem lockDrive_none (still : ∀ run left, s.column c.column ≠ .pulsing run left) : s.lockDrive c = none := by
  unfold State.lockDrive
  generalize s.column c.column = st at still
  cases st with
  | pulsing run left => exact absurd rfl (still run left)
  | _ => rfl

theorem current_eq (k : EntryClass) : k.current = if k = .test then .reduced else .full := by cases k <;> rfl

/-- A lock is driven by the first entry in flight for it on a PULSING column. -/
theorem lockDrive_flying {run left : Nat} {older younger : List Entry} {e : Entry}
    (pulsing : s.column c.column = .pulsing run left) (queue : s.seq.queue = older ++ e :: younger)
    (flies : e.inFlight = true) (stands : e.comp = c) (first : ∀ x ∈ older, x.inFlight = true → x.comp ≠ c) :
    s.lockDrive c = some e.cls.current := by
  have older_none : older.find? (fun e => e.inFlight && e.comp == c) = none :=
    List.find?_eq_none.mpr fun x hx => by simpa using first x hx
  rw [lockDrive_pulsing pulsing, queue, List.find?_append, older_none]
  simp [flies, stands]

theorem busy_iff (st : ColumnState) : st.busy = true ↔
    (∃ left, st = .arming left) ∨ (∃ run, st = .armed run) ∨ ∃ run left, st = .pulsing run left := by
  cases st <;> simp [ColumnState.busy]

theorem columnLine_iff : s.columnLine col = true ↔ (s.column col).busy = true ∨
    (s.power.running = true ∧ s.scanner.sweeping = true ∧ s.scanner.pointer = col) := by
  cases busy : (s.column col).busy <;> simp [State.columnLine, State.senseSelect, State.columnDrive, busy, and_assoc]

theorem positionDrive_iff (p : Fin 16) :
    s.positionDrive p = true ↔ ∃ col : Column, s.lockDrive (Comp.at col p) ≠ none := by
  simp [State.positionDrive, List.any_eq_true, Option.isSome_iff_ne_none]

/-- A stopped part has every column IDLE (R190). -/
theorem stopped_column (s : State) (col : Column) : s.stopped.column col = .idle := by
  have idle : ∀ d : Column, (Vector.replicate 9 ColumnState.idle).get d = .idle := by decide
  exact idle col

theorem stopped_drives (s : State) : (∀ col, s.stopped.columnLine col = false) ∧
    (∀ p, s.stopped.positionDrive p = false) ∧ ∀ c, s.stopped.lockDrive c = none := by
  have locks : ∀ c, s.stopped.lockDrive c = none := fun c => lockDrive_none fun run left => by
    rw [stopped_column]
    exact nofun
  refine ⟨fun col => Bool.eq_false_iff.mpr fun line => ?_, fun p => Bool.eq_false_iff.mpr fun line => ?_, locks⟩
  · rcases columnLine_iff.mp line with busy | ⟨runs, -⟩
    · rw [stopped_column] at busy
      cases busy
    · cases runs
  · obtain ⟨col, driven⟩ := (positionDrive_iff p).mp line
    exact driven (locks _)

theorem driveOutputs : Claims.DriveOutputs := by
  intro s
  refine ⟨fun c => ⟨lockDrive_none, fun lands => ?_,
    fun run left older e younger pulsing queue flies stands first => ?_⟩, positionDrive_iff, fun col => ?_, fun run i stops => ?_⟩
  · by_cases pulsing : ∃ run left, s.column c.column = .pulsing run left
    · obtain ⟨run, left, pulsing⟩ := pulsing
      rw [lockDrive_pulsing pulsing, List.find?_eq_none.mpr fun e he => by simpa using lands e he]
      rfl
    · exact lockDrive_none fun run left h => pulsing ⟨run, left, h⟩
  · rw [lockDrive_flying pulsing queue flies stands first, current_eq]
  · rw [columnLine_iff, busy_iff]
    simp only [or_assoc]
  · rcases List.mem_pair.mp stops with rfl | rfl
    all_goals exact ⟨_, congrArg Host.Outcome.next (tryStop_running (s := { s with power := _ }) run), stopped_drives _⟩

/-- Settles O53, from the ends of a column's timers, its rows after a pulse, and what drives each output. -/
theorem columnDrivers : Obligations.ColumnDrivers := ⟨columnTimersEnd, columnAfterPulseRows, driveOutputs⟩

end Sys2Proof.Machine
end

section
/-! The obligations on the ends of pulses and on the sweep's samples. -/

namespace Sys2Proof.Machine

variable {s : State} {e : Entry} {col : Column} {c : Comp}

/-! ### The ends of pulses (R157 to R159, R165) -/

/-- A pulse in progress whose class the event admits takes the outcome (R157 to R159). -/
theorem pulseEnds_found {admits : EntryClass → Bool} {act : State → Entry → State}
    (found : s.pulsingEntry col = some e) (admitted : admits e.cls = true) : s.pulseEnds col admits act = act s e := by
  unfold State.pulseEnds
  rw [found]
  exact if_pos admitted

theorem isRelease_iff (k : EntryClass) : k.isRelease = true ↔ k = .custody ∨ k = .service := by
  cases k <;> simp [EntryClass.isRelease]

theorem shortEnd_release (release : e.cls = .custody ∨ e.cls = .service) : s.shortEnd e = s.pulseShortEnd e := by
  unfold State.shortEnd
  rcases release with custody | service
  · rw [custody]
  · rw [service]

theorem shortEnd_test (test : e.cls = .test) : s.shortEnd e = s.testPulseEnd e .short := by
  unfold State.shortEnd
  rw [test]

/-- A compartment whose entry leaves the queue has none (R147). -/
theorem leavesQueue_hasEntry (s : State) (c : Comp) : (s.leavesQueue c).hasEntry c = false := by
  refine List.any_eq_false.mpr fun f stays => ?_
  simpa using (List.mem_filter.mp stays).2

/-- The flight record entry of a compartment whose pulse ends is cleared (R168). -/
theorem leavesQueue_flight (s : State) (c : Comp) : ∀ f ∈ (s.leavesQueue c).seq.flight, f.comp ≠ c := fun f stays => by
  simpa using (List.mem_filter.mp stays).2

theorem pulseGoodReleasesTheDoor : Claims.PulseGoodReleasesTheDoor := by
  intro col x e s run found release s1 s2
  have released : s1.doorReleased e.comp e.cls.release = s2 := by
    have door : s1.door e.comp = s.door e.comp := rfl
    unfold State.doorReleased
    rw [door]
    unfold s2
    cases s.door e.comp with
    | none => rfl
    | some d => cases d <;> rfl
  refine ⟨exec_event rfl run ?_, leavesQueue_hasEntry _ _, leavesQueue_flight _ _, rfl⟩
  calc (s.latch x).pulseEnds col EntryClass.isRelease State.pulseGoodEnd
      = (s.latch x).pulseGoodEnd e := pulseEnds_found (s := s.latch x) found ((isRelease_iff _).mpr release)
    _ = ((s1.doorReleased e.comp e.cls.release).departed).emit (.columnActs e.comp.column) := rfl
    _ = _ := by rw [released]

theorem pulseOpenCoilRetriesOnce : Claims.PulseOpenCoilRetriesOnce := by
  intro col x e s run found release s1
  have ends : (s.latch x).pulseEnds col EntryClass.isRelease State.pulseOpenEnd = (s.latch x).pulseOpenEnd e :=
    pulseEnds_found (s := s.latch x) found ((isRelease_iff _).mpr release)
  exact ⟨fun first => exec_event rfl run (ends.trans (if_pos first)),
    fun second => exec_event rfl run (ends.trans (if_neg second))⟩

theorem pulseShortDisablesTheColumn : Claims.PulseShortDisablesTheColumn := by
  intro col x e s run found release s1
  exact ⟨exec_event rfl run ((pulseEnds_found (s := s.latch x) found rfl).trans (shortEnd_release release)),
    putColumn_column_same ..⟩

/-- A TEST entry has departed, with its result told to operations (R161, R165). -/
def State.tested (s : State) (e : Entry) (o : PulseOutcome) : State :=
  ((s.leavesQueue e.comp).testResult e.comp (PulseOutcome.detail o)
    (if e.restore then some (restoreDetail o) else none)).departed

theorem testPulseEnd_down {o : PulseOutcome} (fails : o = .short ∨ (o = .openCoil ∧ e.restore = true)) :
    s.testPulseEnd e o = (((s.tested e o).putColumn e.comp.column .disabled).failColumn e.comp.column).tellScanner
      e.comp.column := by
  unfold State.testPulseEnd State.tested
  rcases fails with rfl | ⟨rfl, restore⟩
  · rfl
  · rw [restore]

theorem testPulseEnd_restored (restore : e.restore = true) :
    s.testPulseEnd e .good = (s.tested e .good).disarm e.comp.column := by
  unfold State.testPulseEnd State.tested
  rw [restore]

theorem testPulseEnd_tested {o : PulseOutcome} (other : o ≠ .short) (plain : e.restore = false) :
    s.testPulseEnd e o = (s.tested e o).emit (.columnActs e.comp.column) := by
  unfold State.testPulseEnd State.tested
  rw [plain]
  cases o with
  | short => exact absurd rfl other
  | good | openCoil => rfl

theorem testPulseEnds : Claims.TestPulseEnds := by
  intro col x o e s run found test c q s1
  have ends : ∀ o, (s.latch x).pulseEnds col EntryClass.isTest (fun u e => u.testPulseEnd e o) =
      (s.latch x).testPulseEnd e o := fun o => pulseEnds_found (s := s.latch x) found (by rw [test]; rfl)
  have short : (s.latch x).pulseEnds col (fun _ => true) State.shortEnd = (s.latch x).testPulseEnd e .short :=
    (pulseEnds_found (s := s.latch x) found rfl).trans (shortEnd_test test)
  refine ⟨fun fails => exec_event rfl run ((ends o).trans (testPulseEnd_down fails)), fun good restore => ?_,
    fun other plain => exec_event rfl run ((ends o).trans (testPulseEnd_tested other plain)),
    (exec_event rfl run short).trans (exec_event rfl run (ends .short)).symm⟩
  subst good
  exact exec_event rfl run ((ends .good).trans (testPulseEnd_restored restore))

/-- Settles O54: each event finds the entry whose pulse is in progress, and does what its outcome asks. -/
theorem pulseEnds : Obligations.PulseEnds :=
  ⟨pulseGoodReleasesTheDoor, pulseOpenCoilRetriesOnce, pulseShortDisablesTheColumn, testPulseEnds⟩

/-! ### The sweep (R172, R173) -/

theorem sweepStep_sweeping (sweeping : s.scanner.sweeping = true) :
    s.sweepStep = if s.scanner.pointer.val < 8 then s.takeColumn.advanceSweep
      else (s.takeColumn.advanceSweep).sweepComplete := by
  unfold State.sweepStep
  rw [sweeping]
  rfl

theorem sweepStep_resting (resting : s.scanner.sweeping = false) : s.sweepStep = s := by
  unfold State.sweepStep
  rw [resting]
  rfl

theorem sweepTakesTheColumnAtThePointer : Claims.SweepTakesTheColumnAtThePointer := fun x s run =>
  ⟨exec_event_quiet rfl run rfl run.1,
    fun sweeping => exec_event rfl run (sweepStep_sweeping (s := s.latch x) sweeping),
    fun resting => exec_event_quiet rfl run (sweepStep_resting (s := s.latch x) resting) run.1⟩

theorem sweepAdvances : Claims.SweepAdvances := by
  refine fun s => ⟨fun col next => ?_, fun last => ?_,
    fun col b => ⟨put_get_same .., fun d other => put_get_other _ _ _ _ other⟩⟩
  · have more : s.scanner.pointer.val < 8 := by omega
    have here : (⟨s.scanner.pointer.val + 1, by omega⟩ : Column) = col := Fin.ext next
    unfold State.advanceSweep
    rw [dif_pos more, here]
  · unfold State.advanceSweep
    rw [dif_neg (by simp [last])]

/-! ### Samples (R174 to R182) -/

/-- A door record that is written as it stands. -/
theorem setDoor_of_door {d : Option Door} (h : s.door c = d) : s.setDoor c d = s := by
  subst h
  have same : put s.scanner.doors c (s.scanner.doors.get c) = s.scanner.doors := by simp [put, Vector.get_eq_getElem]
  unfold State.setDoor State.door
  rw [same]

theorem sampleMovesTheDoor : Claims.SampleMovesTheDoor := by
  intro s c
  refine ⟨fun door reads => ?_, fun door reads => ?_, fun k w door reads => ?_, fun k w door reads => ?_,
    fun k a door reads => ?_, fun k a p door reads => ?_, fun k a door reads => ?_, fun k a p door reads => ?_,
    fun k door reads => ?_, fun k p door reads => ?_, fun k p door reads => ?_, fun door reads => ?_,
    fun p door reads => ?_, fun p door reads => ?_⟩
  case refine_7 =>
    rcases door with door | door | door
    all_goals
      refine Eq.trans ?_ (setDoor_of_door door)
      unfold State.applySample
      rw [door, reads]
  case refine_8 | refine_11 =>
    unfold State.applySample
    rw [door, reads]
    cases k <;> rfl
  case refine_3 | refine_14 =>
    unfold State.applySample
    rw [door, reads]
    rfl
  all_goals
    unfold State.applySample
    rw [door, reads]

theorem fittingReadSetsTheDoor : Claims.FittingReadSetsTheDoor := by
  intro s c none
  have reads : s.applySample c = s.fittingRead c := by
    unfold State.applySample
    rw [none]
  unfold State.fittingRead at reads
  refine ⟨fun fitted opened => ?_, fun fitted shut => ?_, fun fitted => ?_⟩
  · rw [reads, fitted, opened]
    rfl
  · rw [reads, fitted, shut]
    rfl
  · rw [reads, fitted]
    rfl

/-- The scanner is asked for the read of a column that is owed one and is not busy (R149, R173). -/
theorem setColumn_signals (s : State) (col : Column) (st : ColumnState) : (s.setColumn col st).signals =
    if !st.busy && s.scanner.owed.get col then s.signals ++ [.owedRead col] else s.signals := by
  unfold State.setColumn State.tellScanner
  rw [show ((s.putColumn col st).markArbiter).column col = st from putColumn_column_same ..]
  split
  · rename_i asks
    exact (if_pos asks).symm
  · rename_i asks
    exact (if_neg asks).symm

theorem owedReadFollows : Claims.OwedReadFollows := by
  intro s col st
  rw [setColumn_signals]
  unfold State.owedRead
  refine ⟨fun owed idle => if_pos ?_, fun still => if_neg ?_, fun owed idle => if_pos ?_, fun still => if_neg ?_,
    fun later => ?_⟩
  · simp [owed, idle]
  · rcases still with owed | busy
    · simp [owed]
    · simp [busy]
  · simp [owed, idle]
  · rcases still with owed | busy
    · simp [owed]
    · simp [busy]
  · unfold State.readColumn
    simp only [if_neg later]

/-- Settles O55, from the sweep's steps, the rows of a sample by door record, and the owed read. -/
theorem sweepAndSamples : Obligations.SweepAndSamples :=
  ⟨sweepTakesTheColumnAtThePointer, sweepAdvances, sampleMovesTheDoor, fittingReadSetsTheDoor, owedReadFollows⟩

end Sys2Proof.Machine
end

section
/-! The obligation on the custody clock: `ClockMove` says once what a step can make of the clock, and both the ranges
and the order of the minutes are read from it. -/

namespace Sys2Proof.Machine

variable {s t : State} {k : Clock}

/-! ### What becomes of the custody clock -/

/-- The marks of a backup cold start: the clock at 0, the kind of the start, and no compartment fitted (R198). -/
def State.ColdMarks (t : State) : Prop :=
  t.clock = { minute := 0, subMinute := 0 } ∧ t.power.lastStart = .cold ∧ t.anyFitted = false

/-- What a step can make of the custody clock k: it keeps it, lets a cycle pass, counts a minute below the last one,
turns the sub-minute count at the last one (R189), or starts cold (R198). -/
inductive ClockMove (k : Clock) (t : State) : Prop
  | kept (clock : t.clock = k)
  | cycled (clock : t.clock = k.cycle)
  | counted (below : k.minute < maxWord) (clock : t.clock = { minute := k.minute + 1, subMinute := 0 })
  | turned (top : ¬ k.minute < maxWord) (clock : t.clock = { k with subMinute := 0 })
  | cold (marks : t.ColdMarks)

/-! ### The cycle and the tick (R189) -/

theorem cycle_minute (k : Clock) : k.cycle.minute = k.minute := by
  unfold Clock.cycle
  split
  · rfl
  · split
    · rfl
    · rfl

theorem subMinutes_pos : 0 < Config.subMinutes := by decide

/-- The sub-minute count stays in its range: it advances only below its last value. -/
theorem cycle_subMinute_lt (h : k.subMinute < Config.subMinutes) : k.cycle.subMinute < Config.subMinutes := by
  unfold Clock.cycle
  split
  case isTrue below => exact below
  case isFalse =>
    split
    · exact subMinutes_pos
    · exact h

/-- A cycle passes on the clock of a part that runs and of one that is stopped. -/
theorem tick_clock (s : State) : s.tick.clock = s.clock.cycle := by
  unfold State.tick
  dsimp only
  split
  · rfl
  · rfl

/-- The overstay scan that follows a tick reaches no clock (R25). -/
theorem custodyTicks_clock_below (below : s.clock.minute < maxWord) :
    s.custodyTicks.clock = { minute := s.clock.minute + 1, subMinute := 0 } := by
  rw [custodyTicks_below below]
  split
  · exact (Inner.refl _).begin.overstayScan.complete.clock
  · rfl

/-- At the last minute no tick is made. -/
theorem custodyTicks_top (top : ¬ s.clock.minute < maxWord) :
    s.custodyTicks = { s with clock := { s.clock with subMinute := 0 } } := if_neg top

theorem ClockMove.custodyTicks (s : State) : ClockMove s.clock s.custodyTicks := by
  by_cases below : s.clock.minute < maxWord
  · exact .counted below (custodyTicks_clock_below below)
  · exact .turned below (congrArg State.clock (custodyTicks_top below))

/-! ### The start (R192, R198) -/

theorem anyFitted_eq_false (h : ∀ c, s.entry c = CompartmentEntry.cold) : s.anyFitted = false := by
  refine List.any_eq_false.mpr fun c _ => ?_
  rw [h c]
  exact Bool.false_ne_true

theorem start_coldMarks (lost : s.intact = false) (x : Straps) : (s.start x).ColdMarks := by
  rw [start_cold lost]
  exact ⟨rfl, rfl, anyFitted_eq_false fun _ => Vector.getElem_replicate ..⟩

/-- A start of an intact part keeps the clock. -/
theorem ClockMove.start (s : State) (x : Straps) : ClockMove s.clock (s.start x) := by
  cases whole : s.intact with
  | true =>
    rw [start_intact whole]
    exact .kept rfl
  | false => exact .cold (start_coldMarks whole x)

/-- The marks that a power event changes first leave the clock k. -/
theorem ClockMove.tryStart (same : s.clock = k) (x : Straps) : ClockMove k (s.tryStart x) := by
  subst same
  unfold State.tryStart
  split
  · exact .start s x
  · exact .kept rfl

theorem ClockMove.mainsReturns (s : State) (x : Straps) : ClockMove s.clock (s.mainsReturns x) := by
  unfold State.mainsReturns
  split
  · exact .kept rfl
  · exact .tryStart (by rfl) x

theorem ClockMove.resetReleased (s : State) (x : Straps) : ClockMove s.clock (s.resetReleased x) := by
  unfold State.resetReleased
  split
  · exact .tryStart (by rfl) x
  · exact .kept rfl

/-- PFAIL's negation lets the arbiter of a running part look, which reaches no clock (R169). -/
theorem ClockMove.pfailNegated (s : State) (x : Straps) : ClockMove s.clock (s.pfailNegated x) := by
  unfold State.pfailNegated
  split
  · have looks : Keeps [] (s.setPfail false) ((s.setPfail false).event State.markArbiter) :=
      .event_inner fun hu => hu.markArbiter
    exact .kept (looks.clock (by simp))
  · exact .tryStart (by rfl) x

/-! ### Every step -/

theorem exec_clockMove {c : Instr} (h : exec c s = .next t) : ClockMove s.clock t := by
  cases c with
  | custodyTick =>
    cases h
    exact .custodyTicks s
  | pfailNegate x =>
    cases h
    exact .pfailNegated s x
  | mainsReturn x =>
    cases h
    exact .mainsReturns s x
  | resetRelease x =>
    cases h
    exact .resetReleased s x
  | _ => exact .kept ((keeps_of_exec h).clock (by simp [changedParts, stopParts]))

theorem step_clockMove (h : step s = .next t) : ClockMove s.clock t := by
  unfold step at h
  split at h
  · cases h
    exact .cycled (tick_clock s)
  · rename_i c rest _
    exact exec_clockMove (s := { s with pending := rest }) h

/-- No move takes the clock's counts out of their ranges. -/
theorem ClockMove.inRange (h : ClockMove s.clock t) (range : s.ClockInRange) : t.ClockInRange := by
  obtain ⟨minute, sub⟩ := range
  unfold State.ClockInRange
  cases h with
  | kept clock =>
    rw [clock]
    exact ⟨minute, sub⟩
  | cycled clock =>
    rw [clock, cycle_minute]
    exact ⟨minute, cycle_subMinute_lt sub⟩
  | counted below clock =>
    rw [clock]
    exact ⟨below, subMinutes_pos⟩
  | turned top clock =>
    rw [clock]
    exact ⟨minute, subMinutes_pos⟩
  | cold marks =>
    obtain ⟨clock, -, -⟩ := marks
    rw [clock]
    exact ⟨Nat.zero_le _, subMinutes_pos⟩

/-- No move but a cold start takes the minute back. -/
theorem ClockMove.minute_le (h : ClockMove k t) : k.minute ≤ t.clock.minute ∨ t.ColdMarks := by
  cases h with
  | kept clock => exact .inl (congrArg Clock.minute clock).ge
  | cycled clock => exact .inl (by rw [clock, cycle_minute])
  | counted below clock => exact .inl (by rw [clock]; exact Nat.le_succ _)
  | turned top clock => exact .inl (congrArg Clock.minute clock).ge
  | cold marks => exact .inr marks

/-- Settles O8, from the moves that a step can make of the custody clock. -/
theorem stepsKeepCustodyClock : Obligations.StepsKeepCustodyClock := by
  intro s t range h
  have move := step_clockMove h
  exact ⟨move.inRange range, move.minute_le⟩

end Sys2Proof.Machine
end

section
/-! SUPPORT. What every command does to the port units: a request works on the unit of its own port, and on every other
port notices join the queue, which never outgrows its bound (R203, R205). A request other than Port Reset is served by
`State.serveLate` with the roles and the length of its row of R212; that is said once for all of them. -/

namespace Sys2Proof.Machine

variable {s t u : State} {own : Option (Fin 4)} {p : Fin 4} {hd : Head} {code : Byte} {carried : Role → Bool} {n : Nat}
  {late : State → List Field} {body : State → State × Answer}

/-! ### What a change leaves of the ports -/

/-- What happens to the ports beside the work of a command on a port of its own: notices join the queues of the others,
and no queue outgrows its bound. -/
structure PortsBut (own : Option (Fin 4)) (s t : State) : Prop where
  others : ∀ q, own ≠ some q → PortGrew (s.port q) (t.port q)
  bounded : s.NoticesBounded → t.NoticesBounded

/-- Ports that only take notices keep their bounds. -/
theorem PortsBut.of_grew (h : ∀ q, PortGrew (s.port q) (t.port q)) : PortsBut own s t :=
  ⟨fun q _ => h q, fun bounds q => (h q).bound (bounds q)⟩

theorem PortsBut.of_inner (h : Inner s t) : PortsBut own s t := of_grew h.ports

theorem PortsBut.of_ports (h : t.ports = s.ports := by rfl) : PortsBut own s t :=
  of_grew fun q => by
    have same : t.port q = s.port q := congrArg (fun v => v.get q) h
    rw [same]
    exact .refl _

theorem PortsBut.refl (s : State) : PortsBut own s s := of_ports

theorem PortsBut.trans (a : PortsBut own s t) (b : PortsBut own t u) : PortsBut own s u :=
  ⟨fun q other => (a.others q other).trans (b.others q other), b.bounded ∘ a.bounded⟩

/-- A change that works on no port of its own is one that may. -/
theorem PortsBut.widen (h : PortsBut none s t) : PortsBut own s t := of_grew fun q => h.others q nofun

theorem PortsBut.inner (h : PortsBut own s t) (inside : Inner t u) : PortsBut own s u := h.trans (.of_inner inside)

theorem PortsBut.complete (h : PortsBut own s t) : PortsBut own s t.complete := h.inner (Inner.refl t).complete

/-- Work on a port of the command's own that adds no notice there. -/
theorem PortsBut.onPort (h : PortsBut (some p) s t) {f : PortUnit → PortUnit}
    (shorter : (f (t.port p)).queue.length ≤ (t.port p).queue.length) : PortsBut (some p) s (t.onPort p f) := by
  refine h.trans ⟨fun q other => ?_, fun bounds q => ?_⟩
  · rw [onPort_port_other t p q f fun same => other (congrArg some same.symm)]
    exact .refl _
  · by_cases same : q = p
    · rw [same, onPort_port_same]
      exact shorter.trans (bounds p)
    · rw [onPort_port_other t p q f same]
      exact bounds q

/-! ### What the operations of a port unit leave of its queue -/

@[simp] theorem send_queue (v : PortUnit) (a : Answer) (clears refusal : Bool) :
    (v.send hd code a clears refusal).queue = v.queue := rfl

@[simp] theorem refuseBusy_queue (v : PortUnit) : (v.refuseBusy hd code).queue = v.queue := by
  unfold PortUnit.refuseBusy
  split
  · rfl
  · rfl

@[simp] theorem sent_queue (v : PortUnit) : v.sent.queue = v.queue := by
  unfold PortUnit.sent
  split
  · rfl
  · rfl

/-! ### Frames and events -/

theorem PortsBut.frameTaken (h : PortsBut (some p) s t) : PortsBut (some p) s (t.frameTaken p) := h.onPort le_rfl

theorem PortsBut.respond (h : PortsBut (some hd.port) s t) (a : Answer) :
    PortsBut (some hd.port) s (t.respond hd code a) :=
  h.onPort (f := fun v => { v.send hd code a true false with busy := true }) le_rfl

/-- A frame works on its own port alone, and so may its block (R202 to R204). -/
theorem PortsBut.serveLate (hb : ∀ v, PortsBut (some hd.port) v (body v).1) :
    PortsBut (some hd.port) s (s.serveLate hd code carried n late body) := by
  have taken : PortsBut (some hd.port) s (s.begin.frameTaken hd.port) := (of_ports (t := s.begin)).frameTaken
  unfold State.serveLate
  dsimp only
  split
  · exact .refl s
  · split
    · exact taken.onPort (by simp)
    · split
      · exact taken.onPort le_rfl
      · split
        · exact taken.onPort le_rfl
        · exact (taken.trans (hb _)).complete.respond _

theorem PortsBut.event {f : State → State} (hf : ∀ v, PortsBut none v (f v)) : PortsBut none s (s.event f) := by
  unfold State.event
  split
  · exact ((of_ports (t := s.begin)).trans (hf _)).complete
  · exact .refl s

theorem PortsBut.event_inner {f : State → State} (hf : ∀ {v w : State}, Inner v w → Inner v (f w)) :
    PortsBut none s (s.event f) := event fun v => .of_inner (hf (.refl v))

/-- A Port Reset empties the queue of its own port (R207). -/
theorem PortsBut.portReset (x : Sense) : PortsBut (some hd.port) s (s.portReset hd x) := by
  have taken : PortsBut (some hd.port) s (s.begin.frameTaken hd.port) := (of_ports (t := s.begin)).frameTaken
  unfold State.portReset
  dsimp only
  split
  · exact .refl s
  · split
    · exact taken.onPort le_rfl
    · split
      · exact taken.onPort le_rfl
      · have cleared := (taken.inner ((Inner.refl _).latch x)).onPort (f := PortUnit.reset) (Nat.zero_le _)
        exact (cleared.inner ((Inner.refl _).resetRole _)).complete.onPort le_rfl

theorem PortsBut.discardFrame (p : Fin 4) : PortsBut (some p) s (s.discardFrame p) := by
  unfold State.discardFrame
  split
  · exact (refl s).frameTaken
  · exact .refl s

/-- Read Notice takes a notice at most (R206). -/
theorem PortsBut.readNotice (p : Fin 4) : PortsBut (some p) s (s.readNotice p).1 := by
  unfold State.readNotice
  split
  · exact (refl s).onPort (f := fun v => { v with overflow := false }) le_rfl
  · rename_i oldest rest queue
    exact (refl s).onPort (f := fun v => { v with queue := rest }) (by simp [queue])

/-! ### Changes that `Inner` does not speak of -/

theorem PortsBut.withCode {act : State → RecordNo → Consignment → State × Answer} (text : Text)
    (hb : ∀ v r k, PortsBut none v (act v r k).1) : PortsBut none s (s.withCode text act).1 :=
  withCode_keeps (.refl s) text of_ports fun r k => (of_ports (t := s.knownAttempt)).trans (hb _ r k)

theorem PortsBut.quoteKnown (r : RecordNo) (k : Consignment) : PortsBut none s (s.quoteKnown r k).1 := by
  have evaluated : PortsBut none s (s.addSticky (s.evaluate k).raised) := of_ports
  refine check_keeps (.refl s) _ _ fun _ => check_keeps (.refl s) _ _ fun _ => ?_
  dsimp only
  split
  · exact evaluated.inner ((Inner.refl _).feeCondition ..)
  · exact check_keeps evaluated _ _ fun _ => evaluated.inner ((Inner.refl _).quoteOpens ..)

theorem PortsBut.collectKnown (r : RecordNo) (k : Consignment) : PortsBut none s (s.collectKnown r k).1 := by
  have evaluated : PortsBut none s (s.addSticky (s.evaluate k).raised) := of_ports
  refine check_keeps (.refl s) _ _ fun _ => check_keeps (.refl s) _ _ fun _ => ?_
  dsimp only
  split
  · exact evaluated.inner ((Inner.refl _).feeCondition ..)
  · split
    · exact evaluated
    · exact evaluated.inner ((Inner.refl _).collectClaims ..)

theorem PortsBut.setCarrier (sel : BitVec 16) (v : CarrierFields) (i : Fin 8) :
    PortsBut none s (s.setCarrier sel v i).1 :=
  check_keeps (.refl s) _ _ fun _ => check_keeps (.refl s) _ _ fun _ => check_keeps (.refl s) _ _ fun _ => of_ports

theorem PortsBut.setTariff (target : Nat) (sel : BitVec 16) (v : ClassValues) (b : BankValues) :
    PortsBut none s (s.setTariff target sel v b).1 := by
  unfold State.setTariff
  split
  · exact check_keeps (.refl s) _ _ fun _ => of_ports
  · split
    · exact check_keeps (.refl s) _ _ fun _ => check_keeps (.refl s) _ _ fun _ => of_ports
    · exact .refl s

theorem PortsBut.setMasks (set : Byte) : PortsBut none s (s.setMasks set).1 := by
  unfold State.setMasks
  split
  · exact .refl s
  · exact of_ports

theorem PortsBut.clearConditions (set : Byte) : PortsBut none s (s.clearConditions set).1 := by
  unfold State.clearConditions
  split
  · exact .refl s
  · exact of_ports

theorem PortsBut.setTiming (sel : BitVec 16) (v : TimingFields) : PortsBut none s (s.setTiming sel v).1 :=
  check_keeps (.refl s) _ _ fun _ => check_keeps (.refl s) _ _ fun _ => of_ports

theorem PortsBut.lockoutEnds : PortsBut none s s.lockoutEnds := by
  unfold State.lockoutEnds
  split
  · exact of_ports
  · exact .refl s

theorem PortsBut.keyOn : PortsBut none s s.keyOn := by
  unfold State.keyOn
  split
  · exact .refl s
  · exact of_ports

theorem PortsBut.custodyTicks : PortsBut none s s.custodyTicks := by
  unfold State.custodyTicks
  dsimp only
  split
  · split
    · exact ((of_ports (t := { s with clock := _ })).inner (Inner.refl _).begin.overstayScan).complete
    · exact of_ports
  · exact of_ports

/-- RESTART_DONE joins the queue of every port (R197). -/
theorem PortsBut.endRestoring : PortsBut none s s.endRestoring :=
  (of_ports (t := { s with power := { s.power with restoring := false } })).inner
    ((Inner.refl _).postPorts _ fun v => .post v _)

theorem PortsBut.sweepComplete : PortsBut none s s.sweepComplete := by
  unfold State.sweepComplete
  split
  · exact .of_inner ((Inner.refl s).reconcile.setPhase _)
  · exact endRestoring.inner ((Inner.refl _).setPhase _)
  · exact .refl s

theorem PortsBut.sweepStep : PortsBut none s s.sweepStep := by
  have advanced : PortsBut none s s.takeColumn.advanceSweep := .of_inner (Inner.refl s).takeColumn.advanceSweep
  unfold State.sweepStep
  dsimp only
  split
  · exact .refl s
  · split
    · exact advanced
    · exact advanced.trans .sweepComplete

/-! ### Requests -/

/-- A request as its frame is served: the roles and the length that R202 checks are those of its row, and its block
works on its own port at most. -/
def ServedAs (c : Instr) (hd : Head) (code n : Nat) (roles : List Role) : Prop :=
  ∃ (carried : Role → Bool) (late : State → List Field) (body : State → State × Answer),
    (∀ s, exec c s = .next (s.serveLate hd (BitVec.ofNat 8 code) carried n late body)) ∧
    (∀ r, carried r = true ↔ r ∈ roles) ∧ ∀ v, PortsBut (some hd.port) v (body v).1

section
variable {c : Instr} {hd' : Head} {code code' n' : Nat} {role : Role} {roles : List Role}

/-- A request of one role whose block works on no port. -/
theorem ServedAs.of_role (row : some (hd', code', [role], n') = some (hd, code, roles, n))
    (served : ∀ s, exec c s = .next (s.serveLate hd' (BitVec.ofNat 8 code') (only role) n' late body))
    (hb : ∀ v, PortsBut none v (body v).1) : ServedAs c hd code n roles := by
  cases row
  exact ⟨only role, late, body, served, fun r => by simp [only], fun v => (hb v).widen⟩

/-- A request of one role whose block makes no change but those of a step's consequences. -/
theorem ServedAs.of_inner (row : some (hd', code', [role], n') = some (hd, code, roles, n))
    (served : ∀ s, exec c s = .next (s.serveLate hd' (BitVec.ofNat 8 code') (only role) n' late body))
    (hb : ∀ {v w : State}, Inner v w → Inner v (body w).1) : ServedAs c hd code n roles :=
  of_role row served fun v => .of_inner (hb (.refl v))

/-- Every request but Port Reset is served so. -/
theorem request_served (row : requestRow c = some (hd, code, roles, n)) (other : ∀ x, c ≠ .portReset hd x) :
    ServedAs c hd code n roles := by
  cases c with
  | readNotice =>
    cases row
    exact ⟨everyRole, fun _ => [], fun v => v.readNotice hd.port, fun _ => rfl,
      fun r => by cases r <;> simp [everyRole], fun _ => .readNotice _⟩
  | portReset _ x =>
    cases row
    exact absurd rfl (other x)
  | lookup =>
    exact .of_role row (fun _ => rfl) fun v => guarded_keeps (.refl v) (.withCode _ fun _ _ _ => .of_ports)
  | quote =>
    exact .of_role row (fun _ => rfl) fun v => guarded_keeps (.refl v) (.withCode _ fun _ _ _ => .quoteKnown ..)
  | collect =>
    exact .of_role row (fun _ => rfl) fun v => guarded_keeps (.refl v) (.withCode _ fun _ _ _ => .collectKnown ..)
  | voidQuote =>
    exact .of_inner row (fun _ => rfl) fun hv => guarded_keeps hv (withCharge_keeps hv _ _ fun _ _ => hv.voidNamed ..)
  | returnBegin => exact .of_inner row (fun _ => rfl) fun hv => guarded_keeps hv (hv.returnBegin ..)
  | returnCancel _ _ x =>
    exact .of_inner row (fun _ => rfl) fun hv => guarded_keeps (hv.latch x) ((hv.latch x).returnCancel _)
  | releaseCharge =>
    exact .of_inner row (fun _ => rfl) fun hv => withCharge_keeps hv _ _ fun _ _ => hv.releaseNamed ..
  | slotWrite => exact .of_inner row (fun _ => rfl) fun hv => withSlot_keeps hv _ fun _ => hv.slotWrite ..
  | slotRead => exact .of_inner row (fun _ => rfl) fun hv => withSlot_keeps hv _ fun _ => hv
  | handOver => exact .of_inner row (fun _ => rfl) fun hv => withSlot_keeps hv _ fun _ => hv.handOver ..
  | start => exact .of_inner row (fun _ => rfl) fun hv => withSlot_keeps hv _ fun _ => hv.engineStart _
  | resume => exact .of_inner row (fun _ => rfl) fun hv => hv.engineResume
  | stop _ x => exact .of_inner row (fun _ => rfl) fun hv => (hv.latch x).engineStop
  | fetchCharge => exact .of_inner row (fun _ => rfl) fun hv => hv.fetchCharge _
  | paymentResult => exact .of_inner row (fun _ => rfl) fun hv => hv.paymentResult ..
  | setCompartment => exact .of_inner row (fun _ => rfl) fun hv => hv.setCompartment ..
  | withholdToReview =>
    exact .of_inner row (fun _ => rfl) fun hv => guarded_keeps hv (check_keeps hv _ _ fun _ =>
      withComp_keeps hv _ fun _ => hv.withholdReview _)
  | withholdToOutOfService =>
    exact .of_inner row (fun _ => rfl) fun hv => guarded_keeps hv (check_keeps hv _ _ fun _ =>
      withComp_keeps hv _ fun _ => hv.withholdOos _)
  | resolveReviewRestore => exact .of_inner row (fun _ => rfl) fun hv => resolve_keeps hv _ _ fun _ => hv.restore _
  | resolveReviewWaive => exact .of_inner row (fun _ => rfl) fun hv => resolve_keeps hv _ _ fun _ => hv.waive _
  | resolveReviewRetire =>
    exact .of_inner row (fun _ => rfl) fun hv => resolve_keeps hv _ _ fun _ => hv.removeHolding ..
  | resolveReviewWithdraw =>
    exact .of_inner row (fun _ => rfl) fun hv => resolve_keeps hv _ _ fun _ => hv.outOfService ..
  | returnToService =>
    exact .of_inner row (fun _ => rfl) fun hv => guarded_keeps hv (withComp_keeps hv _ fun _ => hv.returnToService _)
  | amendHolding =>
    exact .of_inner row (fun _ => rfl) fun hv => guarded_keeps hv (withComp_keeps hv _ fun _ => hv.amendHolding ..)
  | setCarrier =>
    exact .of_role row (fun _ => rfl) fun v => withCarrier_keeps (.refl v) _ fun _ => .setCarrier ..
  | readCarrier => exact .of_inner row (fun _ => rfl) fun hv => withCarrier_keeps hv _ fun _ => hv
  | setTariff => exact .of_role row (fun _ => rfl) fun _ => .setTariff ..
  | readTariff => exact .of_inner row (fun _ => rfl) fun hv => hv.readTariff _
  | setMasks => exact .of_role row (fun _ => rfl) fun _ => .setMasks _
  | clearConditions => exact .of_role row (fun _ => rfl) fun _ => .clearConditions _
  | readConditions => exact .of_inner row (fun _ => rfl) fun hv => hv
  | serviceRelease => exact .of_inner row (fun _ => rfl) fun hv => guarded_keeps hv (hv.serviceReleaseOf ..)
  | withdrawService =>
    exact .of_inner row (fun _ => rfl) fun hv => withComp_keeps hv _ fun _ => hv.withdrawService _
  | testPulse =>
    exact .of_inner row (fun _ => rfl) fun hv => guarded_keeps hv (withComp_keeps hv _ fun _ => hv.testPulse _)
  | columnRestore => exact .of_inner row (fun _ => rfl) fun hv => guarded_keeps hv (hv.columnRestore _)
  | setTiming => exact .of_role row (fun _ => rfl) fun _ => .setTiming ..
  | readCompartment => exact .of_inner row (fun _ => rfl) fun hv => withComp_keeps hv _ fun _ => hv
  | readConsignment => exact .of_inner row (fun _ => rfl) fun hv => hv.readConsignment _
  | readCharge => exact .of_inner row (fun _ => rfl) fun hv => hv.readCharge _
  | readQueueQueue | readQueueEngine | readQueueLists =>
    exact .of_inner row (fun _ => rfl) fun hv => check_keeps hv _ _ fun _ => hv
  | readQueuePickup => exact .of_inner row (fun _ => rfl) fun hv => hv.readPickup ..
  | readClock => exact .of_inner row (fun _ => rfl) fun hv => hv
  | _ => cases row

theorem ServedAs.ports (h : ServedAs c hd code n roles) (s : State) :
    ∃ t, exec c s = .next t ∧ PortsBut (some hd.port) s t := by
  obtain ⟨carried, late, body, served, -, hb⟩ := h
  exact ⟨_, served s, .serveLate hb⟩

end

/-! ### Every command -/

/-- The port on whose unit a command works itself: that by which a frame comes, or whose line it speaks of. -/
def ownPort : Instr → Option (Fin 4)
  | .unknownRequestCode h _ => some h.port
  | .frameDiscarded p | .frameGapTimeout p | .responseSent p => some p
  | c => (requestRow c).map fun row => row.1.port

/-- Every command that neither starts nor stops the mains domain leaves the ports but its own alone, but for notices. -/
theorem exec_ports {c : Instr} (power : Instr.NoPower c) (s : State) :
    ∃ t, exec c s = .next t ∧ PortsBut (ownPort c) s t := by
  obtain ⟨⟨noNegate, noReturn, noRelease⟩, noFall, noAssert⟩ := power
  cases c with
  | portReset => exact ⟨_, rfl, .portReset _⟩
  | unknownRequestCode => exact ⟨_, rfl, .serveLate .refl⟩
  | frameDiscarded | frameGapTimeout => exact ⟨_, rfl, .discardFrame _⟩
  | responseSent p =>
    refine ⟨_, rfl, ?_⟩
    split
    · exact (PortsBut.refl s).onPort (by simp)
    · exact .refl s
  | armingEnd => exact ⟨_, rfl, .event_inner fun hv => hv.armingEnds _⟩
  | pulseGood _ x =>
    exact ⟨_, rfl, .event_inner fun hv => pulseEnds_keeps (hv.latch x) _ _ _ fun e _ => (hv.latch x).pulseGoodEnd e⟩
  | pulseOpenCoil _ x =>
    exact ⟨_, rfl, .event_inner fun hv => pulseEnds_keeps (hv.latch x) _ _ _ fun e he =>
      (hv.latch x).pulseOpenEnd e he⟩
  | pulseShort _ x =>
    exact ⟨_, rfl, .event_inner fun hv => pulseEnds_keeps (hv.latch x) _ _ _ fun e _ => (hv.latch x).shortEnd e⟩
  | testPulseEnd _ o x =>
    exact ⟨_, rfl, .event_inner fun hv => pulseEnds_keeps (hv.latch x) _ _ _ fun e _ =>
      (hv.latch x).testPulseEnd e o⟩
  | runWindowEnd _ x => exact ⟨_, rfl, .event_inner fun hv => (hv.latch x).runWindowEnds _⟩
  | recoveringEnd => exact ⟨_, rfl, .event_inner fun hv => hv.recoveringEnds _⟩
  | svcKeyOn => exact ⟨_, rfl, .event fun _ => .keyOn⟩
  | svcKeyOff => exact ⟨_, rfl, .event fun _ => .of_ports⟩
  | pfailAssert | retentionLoss => exact ⟨_, rfl, .of_ports⟩
  | pfailNegate x => exact absurd rfl (noNegate x)
  | mainsReturn x => exact absurd rfl (noReturn x)
  | resetRelease x => exact absurd rfl (noRelease x)
  | mainsFall => exact absurd rfl noFall
  | resetAssert => exact absurd rfl noAssert
  | custodyTick => exact ⟨_, rfl, .custodyTicks⟩
  | chargeExpiry => exact ⟨_, rfl, .event_inner fun hv => hv.expireCharge _⟩
  | lockoutEnd => exact ⟨_, rfl, .event fun _ => .lockoutEnds⟩
  | sweepStart => exact ⟨_, rfl, .event_inner fun hv => hv.sweepBegin⟩
  | sweepColumnStep x =>
    exact ⟨_, rfl, .event fun v => (PortsBut.of_inner ((Inner.refl v).latch x)).trans .sweepStep⟩
  | openWindowEnd => exact ⟨_, rfl, .event_inner fun hv => hv.windowEnds _⟩
  | ajarTimerEnd => exact ⟨_, rfl, .event_inner fun hv => hv.ajarEnds _⟩
  | _ => exact (request_served rfl (by simp)).ports s

/-- What a command leads to leaves the ports so. -/
theorem ports_of_exec {c : Instr} (power : Instr.NoPower c) (h : exec c s = .next t) : PortsBut (ownPort c) s t := by
  obtain ⟨v, hv, kept⟩ := exec_ports power s
  cases h.symm.trans hv
  exact kept

/-! ### The frames -/

theorem ownPort_of_row {c : Instr} {row : Head × Nat × List Role × Nat} (h : requestRow c = some row) :
    ownPort c = some row.1.port := by
  unfold ownPort
  split
  case h_5 => rw [h]; rfl
  all_goals cases h

theorem noPower_of_row {c : Instr} {row : Head × Nat × List Role × Nat} (h : requestRow c = some row) :
    Instr.NoPower c := by
  refine ⟨⟨fun x same => ?_, fun x same => ?_, fun x same => ?_⟩, fun same => ?_, fun same => ?_⟩
  all_goals
    subst same
    cases h

theorem requestsKeepOtherPorts : Claims.RequestsKeepOtherPorts := by
  intro c hd code n roles s t row h q other
  refine (ports_of_exec (noPower_of_row row) h).others q ?_
  rw [ownPort_of_row row]
  exact fun same => other (Option.some.inj same).symm

theorem eventsKeepPorts : Claims.EventsKeepPorts := by
  intro c s t event power unknown discarded gap sent h q
  have own : ownPort c = none := by
    unfold ownPort
    split
    case h_1 => exact absurd rfl (unknown _ _)
    case h_2 => exact absurd rfl (discarded _)
    case h_3 => exact absurd rfl (gap _)
    case h_4 => exact absurd rfl (sent _)
    case h_5 => rw [event]; rfl
  refine (ports_of_exec power h).others q ?_
  rw [own]
  nofun

/-- Settles O38, from what every command leaves of the ports but its own. -/
theorem portsFrame : Obligations.PortsFrame := ⟨requestsKeepOtherPorts, eventsKeepPorts⟩

/-! ### The bound of the notice queues -/

/-- The ports that a start samples have empty queues (R205). -/
theorem mainsCleared_bounded (x : Straps) : (s.mainsCleared (sampledPorts x)).NoticesBounded := by
  intro q
  have empty : ((s.mainsCleared (sampledPorts x)).port q).queue = [] :=
    congrArg PortUnit.queue (Vector.getElem_ofFn ..)
  rw [empty]
  exact Nat.zero_le _

/-- A cold start posts BACKUP_LOST alone (R198). -/
theorem PortsBut.coldStarted : PortsBut none s s.coldStarted :=
  (of_ports (t := { s with
    custody := _, carriers := _, codeGen := _, tariff := _, charges := _, seq := _, clock := _, power := _ })).inner
    ((Inner.refl _).post ..)

theorem start_bounded (x : Straps) : (s.start x).NoticesBounded := by
  have sampled : (s.mainsCleared (sampledPorts x)).NoticesBounded := mainsCleared_bounded x
  cases whole : s.intact with
  | true =>
    rw [start_intact whole]
    exact sampled
  | false =>
    rw [start_cold whole]
    exact PortsBut.coldStarted.bounded sampled

/-- A stop empties the queues (R190). -/
theorem stopped_bounded (s : State) : s.stopped.NoticesBounded := by
  intro q
  have empty : (s.stopped.port q).queue = [] := congrArg PortUnit.queue (Vector.getElem_map ..)
  rw [empty]
  exact Nat.zero_le _

theorem tryStart_bounded (bounds : s.NoticesBounded) (k : Power) (x : Straps) :
    ({ s with power := k }.tryStart x : State).NoticesBounded := by
  unfold State.tryStart
  split
  · exact start_bounded x
  · exact bounds

theorem tryStop_bounded (bounds : s.NoticesBounded) (k : Power) :
    ({ s with power := k }.tryStop : State).NoticesBounded := by
  unfold State.tryStop
  split
  · exact stopped_bounded _
  · exact bounds

/-- No command lets a notice queue outgrow its bound. -/
theorem exec_bounded {c : Instr} (bounds : s.NoticesBounded) (h : exec c s = .next t) : t.NoticesBounded := by
  cases c with
  | mainsFall | resetAssert =>
    cases h
    exact tryStop_bounded bounds _
  | mainsReturn x =>
    cases h
    unfold State.mainsReturns
    split
    · exact bounds
    · exact tryStart_bounded bounds _ x
  | resetRelease x =>
    cases h
    unfold State.resetReleased
    split
    · exact tryStart_bounded bounds _ x
    · exact bounds
  | pfailNegate x =>
    cases h
    unfold State.pfailNegated
    split
    · exact (PortsBut.event_inner (s := s.setPfail false) fun hv => hv.markArbiter).bounded bounds
    · exact tryStart_bounded bounds _ x
  | _ => exact (ports_of_exec (by simp [Instr.NoPower, Instr.NoStart]) h).bounded bounds

theorem tick_ports (s : State) : s.tick.ports = s.ports := by
  unfold State.tick
  dsimp only
  split
  · rfl
  · rfl

/-- Settles O5: a command works on its own port without posting to it, every other change of a queue is a post, a start
and a stop empty the queues, and a cycle touches none. -/
theorem stepsKeepNoticeQueues : Obligations.StepsKeepNoticeQueues := by
  intro s t bounds h
  unfold step at h
  split at h
  · cases h
    exact (PortsBut.of_ports (own := none) (tick_ports s)).bounded bounds
  · rename_i c rest _
    exact exec_bounded (s := { s with pending := rest }) bounds h

end Sys2Proof.Machine
end

section
/-! SUPPORT. The checks of a complete frame (R202), what a port unit sends (R203, R204), and Read Notice (R206). -/

namespace Sys2Proof.Machine

variable {s : State} {hd : Head} {code : Byte} {carried : Role → Bool} {n : Nat} {late : State → List Field}
  {body : State → State × Answer} {p : Fin 4}

/-! ### The checks of a frame (R202) -/

theorem frameTaken_port (s : State) (p : Fin 4) : (s.frameTaken p).port p = { s.port p with receiving := [] } :=
  onPort_port_same ..

/-- What a running part does with a frame, by the checks of R202 in their order. -/
theorem serveLate_running (run : s.Running) :
    s.serveLate hd code carried n late body =
      if (s.port hd.port).busy then (s.frameTaken hd.port).onPort hd.port fun v => v.refuseBusy hd code
      else if !(s.port hd.port).role.any carried then (s.frameTaken hd.port).refuseFrame hd code .role
      else if hd.len ≠ n then (s.frameTaken hd.port).refuseFrame hd code .format
      else (s.frameTaken hd.port).takeRequest hd code late body := by
  unfold State.serveLate
  simp [run.2, begin_of_settled run.1, frameTaken_port]

/-- A role that is none of a request's carries it not. -/
theorem role_not_carried {roles : List Role} {role : Option Role} (carries : ∀ r, carried r = true ↔ r ∈ roles)
    (other : ∀ r ∈ roles, role ≠ some r) : role.any carried = false := by
  cases role with
  | none => rfl
  | some r =>
    have outside : r ∉ roles := fun inside => other r inside rfl
    exact Bool.eq_false_iff.mpr (mt (carries r).mp outside)

/-- A Port Reset is refused on a port without a role (R202). -/
theorem portReset_noRole (run : s.Running) (x : Sense) (role : (s.port hd.port).role = none) :
    s.portReset hd x = (s.frameTaken hd.port).refuseFrame hd 0x02#8 .role := by
  unfold State.portReset
  simp [run.2, begin_of_settled run.1, frameTaken_port, role]

/-- A Port Reset with a payload is refused (R202). -/
theorem portReset_wrongLength (run : s.Running) (x : Sense) {r : Role} (role : (s.port hd.port).role = some r)
    (len : hd.len ≠ 0) : s.portReset hd x = (s.frameTaken hd.port).refuseFrame hd 0x02#8 .format := by
  unfold State.portReset
  simp [run.2, begin_of_settled run.1, frameTaken_port, role, len]

theorem frameChecks : Claims.FrameChecks := by
  intro c hd code n roles s row run
  by_cases reset : ∃ x, c = .portReset hd x
  case pos =>
    obtain ⟨x, rfl⟩ := reset
    cases row
    refine ⟨fun _ other => absurd rfl (other x), fun _ other => ?_, fun r _ _ role len => ?_⟩
    · have noRole : (s.port hd.port).role = none := by
        cases role : (s.port hd.port).role with
        | none => rfl
        | some r => exact absurd role (other r (by cases r <;> simp))
      exact congrArg Host.Outcome.next (portReset_noRole run x noRole)
    · exact congrArg Host.Outcome.next (portReset_wrongLength run x role len)
  case neg =>
    obtain ⟨carried, late, body, served, carries, -⟩ := request_served row (not_exists.mp reset)
    rw [served, serveLate_running run]
    refine ⟨fun busy _ => ?_, fun free other => ?_, fun r mem free role len => ?_⟩
    · simp [busy]
    · simp [free, role_not_carried carries other]
    · simp [free, role, (carries r).mpr mem, len]

theorem unknownCodeRefused : Claims.UnknownCodeRefused := by
  intro hd code s run
  have served : exec (.unknownRequestCode hd code) s = .next (s.serveLate hd code (fun _ => false) 0 (fun _ => [])
    fun v => v.refuses .role) := rfl
  rw [served, serveLate_running run]
  refine ⟨fun free => ?_, fun busy => ?_⟩
  · simp [free]
  · simp [busy]

/-! ### What a port unit sends (R203, R204) -/

theorem oneBusyRefusalWaits : Claims.OneBusyRefusalWaits := by
  intro u hd code
  refine ⟨fun waits => ?_, fun free => ?_⟩
  · have busy : u.busyWaits = true := List.any_eq_true.mpr waits
    exact if_pos busy
  · have none_waits : u.busyWaits = false := List.any_eq_false.mpr fun x mem => by simp [free x mem]
    exact if_neg (by simp [none_waits])

theorem answersAreSent : Claims.AnswersAreSent := fun _ _ _ => ⟨fun _ => rfl, fun _ => rfl, rfl⟩

theorem spoiltFramesChangeNothing : Claims.SpoiltFramesChangeNothing := by
  intro p s running
  have spoilt : s.discardFrame p = s.frameTaken p := if_pos running
  exact ⟨congrArg Host.Outcome.next spoilt, congrArg Host.Outcome.next spoilt⟩

theorem sent_cons {u : PortUnit} {x : Transmission} {rest : List Transmission} (sending : u.sending = x :: rest) :
    u.sent = { u with sending := rest, busy := u.busy && !x.clearsBusy } := by
  unfold PortUnit.sent
  rw [sending]

theorem responseSentClearsBusy : Claims.ResponseSentClearsBusy := by
  intro p s x rest running sending
  calc exec (.responseSent p) s = .next (s.onPort p PortUnit.sent) := congrArg Host.Outcome.next (if_pos running)
    _ = _ := by rw [State.onPort, sent_cons sending]

/-! ### Notices (R205) -/

/-- Each port of the role takes a posted notice, and every other is left. -/
theorem post_port (s : State) (r : Role) (m : Notice) (p : Fin 4) :
    (s.post r m).port p = if (s.port p).role = some r then (s.port p).post m else s.port p :=
  Vector.getElem_map ..

theorem postedNoticeJoinsOrIsDropped : Claims.PostedNoticeJoinsOrIsDropped := by
  intro s r m p
  rw [post_port]
  refine ⟨fun role room => ?_, fun role full => ?_, fun other => if_neg other⟩
  · rw [if_pos role]
    exact if_pos room
  · rw [if_pos role]
    exact if_neg (not_lt.mpr full)

theorem attention_iff (u : PortUnit) : u.attention = true ↔ u.queue ≠ [] := by simp [PortUnit.attention]

/-- A queue that a notice was posted to holds one: the notice, or those that filled it. -/
theorem post_queue_ne_nil (u : PortUnit) (m : Notice) : (u.post m).queue ≠ [] := by
  unfold PortUnit.post
  split
  · simp
  · rename_i full
    intro empty
    exact full (by simp [show u.queue = [] from empty, Config.noticeCap])

theorem attentionLine : Claims.AttentionLine := by
  refine fun s r m p => ⟨attention_iff _, fun role => ?_⟩
  rw [attention_iff, post_port, if_pos role]
  exact post_queue_ne_nil _ _

/-! ### Read Notice (R206) -/

theorem readNotice_cons {m : Notice} {rest : List Notice} (queue : (s.port p).queue = m :: rest) :
    s.readNotice p = (s.onPort p fun u => { u with queue := rest }, done [.notice m]) := by
  unfold State.readNotice
  rw [queue]

theorem readNotice_nil (queue : (s.port p).queue = []) :
    s.readNotice p = (s.onPort p fun u => { u with overflow := false },
      { done [] with mark := some (s.port p).overflow }) := by
  unfold State.readNotice
  rw [queue]

/-- Settles O11, from the two cases of the queue. -/
theorem readNoticeTakesTheOldest : Obligations.ReadNoticeTakesTheOldest := by
  intro hd r s passes
  have settled : s.Settled := passes.1
  have unit := frameTaken_port s hd.port
  refine ⟨fun m rest queue => ?_, fun queue => ?_⟩
  · have oldest : ((s.frameTaken hd.port).port hd.port).queue = m :: rest := by rw [unit]; exact queue
    exact congrArg Host.Outcome.next (serve_answers passes rfl (readNotice_cons oldest) settled)
  · have empty : ((s.frameTaken hd.port).port hd.port).queue = [] := by rw [unit]; exact queue
    refine ⟨_, congrArg Host.Outcome.next (serve_answers passes rfl (readNotice_nil empty) settled), ?_⟩
    simp [State.respond, PortUnit.send, PortUnit.response, unit, queue, done]

end Sys2Proof.Machine
end

section
/-! SUPPORT. The bytes on the lines: the CRC of a frame (R201), the frame that a port unit receives (R201, R212), and
the frame that it sends (R204, R211). -/

namespace Sys2Proof.Machine

variable {s : State} {hd : Head} {p : Fin 4} {x : Sense}

/-! ### The CRC (R201) -/

/-- One more byte goes through the CRC's eight bits. -/
theorem crc16_append (m : List Byte) (b : Byte) : crc16 (m ++ [b]) = crcByte (crc16 m) b := by
  simp [crc16]

theorem crcOfAFrame : Claims.CrcOfAFrame :=
  ⟨rfl, fun m b => crc16_append m b, fun _ => ⟨fun top => if_pos top, fun top => if_neg (by simp [top])⟩, fun _ => rfl,
    by decide +kernel⟩

/-! ### The form of a response (R204) -/

/-- The overflow mark's byte, set before clear (log 17). -/
theorem markByte_eq (b : Bool) : markByte b = [if b then 0x00#8 else 0x01#8] := by
  cases b with
  | false => rfl
  | true => rfl

theorem responseBytes : Claims.ResponseBytes := by
  intro r payload
  have bytes : r.payload = payload := by
    obtain ⟨seq, code, result, reason, notices, overflow, fields⟩ := r
    unfold Response.payload
    rw [markByte_eq]
    cases result with
    | done => rfl
    | accepted => rfl
    | refused => rfl
  exact ⟨congrArg (frame r.seq r.code) bytes, rfl⟩

/-! ### The levels of a byte (R200) -/

theorem bytesOnTheLine : Claims.BytesOnTheLine :=
  ⟨fun _ => rfl, fun b t => ⟨rfl, lineBytes_byteLevels b t, lineBytes_noStop b t⟩,
    fun s p x bytes => ⟨lineBytes_bytes bytes, receiveLevels_bytes s p x bytes⟩⟩

/-! ### The command of a request code (R202, R212) -/

section
variable {c : Instr} {payload : List Byte} {k : Nat}

theorem withholdOf_row (hd : Head) (payload : List Byte) :
    ∃ roles n, requestRow (withholdOf hd payload) = some (hd, 0x41, roles, n) := by
  unfold withholdOf
  split
  all_goals exact ⟨_, _, rfl⟩

theorem resolveOf_row (hd : Head) (payload : List Byte) :
    ∃ roles n, requestRow (resolveOf hd payload) = some (hd, 0x42, roles, n) := by
  unfold resolveOf
  split
  all_goals exact ⟨_, _, rfl⟩

theorem readQueueOf_row (hd : Head) (payload : List Byte) :
    ∃ roles n, requestRow (readQueueOf hd payload) = some (hd, 0x54, roles, n) := by
  unfold readQueueOf
  split
  all_goals exact ⟨_, _, rfl⟩

theorem consoleRequest_row (h : consoleRequest hd payload x k = some c) :
    ∃ roles n, requestRow c = some (hd, k, roles, n) := by
  unfold consoleRequest at h
  split at h
  case h_8 => cases h
  all_goals
    cases h
    exact ⟨_, _, rfl⟩

theorem workRequest_row (h : workRequest hd payload x k = some c) :
    ∃ roles n, requestRow c = some (hd, k, roles, n) := by
  unfold workRequest at h
  split at h
  case h_9 => cases h
  all_goals
    cases h
    exact ⟨_, _, rfl⟩

theorem operationsRequest_row (h : operationsRequest hd payload k = some c) :
    ∃ roles n, requestRow c = some (hd, k, roles, n) := by
  unfold operationsRequest at h
  split at h
  case h_2 =>
    cases h
    exact withholdOf_row ..
  case h_3 =>
    cases h
    exact resolveOf_row ..
  case h_21 =>
    cases h
    exact readQueueOf_row ..
  case h_23 => cases h
  all_goals
    cases h
    exact ⟨_, _, rfl⟩

/-- A frame's command is that of its code's row, or tells that the code names no request. -/
theorem requestOf_row (hd : Head) (code : Byte) (payload : List Byte) (x : Sense) :
    requestOf hd code payload x = .unknownRequestCode hd code ∨
      ∃ roles n, requestRow (requestOf hd code payload x) = some (hd, code.toNat, roles, n) := by
  unfold requestOf
  split
  · rename_i is
    exact .inr ⟨_, _, by rw [is]; rfl⟩
  · rename_i is
    exact .inr ⟨_, _, by rw [is]; rfl⟩
  · split
    · rename_i found
      exact .inr (consoleRequest_row found)
    · rename_i found
      exact .inr (workRequest_row found)
    · rename_i found
      exact .inr (operationsRequest_row found)
    · exact .inl rfl

end

/-! ### The frame that is received (R201) -/

/-- What a whole frame's bytes say: its code's command where the CRC is that of its bytes, FRAME_DISCARDED otherwise. -/
theorem readFrame_whole (seq code : Byte) {payload crc : List Byte} (short : payload.length ≤ 255)
    (two : crc.length = 2) :
    let body := [BitVec.ofNat 8 payload.length, seq, code] ++ payload
    readFrame p x (0x5A#8 :: (body ++ crc)) = some (if crc = crcBytes body then
      requestOf { port := p, seq := seq, len := payload.length } code payload x else .frameDiscarded p) := by
  intro body
  have len : (BitVec.ofNat 8 payload.length).toNat = payload.length := by
    rw [BitVec.toNat_ofNat]
    omega
  have whole : (payload ++ crc).length = payload.length + 2 := by simp [two]
  show readFrame p x (0x5A#8 :: BitVec.ofNat 8 payload.length :: seq :: code :: (payload ++ crc)) = _
  unfold readFrame
  simp only [len, whole, List.take_left', List.drop_left', ne_eq, not_true_eq_false, or_self, if_false]
  exact (apply_ite some _ _ _).symm

/-- The bytes of a frame that follow what a hunting unit discards put its command behind those that wait. -/
theorem receiveBytes_junkThenFrame (seq code : Byte) {payload junk crc : List Byte} (running : s.power.running = true)
    (hunting : (s.port p).receiving = []) (short : payload.length ≤ 255) (noSync : 0x5A#8 ∉ junk)
    (two : crc.length = 2) :
    let body := [BitVec.ofNat 8 payload.length, seq, code] ++ payload
    s.receiveBytes p x (junk ++ 0x5A#8 :: (body ++ crc)) = { s with pending := s.pending ++ [if crc = crcBytes body then
      requestOf { port := p, seq := seq, len := payload.length } code payload x else .frameDiscarded p] } := by
  intro body
  have size : (seq :: code :: (payload ++ crc)).length = (BitVec.ofNat 8 payload.length).toNat + 4 := by
    rw [BitVec.toNat_ofNat]
    simp only [List.length_cons, List.length_append, two]
    omega
  have junked : s.receiveBytes p x junk = s := receiveBytes_hunting p x junk s hunting noSync
  calc s.receiveBytes p x (junk ++ 0x5A#8 :: (body ++ crc))
      = (s.receiveBytes p x junk).receiveBytes p x (0x5A#8 :: (body ++ crc)) := List.foldl_append ..
    _ = { s with pending := s.pending ++ (readFrame p x (0x5A#8 :: (body ++ crc))).toList } := by
      rw [junked]
      exact receiveBytes_frame p x _ _ s running hunting size
    _ = _ := by
      rw [readFrame_whole seq code short two]
      rfl

theorem framesAreReceived : Claims.FramesAreReceived := by
  refine ⟨?_, fun s p x b => ⟨fun running hunting => ?_, fun running inside => ?_, fun off => ?_⟩, requestOf_row⟩
  · intro s p x seq code payload junk crc running hunting short noSync two body waits
    refine ⟨receiveBytes_hunting p x junk s hunting noSync, ?_, rfl, fun other => ?_⟩
    · have received := receiveBytes_junkThenFrame (x := x) (crc := crcBytes body) seq code running hunting short
        noSync rfl
      exact received.trans (congrArg waits (if_pos rfl))
    · have received := receiveBytes_junkThenFrame (x := x) seq code running hunting short noSync two
      exact received.trans (congrArg waits (if_neg other))
  · simp [State.receive, running, PortUnit.receiveSpoilt, hunting]
  · obtain ⟨first, rest, begun⟩ := List.exists_cons_of_ne_nil inside
    simp [State.receive, running, PortUnit.receiveSpoilt, begun]
  · simp [State.receive, off]

/-- Settles O39, claim by claim: the checks and what a port sends, notices, and the bytes on the lines. -/
theorem framesOnTheLine : Obligations.FramesOnTheLine :=
  ⟨frameChecks, unknownCodeRefused, oneBusyRefusalWaits, answersAreSent, spoiltFramesChangeNothing,
    responseSentClearsBusy, postedNoticeJoinsOrIsDropped, attentionLine, bytesOnTheLine, framesAreReceived, crcOfAFrame,
    responseBytes⟩

end Sys2Proof.Machine
end

section
/-! The commands that wait (log 1). Only what stands outside the machine puts a command into the queue, so every command
leaves it as it is. -/

namespace Sys2Proof.Machine

/-- The commands that wait in t are those that wait in s. -/
def SameWaiting (s t : State) : Prop := t.pending = s.pending

variable {s t u : State} {hd : Head} {code : Byte} {carried : Role → Bool} {n : Nat} {late : State → List Field}
  {body : State → State × Answer}

theorem SameWaiting.refl (s : State) : SameWaiting s s := rfl

theorem SameWaiting.trans (a : SameWaiting s t) (b : SameWaiting t u) : SameWaiting s u := Eq.trans b a

/-- What a consequence inside a step can do puts no command into the queue and takes none from it. -/
theorem SameWaiting.of_inner (h : Inner s t) : SameWaiting s t := h.pending

theorem SameWaiting.inner (h : SameWaiting s t) (inside : Inner t u) : SameWaiting s u := h.trans (.of_inner inside)

theorem SameWaiting.complete (h : SameWaiting s t) : SameWaiting s t.complete := h.inner (Inner.refl t).complete

/-! ### Frames and events -/

/-- A frame leaves the commands that wait to its block's change (R202 to R204). -/
theorem SameWaiting.serveLate (hb : ∀ v, SameWaiting v (body v).1) :
    SameWaiting s (s.serveLate hd code carried n late body) := by
  unfold State.serveLate
  dsimp only
  split
  · rfl
  · split
    · rfl
    · split
      · rfl
      · split
        · rfl
        · exact SameWaiting.complete (hb (s.begin.frameTaken hd.port))

theorem SameWaiting.serve_inner (hb : ∀ {v w : State}, Inner v w → Inner v (body w).1) :
    SameWaiting s (s.serveLate hd code carried n late body) := serveLate fun v => .of_inner (hb (.refl v))

theorem SameWaiting.event {f : State → State} (hf : ∀ v, SameWaiting v (f v)) : SameWaiting s (s.event f) := by
  unfold State.event
  split
  · exact SameWaiting.complete (hf s.begin)
  · rfl

theorem SameWaiting.event_inner {f : State → State} (hf : ∀ {v w : State}, Inner v w → Inner v (f w)) :
    SameWaiting s (s.event f) := event fun v => .of_inner (hf (.refl v))

/-- The end of a pulse acts on an entry of the queue, with the sense lines as they stand then (R157 to R159). -/
theorem SameWaiting.pulseEvent (x : Sense) (col : Column) (admits : EntryClass → Bool)
    {act : State → Entry → State} (ha : ∀ {v w : State}, Inner v w → ∀ e ∈ w.seq.queue, Inner v (act w e)) :
    SameWaiting s (s.event fun v => (v.latch x).pulseEnds col admits act) :=
  event_inner fun hv => pulseEnds_keeps (hv.latch x) col admits act (ha (hv.latch x))

theorem SameWaiting.portReset (x : Sense) : SameWaiting s (s.portReset hd x) := by
  unfold State.portReset
  dsimp only
  split
  · rfl
  · split
    · rfl
    · split
      · rfl
      · have ready : SameWaiting s (((s.begin.frameTaken hd.port).latch x).onPort hd.port PortUnit.reset) := rfl
        exact (ready.inner ((Inner.refl _).resetRole _)).complete

theorem SameWaiting.discardFrame (p : Fin 4) : SameWaiting s (s.discardFrame p) := by
  unfold State.discardFrame
  split
  · rfl
  · rfl

theorem SameWaiting.readNotice (p : Fin 4) : SameWaiting s (s.readNotice p).1 := by
  unfold State.readNotice
  split
  · rfl
  · rfl

/-! ### Changes that `Inner` does not speak of -/

theorem SameWaiting.withCode {act : State → RecordNo → Consignment → State × Answer} (text : Text)
    (ha : ∀ v r k, SameWaiting v (act v r k).1) : SameWaiting s (s.withCode text act).1 :=
  withCode_keeps (.refl s) text rfl fun r k => ha s.knownAttempt r k

theorem SameWaiting.quoteKnown (r : RecordNo) (k : Consignment) : SameWaiting s (s.quoteKnown r k).1 := by
  have evaluated : SameWaiting s (s.addSticky (s.evaluate k).raised) := rfl
  refine check_keeps (.refl s) _ _ fun _ => check_keeps (.refl s) _ _ fun _ => ?_
  dsimp only
  split
  · exact evaluated.inner ((Inner.refl _).feeCondition ..)
  · exact check_keeps evaluated _ _ fun _ => evaluated.inner ((Inner.refl _).quoteOpens ..)

theorem SameWaiting.collectKnown (r : RecordNo) (k : Consignment) : SameWaiting s (s.collectKnown r k).1 := by
  have evaluated : SameWaiting s (s.addSticky (s.evaluate k).raised) := rfl
  refine check_keeps (.refl s) _ _ fun _ => check_keeps (.refl s) _ _ fun _ => ?_
  dsimp only
  split
  · exact evaluated.inner ((Inner.refl _).feeCondition ..)
  · split
    · exact evaluated
    · exact evaluated.inner ((Inner.refl _).collectClaims ..)

theorem SameWaiting.setCarrier (sel : BitVec 16) (v : CarrierFields) (i : Fin 8) :
    SameWaiting s (s.setCarrier sel v i).1 :=
  check_keeps (.refl s) _ _ fun _ => check_keeps (.refl s) _ _ fun _ => check_keeps (.refl s) _ _ fun _ => rfl

theorem SameWaiting.setTariff (target : Nat) (sel : BitVec 16) (v : ClassValues) (b : BankValues) :
    SameWaiting s (s.setTariff target sel v b).1 := by
  unfold State.setTariff
  split
  · exact check_keeps (.refl s) _ _ fun _ => rfl
  · split
    · exact check_keeps (.refl s) _ _ fun _ => check_keeps (.refl s) _ _ fun _ => rfl
    · rfl

theorem SameWaiting.setMasks (set : Byte) : SameWaiting s (s.setMasks set).1 := by
  unfold State.setMasks
  split
  · rfl
  · rfl

theorem SameWaiting.clearConditions (set : Byte) : SameWaiting s (s.clearConditions set).1 := by
  unfold State.clearConditions
  split
  · rfl
  · rfl

theorem SameWaiting.setTiming (sel : BitVec 16) (v : TimingFields) : SameWaiting s (s.setTiming sel v).1 :=
  check_keeps (.refl s) _ _ fun _ => check_keeps (.refl s) _ _ fun _ => rfl

theorem SameWaiting.keyOn : SameWaiting s s.keyOn := by
  unfold State.keyOn
  split
  · rfl
  · rfl

theorem SameWaiting.lockoutEnds : SameWaiting s s.lockoutEnds := by
  unfold State.lockoutEnds
  split
  · rfl
  · rfl

theorem SameWaiting.custodyTicks : SameWaiting s s.custodyTicks := by
  have ticked (k : Clock) : SameWaiting s { s with clock := k } := rfl
  unfold State.custodyTicks
  dsimp only
  split
  · split
    · exact ((ticked _).inner (Inner.refl _).begin.overstayScan).complete
    · exact ticked _
  · exact ticked _

theorem SameWaiting.sweepComplete : SameWaiting s s.sweepComplete := by
  unfold State.sweepComplete
  split
  · exact .of_inner ((Inner.refl s).reconcile.setPhase _)
  · rfl
  · rfl

theorem SameWaiting.sweepStep : SameWaiting s s.sweepStep := by
  have advanced : SameWaiting s s.takeColumn.advanceSweep := .of_inner (Inner.refl s).takeColumn.advanceSweep
  unfold State.sweepStep
  dsimp only
  split
  · rfl
  · split
    · exact advanced
    · exact advanced.trans .sweepComplete

/-! ### Power -/

/-- A start writes the state of its domain and, where the backup is lost, the retained state (R192, R198). -/
theorem SameWaiting.start (x : Straps) : SameWaiting s (s.start x) := by
  cases whole : s.intact with
  | true => rw [start_intact whole]; rfl
  | false => rw [start_cold whole]; rfl

theorem SameWaiting.tryStart (h : SameWaiting s t) (x : Straps) : SameWaiting s (t.tryStart x) := by
  unfold State.tryStart
  split
  · exact h.trans (.start x)
  · exact h

theorem SameWaiting.tryStop (h : SameWaiting s t) : SameWaiting s t.tryStop := by
  unfold State.tryStop
  split
  · exact h
  · exact h

theorem SameWaiting.pfailNegated (x : Straps) : SameWaiting s (s.pfailNegated x) := by
  unfold State.pfailNegated
  split
  · exact SameWaiting.event_inner (s := s.setPfail false) fun hv => hv.markArbiter
  · exact SameWaiting.tryStart rfl x

theorem SameWaiting.mainsReturns (x : Straps) : SameWaiting s (s.mainsReturns x) := by
  unfold State.mainsReturns
  split
  · rfl
  · exact SameWaiting.tryStart rfl x

theorem SameWaiting.resetReleased (x : Straps) : SameWaiting s (s.resetReleased x) := by
  unfold State.resetReleased
  split
  · exact SameWaiting.tryStart rfl x
  · rfl

/-! ### Every command -/

/-- Every command completes, and leaves the commands that wait. -/
theorem exec_sameWaiting (c : Instr) (s : State) : ∃ t, exec c s = .next t ∧ SameWaiting s t := by
  cases c with
  | readNotice hd => exact ⟨_, rfl, .serveLate fun _ => .readNotice hd.port⟩
  | portReset _ x => exact ⟨_, rfl, .portReset x⟩
  | lookup =>
    exact ⟨_, rfl, .serveLate fun v => guarded_keeps (.refl v) (.withCode _ fun _ _ _ => rfl)⟩
  | quote =>
    exact ⟨_, rfl, .serveLate fun v => guarded_keeps (.refl v) (.withCode _ fun _ => .quoteKnown)⟩
  | collect =>
    exact ⟨_, rfl, .serveLate fun v => guarded_keeps (.refl v) (.withCode _ fun _ => .collectKnown)⟩
  | voidQuote =>
    exact ⟨_, rfl, .serve_inner fun hv => guarded_keeps hv (withCharge_keeps hv _ _ fun _ _ => hv.voidNamed ..)⟩
  | returnBegin => exact ⟨_, rfl, .serve_inner fun hv => guarded_keeps hv (hv.returnBegin ..)⟩
  | returnCancel _ _ x =>
    exact ⟨_, rfl, .serve_inner fun hv => guarded_keeps (hv.latch x) ((hv.latch x).returnCancel _)⟩
  | releaseCharge => exact ⟨_, rfl, .serve_inner fun hv => withCharge_keeps hv _ _ fun _ _ => hv.releaseNamed ..⟩
  | slotWrite => exact ⟨_, rfl, .serve_inner fun hv => withSlot_keeps hv _ fun _ => hv.slotWrite ..⟩
  | slotRead => exact ⟨_, rfl, .serve_inner fun hv => withSlot_keeps hv _ fun _ => hv⟩
  | handOver => exact ⟨_, rfl, .serve_inner fun hv => withSlot_keeps hv _ fun _ => hv.handOver ..⟩
  | start => exact ⟨_, rfl, .serve_inner fun hv => withSlot_keeps hv _ fun _ => hv.engineStart _⟩
  | resume => exact ⟨_, rfl, .serve_inner fun hv => hv.engineResume⟩
  | stop _ x => exact ⟨_, rfl, .serve_inner fun hv => (hv.latch x).engineStop⟩
  | fetchCharge => exact ⟨_, rfl, .serve_inner fun hv => hv.fetchCharge _⟩
  | paymentResult => exact ⟨_, rfl, .serve_inner fun hv => hv.paymentResult ..⟩
  | setCompartment => exact ⟨_, rfl, .serve_inner fun hv => hv.setCompartment ..⟩
  | withholdToReview =>
    exact ⟨_, rfl, .serve_inner fun hv => guarded_keeps hv (check_keeps hv _ _ fun _ =>
      withComp_keeps hv _ fun _ => hv.withholdReview _)⟩
  | withholdToOutOfService =>
    exact ⟨_, rfl, .serve_inner fun hv => guarded_keeps hv (check_keeps hv _ _ fun _ =>
      withComp_keeps hv _ fun _ => hv.withholdOos _)⟩
  | resolveReviewRestore => exact ⟨_, rfl, .serve_inner fun hv => resolve_keeps hv _ _ fun _ => hv.restore _⟩
  | resolveReviewWaive => exact ⟨_, rfl, .serve_inner fun hv => resolve_keeps hv _ _ fun _ => hv.waive _⟩
  | resolveReviewRetire =>
    exact ⟨_, rfl, .serve_inner fun hv => resolve_keeps hv _ _ fun _ => hv.removeHolding ..⟩
  | resolveReviewWithdraw =>
    exact ⟨_, rfl, .serve_inner fun hv => resolve_keeps hv _ _ fun _ => hv.outOfService ..⟩
  | returnToService =>
    exact ⟨_, rfl, .serve_inner fun hv => guarded_keeps hv (withComp_keeps hv _ fun _ => hv.returnToService _)⟩
  | amendHolding =>
    exact ⟨_, rfl, .serve_inner fun hv => guarded_keeps hv (withComp_keeps hv _ fun _ => hv.amendHolding ..)⟩
  | setCarrier => exact ⟨_, rfl, .serveLate fun v => withCarrier_keeps (.refl v) _ fun _ => .setCarrier ..⟩
  | readCarrier => exact ⟨_, rfl, .serve_inner fun hv => withCarrier_keeps hv _ fun _ => hv⟩
  | setTariff => exact ⟨_, rfl, .serveLate fun _ => .setTariff ..⟩
  | readTariff => exact ⟨_, rfl, .serve_inner fun hv => hv.readTariff _⟩
  | setMasks => exact ⟨_, rfl, .serveLate fun _ => .setMasks _⟩
  | clearConditions => exact ⟨_, rfl, .serveLate fun _ => .clearConditions _⟩
  | serviceRelease => exact ⟨_, rfl, .serve_inner fun hv => guarded_keeps hv (hv.serviceReleaseOf ..)⟩
  | withdrawService => exact ⟨_, rfl, .serve_inner fun hv => withComp_keeps hv _ fun _ => hv.withdrawService _⟩
  | testPulse =>
    exact ⟨_, rfl, .serve_inner fun hv => guarded_keeps hv (withComp_keeps hv _ fun _ => hv.testPulse _)⟩
  | columnRestore => exact ⟨_, rfl, .serve_inner fun hv => guarded_keeps hv (hv.columnRestore _)⟩
  | setTiming => exact ⟨_, rfl, .serveLate fun _ => .setTiming ..⟩
  | readCompartment => exact ⟨_, rfl, .serve_inner fun hv => withComp_keeps hv _ fun _ => hv⟩
  | readConsignment => exact ⟨_, rfl, .serve_inner fun hv => hv.readConsignment _⟩
  | readCharge => exact ⟨_, rfl, .serve_inner fun hv => hv.readCharge _⟩
  | readQueueQueue | readQueueEngine | readQueueLists =>
    exact ⟨_, rfl, .serve_inner fun hv => check_keeps hv _ _ fun _ => hv⟩
  | readQueuePickup => exact ⟨_, rfl, .serve_inner fun hv => hv.readPickup ..⟩
  | readConditions | readClock | unknownRequestCode => exact ⟨_, rfl, .serve_inner fun hv => hv⟩
  | frameDiscarded | frameGapTimeout => exact ⟨_, rfl, .discardFrame _⟩
  | responseSent =>
    refine ⟨_, rfl, ?_⟩
    split
    · rfl
    · rfl
  | armingEnd => exact ⟨_, rfl, .event_inner fun hv => hv.armingEnds _⟩
  | pulseGood _ x => exact ⟨_, rfl, .pulseEvent x _ _ fun hv e _ => hv.pulseGoodEnd e⟩
  | pulseOpenCoil _ x => exact ⟨_, rfl, .pulseEvent x _ _ fun hv e he => hv.pulseOpenEnd e he⟩
  | pulseShort _ x => exact ⟨_, rfl, .pulseEvent x _ _ fun hv e _ => hv.shortEnd e⟩
  | testPulseEnd _ o x => exact ⟨_, rfl, .pulseEvent x _ _ fun hv e _ => hv.testPulseEnd e o⟩
  | runWindowEnd _ x => exact ⟨_, rfl, .event_inner fun hv => (hv.latch x).runWindowEnds _⟩
  | recoveringEnd => exact ⟨_, rfl, .event_inner fun hv => hv.recoveringEnds _⟩
  | svcKeyOn => exact ⟨_, rfl, .event fun _ => .keyOn⟩
  | svcKeyOff => exact ⟨_, rfl, .event fun _ => rfl⟩
  | pfailAssert | retentionLoss => exact ⟨_, rfl, rfl⟩
  | mainsFall | resetAssert => exact ⟨_, rfl, .tryStop rfl⟩
  | pfailNegate x => exact ⟨_, rfl, .pfailNegated x⟩
  | mainsReturn x => exact ⟨_, rfl, .mainsReturns x⟩
  | resetRelease x => exact ⟨_, rfl, .resetReleased x⟩
  | custodyTick => exact ⟨_, rfl, .custodyTicks⟩
  | chargeExpiry => exact ⟨_, rfl, .event_inner fun hv => hv.expireCharge _⟩
  | lockoutEnd => exact ⟨_, rfl, .event fun _ => .lockoutEnds⟩
  | sweepStart => exact ⟨_, rfl, .event_inner fun hv => hv.sweepBegin⟩
  | sweepColumnStep x =>
    exact ⟨_, rfl, .event fun v => (SameWaiting.of_inner ((Inner.refl v).latch x)).trans .sweepStep⟩
  | openWindowEnd => exact ⟨_, rfl, .event_inner fun hv => hv.windowEnds _⟩
  | ajarTimerEnd => exact ⟨_, rfl, .event_inner fun hv => hv.ajarEnds _⟩

/-- Settles O3, from what each command leaves of the queue. -/
theorem everyCommandCompletes : Obligations.EveryCommandCompletes := exec_sameWaiting

end Sys2Proof.Machine
end

section
/-! A step: the command that waits first, or, with none waiting, what a crystal cycle leaves of each part (log 4). -/

namespace Sys2Proof.Machine

variable {s : State}

/-! ### The two cases of a step -/

/-- A step of a state in which a command waits is that command's, on the state without it. -/
theorem step_cons {c : Instr} {rest : List Instr} (front : s.pending = c :: rest) :
    step s = exec c { s with pending := rest } := by
  unfold step
  rw [front]

/-- With no command waiting a cycle passes (log 4). -/
theorem step_nil (empty : s.pending = []) : step s = .next s.tick := by
  unfold step
  rw [empty]

/-- Settles O1, from the first case of a step. -/
theorem stepTakesTheFront : Obligations.StepTakesTheFront := fun _ _ _ => step_cons rfl

/-! ### What a cycle leaves of a table's entry -/

theorem down_le (left : Nat) : down left ≤ left := by
  unfold down unitsPerCycle
  split <;> omega

theorem columnCycle_untimed (st : ColumnState) : st.cycle.untimed = st.untimed := by
  cases st with
  | idle | arming | armed | pulsing | recovering | disabled => simp only [ColumnState.cycle, ColumnState.untimed]

theorem doorCycle_untimed (d : Door) : d.cycle.untimed = d.untimed := by
  cases d with
  | shut | released | opened | ajar | forced => rfl

/-- A cycle writes the records and the second count of the charge table alone (R125, R138). -/
theorem chargeTableCycle_eq (t : ChargeTable) :
    t.cycle = { t with recs := t.cycle.recs, second := t.cycle.second, subSecond := t.cycle.subSecond } := by
  unfold ChargeTable.cycle
  dsimp only
  split
  · rfl
  · rfl

/-- Inside a second only its cycles are counted (R125). -/
theorem chargeTableCycle_inSecond {t : ChargeTable} (inside : t.subSecond + 1 < 32768) :
    t.cycle.second = t.second ∧ t.cycle.subSecond = t.subSecond + 1 := by
  unfold ChargeTable.cycle
  rw [if_pos inside]
  exact ⟨rfl, rfl⟩

theorem clockCycle_below {k : Clock} (below : k.subMinute + 1 < Config.subMinutes) :
    k.cycle = { k with subMinute := k.subMinute + 1 } := if_pos below

/-! ### What a cycle makes of the state -/

/-- A part that is stopped counts the cycle on its clock alone (R189). -/
theorem tick_stopped (stopped : s.power.running = false) : s.tick = { s with clock := s.clock.cycle } := by
  unfold State.tick
  simp [stopped]

theorem tick_running (running : s.power.running = true) :
    s.tick = { s with clock := s.clock.cycle }.mainsCycle := by
  unfold State.tick
  simp [running]

/-- The parts of the mains domain that a cycle writes. -/
theorem mainsCycle_eq (s : State) : s.mainsCycle = { s with
    charges := { s.charges with
      recs := s.mainsCycle.charges.recs, second := s.mainsCycle.charges.second
      subSecond := s.mainsCycle.charges.subSecond }
    seq := { s.seq with columns := s.mainsCycle.seq.columns }
    scanner := { s.scanner with
      doors := s.mainsCycle.scanner.doors, baseline := s.mainsCycle.scanner.baseline
      sweepLeft := s.mainsCycle.scanner.sweepLeft, stepLeft := s.mainsCycle.scanner.stepLeft }
    limiter := { s.limiter with lockout := s.mainsCycle.limiter.lockout } } :=
  congrArg (fun table : ChargeTable => { s.mainsCycle with charges := table }) (chargeTableCycle_eq s.charges)

theorem mainsCycle_door (s : State) (c : Comp) : s.mainsCycle.door c = (s.door c).map Door.cycle := by
  show (s.scanner.doors.map fun d => d.map Door.cycle)[c.val] = _
  rw [Vector.getElem_map]
  rfl

theorem mainsCycle_baseline (s : State) (c : Comp) :
    s.mainsCycle.scanner.baseline.get c = (s.scanner.baseline.get c).map BaselineSample.cycle := by
  show (s.scanner.baseline.map fun b => b.map BaselineSample.cycle)[c.val] = _
  rw [Vector.getElem_map]
  rfl

/-- A cycle changes of a charge the time left to its expiry, which neither runs out nor starts (R138; log 4). -/
theorem chargeCycle_expiry (r : ChargeRecord) : r.cycle = { r with expiry := r.cycle.expiry } ∧
    r.cycle.expiry ≤ r.expiry ∧ (r.cycle.expiry = 0 ↔ r.expiry = 0) :=
  ⟨rfl, down_le _, down_eq_zero _⟩

theorem mainsCycle_door_untimed (s : State) (c : Comp) :
    (s.mainsCycle.door c).map Door.untimed = (s.door c).map Door.untimed := by
  rw [mainsCycle_door, Option.map_map]
  exact congrArg (fun f => (s.door c).map f) (funext doorCycle_untimed)

theorem mainsCycle_baseline_presence (s : State) (c : Comp) :
    (s.mainsCycle.scanner.baseline.get c).map (fun b => b.presence) =
      (s.scanner.baseline.get c).map fun b => b.presence := by
  rw [mainsCycle_baseline, Option.map_map]
  rfl

/-- Settles O2, by whether the part runs. -/
theorem emptyQueueCountsOneCycle : Obligations.EmptyQueueCountsOneCycle := by
  intro s empty
  refine ⟨s.tick, step_nil empty, fun below => ?_, tick_stopped, fun running => ?_⟩
  · rw [tick_clock]
    exact clockCycle_below below
  · rw [tick_running running]
    refine ⟨mainsCycle_eq { s with clock := s.clock.cycle }, fun i => ?_, chargeTableCycle_inSecond, fun c => ?_,
      mainsCycle_door_untimed _, mainsCycle_baseline_presence _, Option.isSome_map⟩
    · rw [mainsCycle_charge]
      exact chargeCycle_expiry (s.charge i)
    · rw [mainsCycle_column]
      exact columnCycle_untimed _

end Sys2Proof.Machine
end
